-- ==== Sys2Proof/Word.lean ====
section
/-! DEFINITION. The widths of the numbers that wrap: a byte of the loop, a count of the 24-bit
timebase (R1), and the 16 and 32 bit fields of the frames. -/

namespace Sys2Proof

/-- One byte of a loop frame (R167). -/
abbrev Byte := BitVec 8

/-- A value of the 24-bit timebase counter (R1). The difference of two values, taken modulo 2^24, is
their difference as bit vectors. -/
abbrev Count := BitVec 24

/-- A two-byte field of a frame (R184): a host tag, a day number. -/
abbrev Word16 := BitVec 16

/-- A four-byte field of a frame (R184), and the mill second count (R10), which wraps at 2^32. -/
abbrev Word32 := BitVec 32

end Sys2Proof
end

