-- ==== Sys2Proof/Syntax.lean ====
section
/-! DEFINITION. The commands: one constructor for each row of spec/opcode_table.json. A command is one
whole step of the part: an event on a pin, the expiry of a timer, the arrival of a frame, or a request
of the host. Each constructor carries what its rule says the event carries. -/

namespace Sys2Proof

/-- The two filtered inputs (R2). -/
inductive EdgeInput where
  | xing | tooth
deriving DecidableEq, Repr

/-- The two water nodes (R71). -/
inductive WaterNode where
  | pond | gate
deriving DecidableEq, Repr

/-- What a feeder node last said of a breaker (R88, R92). -/
inductive BreakerReport where
  | opened | closed | failed | unknown
deriving DecidableEq, Repr

/-- The commands of the Silgart 410, in the order of the table. In the host's requests `src` is the
loop address the request came from and `tag` its host tag (R176). -/
inductive Instr where
  | coldReset (straps : BitVec 6)
  | acceptedRisingCrossingEdge (t : Count) (lag : Nat)
  | acceptedFallingEdge (input : EdgeInput)
  | lossTimerExpiry
  | acceptedRisingToothEdge (t : Count)
  | toothOverspeed
  | toothSilenceExpiry
  | millSecond
  | runupAccepted
  | runupTimerExpiry
  | stopTimerExpiry
  | signalLossTimerExpiry
  | collapseTimerExpiry
  | freqOverspeedTimerExpiry
  | trimPulseStart
  | trimPulseEnd
  | gateEvaluation
  | shortageEvent
  | waterNodeSilenceExpiry (node : WaterNode)
  | feederSilenceExpiry (slot : Nat)
  | recloseExpiry (circuit : Nat)
  | limitTrip (circuit : Nat) (reading : Nat)
  | breakerDisagree (circuit : Nat) (report : BreakerReport)
  | shedTimerExpiry
  | restore
  | reserveTimerExpiry
  | sawSettleExpiry
  | clutchConfirmExpiry
  | rundownExpiry
  | grantExpiry
  | sawSilenceExpiry
  | loopSilenceExpiry
  | frameArrival (bytes : List Byte) (stopBitLow : Bool)
  | fragmentDiscard
  | arbiterFrameStart
  | frameSent
  | pondSample (payload : List Byte)
  | gateSample (payload : List Byte)
  | feederSample (slot : Nat) (payload : List Byte)
  | sawSample (payload : List Byte)
  | readEntries (src : Byte) (tag : Word16) (table first count : Byte)
  | writeEntries (src : Byte) (tag : Word16) (table first count : Byte) (values : List Byte)
  | readStatus (src : Byte) (tag : Word16) (section_ : Byte)
  | readConditions (src : Byte) (tag : Word16)
  | acknowledge (src : Byte) (tag : Word16) (set : Word32)
  | setNotices (src : Byte) (tag : Word16) (set : Word32)
  | setPlantRunup (src : Byte) (tag : Word16)
  | setPlantStopped (src : Byte) (tag : Word16)
  | setPlantTripped (src : Byte) (tag : Word16)
  | setClock (src : Byte) (tag : Word16) (day : Word16) (second : Word32)
  | setTimeError (src : Byte) (tag : Word16) (te : Word16)
  | circuitAdminOff (src : Byte) (tag : Word16) (circuit : Byte)
  | circuitAdminOn (src : Byte) (tag : Word16) (circuit : Byte)
  | releaseLockout (src : Byte) (tag : Word16) (circuit : Byte)
  | clearEnergy (src : Byte) (tag : Word16) (circuit : Byte)
  | journalFind (src : Byte) (tag : Word16) (start : Word32) (kind subject : Byte)
  | journalRead (src : Byte) (tag : Word16) (seq : Word32)
  | restart (src : Byte) (tag : Word16)
  | unknownRequest (src : Byte) (payload : List Byte)
  | lineIdleBeforeComplete
deriving DecidableEq, Repr

end Sys2Proof
end

