-- ==== Sys2Proof/Config.lean ====
section
/-! DEFINITION. What the manual leaves open. Each constant has no body: a statement proved about the
model holds whatever its value. -/

namespace Sys2Proof

/-- FREE. An accepted valid period goes to the Plant State Controller and to the Governor, and R55 lets
either take it first. `plantFirst n` is that choice at the `n`-th valid period (assumption 6). -/
opaque Config.plantFirst : Nat → Bool

/-- FREE. The Load Shedding Unit and the Saw Coordinator take one demand update in either order (R121,
R141). `shedFirst n` is that choice at the `n`-th valid period (assumption 6). -/
opaque Config.shedFirst : Nat → Bool

/-- FREE. R6 divides by the tooth period. No filtered input gives a period of 0, but a commanded pair
of edges can, and R6 states no speed for it (assumption 7). The argument is TEETH. -/
opaque Config.speedOfZeroPeriod : Nat → Nat

end Sys2Proof
end

