-- ==== Sys2Proof/Machine/Settings.lean ====
section
/-! DEFINITION. The settings of Table 10-8: their numbers, ranges and defaults, and the other defaults
of the Table Store at cold reset (Tables 1-4 and 9-6). -/

namespace Sys2Proof.Machine

/-! The numbers of the settings (Table 10-8). -/

abbrev Setting.NOMINAL_HZ : Nat := 0
abbrev Setting.CROSS_FILTER : Nat := 1
abbrev Setting.TOOTH_FILTER : Nat := 2
abbrev Setting.TEETH : Nat := 3
abbrev Setting.OVERSPEED_PERIOD : Nat := 4
abbrev Setting.SIGNAL_LOSS_TIME : Nat := 5
abbrev Setting.KP_NORMAL : Nat := 6
abbrev Setting.KI_NORMAL : Nat := 7
abbrev Setting.KP_SAW : Nat := 8
abbrev Setting.KI_SAW : Nat := 9
abbrev Setting.BALLAST_W : Nat := 10
abbrev Setting.TRIM_PULSE : Nat := 11
abbrev Setting.EARLY_GUARD : Nat := 12
abbrev Setting.END_GUARD : Nat := 13
abbrev Setting.MIN_CONDUCTION : Nat := 14
abbrev Setting.CORR_OFFSET : Nat := 15
abbrev Setting.CORR_START : Nat := 16
abbrev Setting.CORR_STOP : Nat := 17
abbrev Setting.RUNUP_ACCEPT : Nat := 18
abbrev Setting.RUNUP_TIMEOUT : Nat := 19
abbrev Setting.STOP_TIMEOUT : Nat := 20
abbrev Setting.FREQ_OVERSPEED : Nat := 21
abbrev Setting.SHED_BAND : Nat := 22
abbrev Setting.SHED_DELAY : Nat := 23
abbrev Setting.EMERGENCY_DROP : Nat := 24
abbrev Setting.COLLAPSE_DROP : Nat := 25
abbrev Setting.COLLAPSE_TIME : Nat := 26
abbrev Setting.RESTORE_MARGIN : Nat := 27
abbrev Setting.RESTORE_DELAY : Nat := 28
abbrev Setting.OVER_COUNT : Nat := 29
abbrev Setting.STRIKE_LIMIT : Nat := 30
abbrev Setting.STRIKE_WINDOW : Nat := 31
abbrev Setting.RECLOSE_DELAY : Nat := 32
abbrev Setting.GATE_INTERVAL : Nat := 33
abbrev Setting.OPEN_STEP : Nat := 34
abbrev Setting.CLOSE_STEP : Nat := 35
abbrev Setting.GATE_RUN_MIN : Nat := 36
abbrev Setting.GATE_START : Nat := 37
abbrev Setting.LEVEL_LOW : Nat := 38
abbrev Setting.LEVEL_HIGH : Nat := 39
abbrev Setting.LEVEL_BAND : Nat := 40
abbrev Setting.RESIDUAL_MIN : Nat := 41
abbrev Setting.DEMAND_LOW : Nat := 42
abbrev Setting.DEMAND_HIGH : Nat := 43
abbrev Setting.SHORTAGE_GRACE : Nat := 44
abbrev Setting.SAW_RESERVE_W : Nat := 45
abbrev Setting.SAW_FLOOR : Nat := 46
abbrev Setting.RESERVE_TIMEOUT : Nat := 47
abbrev Setting.CLUTCH_CONFIRM : Nat := 48
abbrev Setting.ENGAGE_SETTLE : Nat := 49
abbrev Setting.GRANT_LENGTH : Nat := 50
abbrev Setting.EXTEND_MIN_LEFT : Nat := 51
abbrev Setting.EXTEND_LENGTH : Nat := 52
abbrev Setting.RUNDOWN : Nat := 53
abbrev Setting.NOTICE_ADDRESS : Nat := 54
abbrev Setting.LOOP_SILENCE : Nat := 55
abbrev Setting.NODE_SILENCE_S : Nat := 56

/-- Each setting's lowest value, highest value and cold-reset default, by number (Table 10-8).
NOMINAL_HZ admits 50 and 60 only, which R179 states beside its range. -/
def settingRows : List (Nat × Nat × Nat) :=
  [(50, 60, 50), (2, 64, 12), (2, 64, 4), (1, 240, 60), (100, 65535, 1739),
   (200, 5000, 1000), (0, 4095, 512), (0, 4095, 64), (0, 4095, 768), (0, 4095, 96),
   (1000, 60000, 16000), (100, 1600, 400), (0, 2000, 200), (0, 2000, 200), (0, 512, 64),
   (0, 100, 20), (50, 3000, 250), (0, 2999, 25), (10, 500, 50)] ++
  [(30, 600, 120), (30, 600, 180), (3000, 10000, 7500), (100, 2000, 300), (1, 30, 2),
   (1000, 8000, 4000), (1000, 10000, 5000), (1, 10, 2), (0, 5000, 300), (5, 300, 10),
   (1, 10, 3), (1, 9, 3), (10, 240, 60), (30, 1800, 120), (2, 60, 10),
   (1, 100, 10), (1, 200, 20), (0, 500, 150), (50, 1000, 400)] ++
  [(0, 4000, 1200), (0, 4000, 2600), (0, 1000, 200), (0, 65535, 40), (0, 4096, 256),
   (0, 4096, 3072), (1, 120, 15), (0, 60000, 6000), (1, 3, 2), (10, 300, 60),
   (1, 20, 5), (2, 60, 10), (10, 240, 60), (1, 30, 3), (5, 120, 30),
   (1, 60, 8), (0, 62, 0), (50, 2000, 200), (2, 30, 6)]

/-- The settings at cold reset (R179). -/
def defaultSettings : List Nat :=
  settingRows.map fun r => r.2.2

/-- The value lies in its setting's range (R179, Table 10-8). -/
def settingInRange (i v : Nat) : Bool :=
  match settingRows[i]? with
  | some (lo, hi, _) =>
      decide (lo ≤ v) && decide (v ≤ hi) && (i != Setting.NOMINAL_HZ || v == 50 || v == 60)
  | none => false

/-- The starts and ends of EVENING, NIGHT and SAW at cold reset (Table 1-4). -/
def defaultWindows : List (Nat × Nat) :=
  [(1080, 1380), (1380, 360), (480, 1020)]

/-- The own address that strap levels give (R169): 0 and 63 give 1, every other value itself. -/
def addressOfStraps (straps : BitVec 6) : Nat :=
  if straps.toNat = 0 ∨ straps.toNat = 63 then 1 else straps.toNat

/-- The length of the loop silence timer in counts, for a LOOP_SILENCE in milliseconds (R172). -/
def loopSilenceCounts (ms : Nat) : Nat := ms * 2000

end Sys2Proof.Machine
end

