-- ==== Sys2Proof/Machine/State.lean ====
section
/-! DEFINITION. The state of the part, block by block as Table 0-2 names the blocks, its reset, and the
reasons a step can stop. Plain data. A timer that is `none` is stopped. -/

namespace Sys2Proof.Machine

/-! ## Edge Capture Unit (chapter 1) -/

/-- An input filter (R2). `runStart` is the count of the sample that made the run count 1. -/
structure InputFilter where
  level : Bool
  run : Nat
  runStart : Count
deriving DecidableEq, Repr

/-- The signal state (R5). -/
inductive Signal where
  | lost | present
deriving DecidableEq, Repr

/-- Table 1-3, with the timebase counter (R1). The loss and tooth silence timers hold the counts still
to pass. `shaftCause` says that a cause of SHAFT_SENSOR has begun and not ended (R8). -/
structure EdgeCapture where
  timebase : Count
  xing : InputFilter
  tooth : InputFilter
  tPrev : Option Count
  period : Option Nat
  freq : Option Nat
  signal : Signal
  lossTimer : Option Nat
  lastTooth : Option Count
  toothPeriod : Option Nat
  toothSilence : Option Nat
  toothSilent : Bool
  shaftCause : Bool
  overspeed : Nat
deriving DecidableEq, Repr

/-- The levels at the two edge input pins, driven from outside (Table 10-9). -/
structure Pins where
  xing : Bool
  tooth : Bool
deriving DecidableEq, Repr

/-! ## Mill Time Unit (chapter 1) -/

/-- A set day clock: a day number and a second of day (R11). -/
structure DayClock where
  day : Word16
  sec : Nat
deriving DecidableEq, Repr

/-- The direction of the correction offset (R19): −1, 0 or +1. -/
inductive Direction where
  | minus | zero | plus
deriving DecidableEq, Repr

/-- Table 1-7. The window entries are in the Table Store; the setpoint is computed (R20). -/
structure MillTime where
  divider : Nat
  count : Word32
  clock : Option DayClock
  te : Int
  direction : Direction
  eveningOpen : Bool
  nightOpen : Bool
  sawOpen : Bool
deriving DecidableEq, Repr

/-! ## Governor and Ballast Firing Unit (chapter 2) -/

inductive GainSet where
  | normal | saw
deriving DecidableEq, Repr

/-- Table 2-2. -/
structure Governor where
  d : Nat
  ePrev : Int
  residue : Nat
  active : GainSet
  pendingSet : Option GainSet
  engaged : Bool
deriving DecidableEq, Repr

inductive PulseStage where
  | waiting | delivering
deriving DecidableEq, Repr

/-- A trim pulse record (R32). -/
structure Pulse where
  start : Count
  stop : Count
  stage : PulseStage
deriving DecidableEq, Repr

/-- Table 2-7: the step banks (pins STEP1..STEP3), the records, the TRIM_GATE pin, and the number of
pulses scheduled at the last demand update (R32). -/
structure Firing where
  step1 : Bool
  step2 : Bool
  step3 : Bool
  pulses : List Pulse
  trimGate : Bool
  scheduled : Nat
deriving DecidableEq, Repr

/-! ## Plant State Controller (chapter 3) -/

/-- Table 3-1. -/
inductive PlantState where
  | stopped | runup | run | stopping | tripped
deriving DecidableEq, Repr

/-- Table 3-2. -/
inductive Cause where
  | powerOn | restart | host | runupDone | waterShort | stopDone | stopTimeout | overspeed
  | signalLoss | underfrequency | runupTimeout | gateFault
deriving DecidableEq, Repr

/-- The plant state, its cause and the items of Table 3-4. The run-up and stop timers hold the mill
seconds counted; the other three hold the counts still to pass. -/
structure Plant where
  state : PlantState
  cause : Cause
  accept : Nat
  runupTimer : Option Nat
  stopTimer : Option Nat
  signalLoss : Option Nat
  collapse : Option Nat
  freqOverspeed : Option Nat
deriving DecidableEq, Repr

/-! ## Water Controller (chapter 4) -/

inductive GateStatus where
  | ok | moving | fault
deriving DecidableEq, Repr

/-- Table 4-1. The timers hold the mill seconds counted. -/
structure Water where
  level : Option Nat
  head : Option Nat
  flow : Option Nat
  gate : Nat
  gatePos : Option Nat
  gateStatus : Option GateStatus
  demandSum : Nat
  demandCount : Nat
  evalTimer : Option Nat
  shortage : Nat
  pondSilence : Option Nat
  gateSilence : Option Nat
  pondSilent : Bool
  gateSilent : Bool
deriving DecidableEq, Repr

/-! ## Circuit Controller (chapter 5) -/

/-- Table 5-2. -/
inductive CircuitState where
  | absent | dark | closed | limitOpen | shed | locked | off
deriving DecidableEq, Repr

/-- One circuit entry: the host-written fields of Table 5-1 and the live fields of Table 5-3. -/
structure Circuit where
  present : Bool
  label : Nat
  tier : Nat
  dayAllow : Nat
  eveningAllow : Nat
  nightAllow : Nat
  state : CircuitState
  overCount : Nat
  strikes : Nat
  windowStart : Option Word32
  reclose : Option Nat
  reading : Nat
  report : BreakerReport
  disagree : Nat
  energy : Nat
  residue : Nat
deriving DecidableEq, Repr

/-- A circuit entry at cold reset (R87, Table 5-3). -/
def Circuit.blank : Circuit where
  present := false
  label := 0
  tier := 0
  dayAllow := 0
  eveningAllow := 0
  nightAllow := 0
  state := .absent
  overCount := 0
  strikes := 0
  windowStart := none
  reclose := none
  reading := 0
  report := .unknown
  disagree := 0
  energy := 0
  residue := 0

/-- The six host-written fields of a circuit entry as a write request carries them (R89). -/
structure CircuitFields where
  present : Nat
  label : Nat
  tier : Nat
  dayAllow : Nat
  eveningAllow : Nat
  nightAllow : Nat
deriving DecidableEq, Repr

/-- What is held for a feeder slot (R93, R95). The silence timer counts mill seconds; the interval
counter is held in timebase counts, 2,000 to each of its milliseconds. -/
structure Feeder where
  silence : Option Nat
  silent : Bool
  interval : Option Nat
deriving DecidableEq, Repr

structure Hamlet where
  entries : List Circuit
  feeders : List Feeder
deriving DecidableEq, Repr

/-! ## Load Shedding Unit (chapter 6) -/

inductive ShedCause where
  | runup | frequency | saw
deriving DecidableEq, Repr

/-- Table 6-1. -/
structure ShedEntry where
  circuit : Nat
  cause : ShedCause
  load : Nat
  time : Option Nat
deriving DecidableEq, Repr

/-- The restore timer and the circuit it is timing (R114). -/
structure RestoreTimer where
  circuit : Nat
  elapsed : Nat
deriving DecidableEq, Repr

/-- R114. The list is oldest first; the two timers hold counts gained from the periods. -/
structure Shedding where
  list : List ShedEntry
  shedTimer : Option Nat
  lockout : Nat
  restoreTimer : Option RestoreTimer
deriving DecidableEq, Repr

/-! ## Saw Coordinator (chapter 7) -/

/-- Table 7-2. -/
inductive SawState where
  | idle | reserving | engaging | running | stopping
deriving DecidableEq, Repr

inductive ClutchOrder where
  | release | engage
deriving DecidableEq, Repr

inductive Lamp where
  | dark | wait | go | stop
deriving DecidableEq, Repr

inductive Verdict where
  | none | accepted | refused
deriving DecidableEq, Repr

inductive ClutchReport where
  | opened | engaged | fault | unknown
deriving DecidableEq, Repr

inductive CarriageReport where
  | stopped | moving | unknown
deriving DecidableEq, Repr

/-- The code of the button the sawyer last pressed (R134). -/
inductive SawRequest where
  | none | start | stop | extend | unknown
deriving DecidableEq, Repr

/-- The saw order (R138). Its last two fields are the verdict echo of R135. -/
structure SawOrder where
  clutch : ClutchOrder
  feed : Nat
  lamp : Lamp
  echo : Nat
  verdict : Verdict
deriving DecidableEq, Repr

/-- Table 7-1. The four timers of the cut hold the counts still to pass. -/
structure Saw where
  state : SawState
  lastNumber : Option Nat
  grant : Option Nat
  reserve : Option Nat
  settle : Option Nat
  confirm : Option Nat
  rundown : Option Nat
  releaseOrdered : Bool
  engagedSeen : Bool
  order : SawOrder
  clutchReport : ClutchReport
  carriageReport : CarriageReport
  silence : Option Nat
  silent : Bool
deriving DecidableEq, Repr

/-! ## Condition Register and journal (chapter 8) -/

/-- Table 8-1, in its order. -/
inductive Condition where
  | overspeed | signalLoss | underfrequency | runupTimeout | gateFault | hostTrip | shaftSensor
  | pondSilent | gateSilent | feederSilent | sawSilent | loopBroken | timeErrorLimit | waterShort
  | residualLow | nothingToShed | clutchFault | breakerDisagree | lockout | energyLimit
  | stopTimeout | loopCheck | loopOverrun | plantChanged | shedActive
deriving DecidableEq, Repr

/-- What the Condition Register holds for one condition (R156). -/
structure CondCell where
  flag : Bool
  notice : Bool
  cause : Bool
  subject : Option Nat
deriving DecidableEq, Repr

/-- Table 8-2, in its order. -/
inductive JournalKind where
  | plant | shed | restore | limitTrip | lockout | reclose | saw | sawDenied | gain | condition
  | clockSet | timeErrorSet | restart | tableWrite | circuitAdmin
deriving DecidableEq, Repr

/-- R163. -/
structure JournalEntry where
  seq : Nat
  time : Option DayClock
  kind : JournalKind
  subject : Option Nat
  value : Int
deriving DecidableEq, Repr

/-- R163. The entries are oldest first. -/
structure Journal where
  entries : List JournalEntry
  next : Nat
deriving DecidableEq, Repr

/-! ## Table Store (chapters 9 and 10) -/

/-- The values of a table and the written mark of each entry (section 9.6). -/
structure Table where
  vals : List Nat
  marks : List Bool
deriving DecidableEq, Repr

/-- A table of `n` zero entries, none written. -/
def Table.zeros (n : Nat) : Table := ⟨List.replicate n 0, List.replicate n false⟩

/-- Tables 1 to 8 of Table 9-6. A window is its start and end. The circuits' fields are in their
entries; their written marks are here. -/
structure TableStore where
  nodeMap : Table
  settings : Table
  firingMap : Table
  weir : Table
  pondCurve : Table
  feedCurve : Table
  windows : List (Nat × Nat)
  windowMarks : List Bool
  circuitMarks : List Bool
deriving DecidableEq, Repr

/-! ## Loop Port (chapter 9) -/

/-- The contents of a command slot (R185). A feeder order says of each breaker whether it is CLOSE. -/
inductive Order where
  | gate (g : Nat)
  | saw (o : SawOrder)
  | feeder (close : List Bool)
deriving DecidableEq, Repr

/-- A command slot (R174). -/
structure Slot where
  contents : Option Order
  pending : Bool
deriving DecidableEq, Repr

/-- The three sources of the output arbiter (R175). -/
inductive Source where
  | forward | slots | answers
deriving DecidableEq, Repr

/-- The frame on loop-out: its bytes, the source that still holds it (none after a warm reset emptied
the queues, R182), and the counts until its last byte has left. -/
structure Sending where
  frame : List Byte
  from_ : Option Source
  left : Nat
deriving DecidableEq, Repr

/-- The receive state (R168): waiting for a frame after an idle gap, or just after a frame's last byte,
where bytes that follow without a gap are a fragment. -/
inductive Receive where
  | waiting | afterFrame
deriving DecidableEq, Repr

/-- Table 9-9. `held` says that the request being handled holds a place of the answer queue (R173).
`gap` is the counts of idle line still to pass after the last frame sent (R175). -/
structure LoopPort where
  ownAddress : Nat
  receive : Receive
  forward : List (List Byte)
  answers : List (List Byte)
  held : Bool
  slots : List Slot
  lastSource : Source
  lastSlot : Nat
  sending : Option Sending
  gap : Nat
  silence : Option Nat
  broken : Bool
deriving DecidableEq, Repr

/-- The outcomes of a request (Table 9-5). -/
inductive ReqOutcome where
  | done | found | none | partial_ | unknownRequest | badTable | badSpan | badValue | order | inUse
  | wrongState | notReady | outOfRange
deriving DecidableEq, Repr

/-! ## The whole part -/

/-- The state of the part. `draws` is the MODEL's own: how many valid periods have drawn their free
order (assumption 6). `pending` is the queue of the commands that are waiting, first in, first out. -/
structure State where
  edge : EdgeCapture
  pins : Pins
  time : MillTime
  gov : Governor
  firing : Firing
  plant : Plant
  water : Water
  hamlet : Hamlet
  shed : Shedding
  saw : Saw
  conds : List CondCell
  journal : Journal
  tables : TableStore
  loop : LoopPort
  draws : Nat
  pending : List Instr
deriving DecidableEq, Repr

/-- What a block makes of a request: the state after it, the outcome, and the data of the answer. -/
structure Reply where
  state : State
  outcome : ReqOutcome
  data : List Byte
deriving DecidableEq, Repr

/-! ## Reset -/

/-- An input filter at cold reset (R2). The run start has no stated reset value (assumption 3). -/
def InputFilter.reset : InputFilter := ⟨false, 0, 0⟩

/-- Table 1-3. -/
def EdgeCapture.reset : EdgeCapture where
  timebase := 0
  xing := .reset
  tooth := .reset
  tPrev := none
  period := none
  freq := none
  signal := .lost
  lossTimer := none
  lastTooth := none
  toothPeriod := none
  toothSilence := none
  toothSilent := true
  shaftCause := false
  overspeed := 0

/-- Table 1-7. -/
def MillTime.reset : MillTime where
  divider := 0
  count := 0
  clock := none
  te := 0
  direction := .zero
  eveningOpen := false
  nightOpen := false
  sawOpen := false

/-- Table 2-2. -/
def Governor.reset : Governor := ⟨0, 0, 0, .normal, none, false⟩

/-- Table 2-7. -/
def Firing.reset : Firing := ⟨false, false, false, [], false, 0⟩

/-- R66. -/
def Plant.reset : Plant := ⟨.stopped, .powerOn, 0, none, none, none, none, none⟩

/-- Table 4-7. -/
def Water.reset : Water where
  level := none
  head := none
  flow := none
  gate := 0
  gatePos := none
  gateStatus := none
  demandSum := 0
  demandCount := 0
  evalTimer := none
  shortage := 0
  pondSilence := none
  gateSilence := none
  pondSilent := false
  gateSilent := false

/-- R112. -/
def Hamlet.reset : Hamlet :=
  ⟨List.replicate 48 Circuit.blank, List.replicate 6 ⟨none, false, none⟩⟩

/-- R131. -/
def Shedding.reset : Shedding := ⟨[], none, 0, none⟩

/-- The order contents at cold reset (R138). -/
def SawOrder.reset : SawOrder := ⟨.release, 0, .dark, 0, .none⟩

/-- Table 7-7. -/
def Saw.reset : Saw where
  state := .idle
  lastNumber := none
  grant := none
  reserve := none
  settle := none
  confirm := none
  rundown := none
  releaseOrdered := false
  engagedSeen := false
  order := .reset
  clutchReport := .unknown
  carriageReport := .unknown
  silence := none
  silent := false

/-- R162. -/
def CondCell.reset : CondCell := ⟨false, false, false, none⟩

/-- R41, R74, R76, R153, R178, R179, R15, R87. -/
def TableStore.reset : TableStore where
  nodeMap := .zeros 9
  settings := ⟨defaultSettings, List.replicate 57 false⟩
  firingMap := .zeros 65
  weir := .zeros 33
  pondCurve := .zeros 17
  feedCurve := .zeros 17
  windows := defaultWindows
  windowMarks := List.replicate 3 false
  circuitMarks := List.replicate 48 false

/-- Table 9-9, for the strap levels that cold reset reads (R169). -/
def LoopPort.reset (straps : BitVec 6) : LoopPort where
  ownAddress := addressOfStraps straps
  receive := .waiting
  forward := []
  answers := []
  held := false
  slots := List.replicate 8 ⟨none, false⟩
  lastSource := .answers
  lastSlot := 7
  sending := none
  gap := 0
  silence := some (loopSilenceCounts 200)
  broken := false

/-- The part after a cold reset that reads the strap levels `straps` (R66 and the reset rule of each
chapter). -/
def State.cold (straps : BitVec 6) : State where
  edge := .reset
  pins := ⟨false, false⟩
  time := .reset
  gov := .reset
  firing := .reset
  plant := .reset
  water := .reset
  hamlet := .reset
  shed := .reset
  saw := .reset
  conds := List.replicate 25 .reset
  journal := ⟨[], 1⟩
  tables := .reset
  loop := .reset straps
  draws := 0
  pending := []

/-- The part right after power-on, with every address strap LOW (assumption 2). -/
def State.reset : State := State.cold 0

/-! ## Why a step stops -/

/-- The reasons for a fault: there are none. The manual names no event that stops the part, and every
command has its effect or changes nothing. -/
inductive Fault where
deriving DecidableEq, Repr

/-- The reasons for a refusal. -/
inductive Refusal where
  /-- Raised by `exec` for a command that has no meaning yet. Safe: the model stops. No arm of this
  model raises it. -/
  | notModelled (mnemonic : String)
deriving DecidableEq, Repr

end Sys2Proof.Machine
end

