-- ==== Sys2Proof/Machine/Access.lean ====
section
/-! DEFINITION. One update for each block of the state, and the reads that many blocks share: a setting,
a circuit entry, the address of a role. -/

namespace Sys2Proof.Machine

/-- Change the Edge Capture Unit and nothing else. -/
def State.mapEdge (f : EdgeCapture → EdgeCapture) (s : State) : State := { s with edge := f s.edge }

/-- Change the input pins and nothing else. -/
def State.mapPins (f : Pins → Pins) (s : State) : State := { s with pins := f s.pins }

/-- Change the Mill Time Unit and nothing else. -/
def State.mapTime (f : MillTime → MillTime) (s : State) : State := { s with time := f s.time }

/-- Change the Governor and nothing else. -/
def State.mapGov (f : Governor → Governor) (s : State) : State := { s with gov := f s.gov }

/-- Change the Ballast Firing Unit and nothing else. -/
def State.mapFiring (f : Firing → Firing) (s : State) : State := { s with firing := f s.firing }

/-- Change the Plant State Controller and nothing else. -/
def State.mapPlant (f : Plant → Plant) (s : State) : State := { s with plant := f s.plant }

/-- Change the Water Controller and nothing else. -/
def State.mapWater (f : Water → Water) (s : State) : State := { s with water := f s.water }

/-- Change the Circuit Controller and nothing else. -/
def State.mapHamlet (f : Hamlet → Hamlet) (s : State) : State := { s with hamlet := f s.hamlet }

/-- Change the Load Shedding Unit and nothing else. -/
def State.mapShed (f : Shedding → Shedding) (s : State) : State := { s with shed := f s.shed }

/-- Change the Saw Coordinator and nothing else. -/
def State.mapSaw (f : Saw → Saw) (s : State) : State := { s with saw := f s.saw }

/-- Change the Condition Register and nothing else. -/
def State.mapConds (f : List CondCell → List CondCell) (s : State) : State := { s with conds := f s.conds }

/-- Change the journal and nothing else. -/
def State.mapJournal (f : Journal → Journal) (s : State) : State := { s with journal := f s.journal }

/-- Change the Table Store and nothing else. -/
def State.mapTables (f : TableStore → TableStore) (s : State) : State := { s with tables := f s.tables }

/-- Change the Loop Port and nothing else. -/
def State.mapLoop (f : LoopPort → LoopPort) (s : State) : State := { s with loop := f s.loop }

/-- The current value of a setting (section 9.7). -/
def State.setting (s : State) (i : Nat) : Nat := s.tables.settings.vals.getD i 0

/-- The circuit entry at an index (R87). -/
def State.circuit (s : State) (i : Nat) : Circuit := s.hamlet.entries.getD i Circuit.blank

/-- The feeder slot `k` (R95). -/
def State.feeder (s : State) (k : Nat) : Feeder := s.hamlet.feeders.getD k ⟨none, false, none⟩

/-! The roles of the node map, in its entry order (Table 9-6). -/

abbrev Role.POND : Nat := 0
abbrev Role.GATE : Nat := 1
abbrev Role.SAW : Nat := 2

/-- The role of feeder slot `k` (R87). -/
def Role.feeder (k : Nat) : Nat := 3 + k

/-- The loop address of a role; 0 means that it is not mapped (R178). -/
def State.address (s : State) (role : Nat) : Nat := s.tables.nodeMap.vals.getD role 0

/-- The role has a non-zero address in the node map (R178). -/
def State.mapped (s : State) (role : Nat) : Bool := s.address role != 0

/-- The plant is in the state `p`. -/
def State.inPlant (s : State) (p : PlantState) : Bool := s.plant.state == p

/-- Every entry of the table carries a written mark (R180). -/
def Table.ready (t : Table) : Bool := t.marks.all id

/-- The entries of the table that carry a written mark (R180). -/
def Table.marked (t : Table) : Nat := t.marks.countP id

/-- `x` held within `lo..hi` (section 5.3 of the scope). -/
def clampInt (lo hi x : Int) : Int := max lo (min hi x)

/-- A running silence timer restarts from 0 while its role is mapped, and is stopped while it is not
(R71, R95, R136). -/
def restartSilence (mapped : Bool) : Option Nat := if mapped then some 0 else none

end Sys2Proof.Machine
end

