-- ==== Sys2Proof/Machine/Operands.lean ====
section
/-! DEFINITION. The bytes: fields of frames (R184), the check word (R167), building and reading a frame,
the codes of Table 10-1, and the sample payloads of Table 10-2. -/

namespace Sys2Proof.Machine

/-! ## Fields (R184) -/

def byteOf (n : Nat) : Byte := BitVec.ofNat 8 n

/-- A two-byte field, most significant byte first. -/
def be16 (n : Nat) : List Byte := [byteOf (n / 256), byteOf n]

/-- A four-byte field, most significant byte first. -/
def be32 (n : Nat) : List Byte :=
  [byteOf (n / 16777216), byteOf (n / 65536), byteOf (n / 256), byteOf n]

/-- A signed two-byte field, two's complement. -/
def sbe16 (x : Int) : List Byte := be16 (BitVec.ofInt 16 x).toNat

/-- A signed four-byte field, two's complement. -/
def sbe32 (x : Int) : List Byte := be32 (BitVec.ofInt 32 x).toNat

def boolByte (b : Bool) : Byte := if b then 1 else 0

/-- A byte field with the marker FFh for absent or none (Table 10-1). -/
def byteOrFF (x : Option Nat) : Byte := byteOf (x.getD 255)

/-- The number in two bytes, most significant first. -/
def u16 (hi lo : Byte) : Nat := hi.toNat * 256 + lo.toNat

/-- The signed number in two bytes. -/
def s16 (hi lo : Byte) : Int := (BitVec.ofNat 16 (u16 hi lo)).toInt

/-- The two-byte numbers a list of bytes holds, in order; an odd last byte is left. -/
def words16 : List Byte → List Nat
  | hi :: lo :: rest => u16 hi lo :: words16 rest
  | _ => []

/-- The bytes of a set whose bit `n` stands for member `n`, bit 0 the least significant (R184). -/
def setBits (members : List Bool) : Nat :=
  members.foldr (fun b acc => (if b then 1 else 0) + 2 * acc) 0

/-! ## The check word and frames (R167) -/

/-- One bit into the check register: polynomial x^16 + x^12 + x^5 + 1 (R167). -/
def crcBit (c : BitVec 16) (b : Bool) : BitVec 16 :=
  if xor c.msb b then (c <<< 1) ^^^ 0x1021#16 else c <<< 1

/-- One byte into the check register, most significant bit first. -/
def crcByte (c : BitVec 16) (x : Byte) : BitVec 16 :=
  [7, 6, 5, 4, 3, 2, 1, 0].foldl (fun c k => crcBit c (x.getLsbD k)) c

/-- The check register after the bytes, from FFFFh, with no final inversion. -/
def crc (bytes : List Byte) : BitVec 16 := bytes.foldl crcByte 0xFFFF#16

abbrev Kind.SAMPLE : Nat := 0x10
abbrev Kind.ORDER : Nat := 0x20
abbrev Kind.REQUEST : Nat := 0x30
abbrev Kind.ANSWER : Nat := 0x31
abbrev Kind.NOTICE : Nat := 0x32

/-- A frame of Table 9-1 with its check word, high byte first (R184). -/
def buildFrame (dst src kind : Nat) (payload : List Byte) : List Byte :=
  let body := [byteOf dst, byteOf src, byteOf kind, byteOf payload.length] ++ payload
  body ++ be16 (crc body).toNat

/-- The fields of a received frame. -/
def frameDst (f : List Byte) : Nat := (f.getD 0 0).toNat
def frameSrc (f : List Byte) : Nat := (f.getD 1 0).toNat
def frameKind (f : List Byte) : Nat := (f.getD 2 0).toNat
def frameLen (f : List Byte) : Nat := (f.getD 3 0).toNat
def framePayload (f : List Byte) : List Byte := (f.drop 4).take (frameLen f)

/-- The received bytes are a whole frame that passes its check (R168), but for the stop bits. -/
def frameOk (f : List Byte) : Bool :=
  decide (frameLen f ≤ 64) && decide (f.length = frameLen f + 6) && decide (frameDst f ≤ 63) &&
    decide (1 ≤ frameSrc f) && decide (frameSrc f ≤ 62) && decide (crc f = 0)

/-! ## Codes (Table 10-1) -/

def PlantState.code : PlantState → Nat
  | .stopped => 0 | .runup => 1 | .run => 2 | .stopping => 3 | .tripped => 4

def Cause.code : Cause → Nat
  | .powerOn => 0 | .restart => 1 | .host => 2 | .runupDone => 3 | .waterShort => 4
  | .stopDone => 5 | .stopTimeout => 6 | .overspeed => 7 | .signalLoss => 8
  | .underfrequency => 9 | .runupTimeout => 10 | .gateFault => 11

def GainSet.code : GainSet → Nat
  | .normal => 0 | .saw => 1

def CircuitState.code : CircuitState → Nat
  | .absent => 0 | .dark => 1 | .closed => 2 | .limitOpen => 3 | .shed => 4 | .locked => 5
  | .off => 6

def ShedCause.code : ShedCause → Nat
  | .runup => 0 | .frequency => 1 | .saw => 2

def SawState.code : SawState → Nat
  | .idle => 0 | .reserving => 1 | .engaging => 2 | .running => 3 | .stopping => 4

def ClutchOrder.code : ClutchOrder → Nat
  | .release => 0 | .engage => 1

def Lamp.code : Lamp → Nat
  | .dark => 0 | .wait => 1 | .go => 2 | .stop => 3

def Verdict.code : Verdict → Nat
  | .none => 0 | .accepted => 1 | .refused => 2

def ClutchReport.code : ClutchReport → Nat
  | .opened => 0 | .engaged => 1 | .fault => 2 | .unknown => 3

def CarriageReport.code : CarriageReport → Nat
  | .stopped => 0 | .moving => 1 | .unknown => 2

def GateStatus.code : GateStatus → Nat
  | .ok => 0 | .moving => 1 | .fault => 2

/-- The code of a breaker report, 3 for unknown (Table 10-1). -/
def breakerCode : BreakerReport → Nat
  | .opened => 0 | .closed => 1 | .failed => 2 | .unknown => 3

def JournalKind.code : JournalKind → Nat
  | .plant => 0 | .shed => 1 | .restore => 2 | .limitTrip => 3 | .lockout => 4 | .reclose => 5
  | .saw => 6 | .sawDenied => 7 | .gain => 8 | .condition => 9 | .clockSet => 10
  | .timeErrorSet => 11 | .restart => 12 | .tableWrite => 13 | .circuitAdmin => 14

/-! ## Codes read from samples -/

/-- R92: a breaker code other than 0, 1 and 2 is taken as FAILED. -/
def breakerOfCode (n : Nat) : BreakerReport :=
  if n = 0 then .opened else if n = 1 then .closed else .failed

/-- R70: a status other than 0, 1 and 2 is taken as FAULT. -/
def gateStatusOfCode (n : Nat) : GateStatus :=
  if n = 0 then .ok else if n = 1 then .moving else .fault

/-- R134: a clutch code other than 0, 1 and 2 is taken as FAULT. -/
def clutchOfCode (n : Nat) : ClutchReport :=
  if n = 0 then .opened else if n = 1 then .engaged else .fault

/-- R134: a carriage code other than 0 and 1 is taken as MOVING. -/
def carriageOfCode (n : Nat) : CarriageReport :=
  if n = 0 then .stopped else .moving

/-- R134: request codes 0 to 3; any other value is an unknown code. -/
def sawRequestOfCode (n : Nat) : SawRequest :=
  if n = 0 then .none else if n = 1 then .start else if n = 2 then .stop
  else if n = 3 then .extend else .unknown

/-- The code of an outcome (Table 9-5). -/
def ReqOutcome.code : ReqOutcome → Nat
  | .done => 0 | .found => 1 | .none => 2 | .partial_ => 3 | .unknownRequest => 8
  | .badTable => 9 | .badSpan => 10 | .badValue => 11 | .order => 12 | .inUse => 13
  | .wrongState => 14 | .notReady => 15 | .outOfRange => 16

/-! ## Feeder payloads (R92, Table 10-2) -/

/-- The first `n` records of a feeder payload, each a circuit number, a reading and a breaker report;
none if the payload is too short. -/
def feederRecords : Nat → List Byte → Option (List (Nat × Nat × BreakerReport))
  | 0, _ => some []
  | n + 1, c :: hi :: lo :: b :: rest =>
      match feederRecords n rest with
      | some rs => some ((c.toNat, u16 hi lo, breakerOfCode b.toNat) :: rs)
      | none => none
  | _ + 1, _ => none

/-- The records of a fresh feeder sample; none if the payload is not one (R92). -/
def parseFeeder (payload : List Byte) : Option (List (Nat × Nat × BreakerReport)) :=
  match payload with
  | [] => none
  | count :: rest =>
      if count.toNat ≤ 8 then
        match feederRecords count.toNat rest with
        | some rs =>
            if rs.all (fun r => decide (r.1 ≤ 7)) && decide ((rs.map fun r => r.1).Nodup) then some rs
            else none
        | none => none
      else none

/-! ## Orders (R185) -/

/-- The payload of an ORDER frame with these contents (R185). -/
def Order.payload : Order → List Byte
  | .gate g => be16 g
  | .saw o =>
      [byteOf o.clutch.code] ++ be16 o.feed ++
        [byteOf o.lamp.code, byteOf o.echo, byteOf o.verdict.code]
  | .feeder close => close.map boolByte

end Sys2Proof.Machine
end

