-- ==== Sys2Proof/Machine/Flags.lean ====
section
/-! DEFINITION. The Condition Register, its notices, and the journal (chapter 8). -/

namespace Sys2Proof.Machine

/-! ## The catalogue (Table 8-1) -/

def Condition.num : Condition → Nat
  | .overspeed => 0 | .signalLoss => 1 | .underfrequency => 2 | .runupTimeout => 3
  | .gateFault => 4 | .hostTrip => 5 | .shaftSensor => 6 | .pondSilent => 7 | .gateSilent => 8
  | .feederSilent => 9 | .sawSilent => 10 | .loopBroken => 11 | .timeErrorLimit => 12
  | .waterShort => 13 | .residualLow => 14 | .nothingToShed => 15 | .clutchFault => 16
  | .breakerDisagree => 17 | .lockout => 18 | .energyLimit => 19 | .stopTimeout => 20
  | .loopCheck => 21 | .loopOverrun => 22 | .plantChanged => 23 | .shedActive => 24

/-- The condition of this number is persistent (Table 8-1). -/
def persistentNum (n : Nat) : Bool := decide (6 ≤ n) && decide (n ≤ 12)

/-- The class code of a condition: 0 TRIP, 1 ALARM, 2 INFO (Tables 8-1 and 10-1). -/
def Condition.classCode (c : Condition) : Nat :=
  if c.num ≤ 5 then 0 else if c.num ≤ 22 then 1 else 2

/-- What is held for a condition (R156). -/
def State.cond (s : State) (c : Condition) : CondCell := s.conds.getD c.num .reset

/-- Some TRIP-class condition is set (R52, R53). -/
def State.tripSet (s : State) : Bool := (s.conds.take 6).any fun x => x.flag

/-! ## The journal (R163) -/

/-- An append to the journal: emptied at the end of the sequence numbers, and the oldest entry removed
when 128 are held (R163). -/
def Journal.push (time : Option DayClock) (kind : JournalKind) (subject : Option Nat) (value : Int)
    (j : Journal) : Journal :=
  let j := if j.next = 4294967295 then ⟨[], 1⟩ else j
  let held := if 128 ≤ j.entries.length then j.entries.drop 1 else j.entries
  ⟨held ++ [⟨j.next, time, kind, subject, value⟩], j.next + 1⟩

/-- An entry is appended with the time of day (R163). -/
def journalAppend (kind : JournalKind) (subject : Option Nat) (value : Int) (s : State) : State :=
  s.mapJournal (Journal.push s.time.clock kind subject value)

/-! ## Notices (R159) -/

/-- The answer queue has a place that is not the one held for the request being handled (R173). -/
def State.answerRoom (s : State) : Bool :=
  decide (s.loop.answers.length + (if s.loop.held then 1 else 0) < 8)

/-- The NOTICE frame of a condition just set (R159, R185). -/
def noticeFrame (own dst : Nat) (c : Condition) (subject : Option Nat) (seq : Nat) : List Byte :=
  buildFrame dst own Kind.NOTICE
    ([byteOf c.num, byteOf c.classCode, byteOrFF subject] ++ be32 seq)

/-- A notice is queued if the condition's enable is on, NOTICE_ADDRESS is not 0 and a place is free;
otherwise it is dropped (R159). -/
def offerNotice (c : Condition) (subject : Option Nat) (s : State) : State :=
  if (s.cond c).notice && (s.setting Setting.NOTICE_ADDRESS != 0) && s.answerRoom then
    s.mapLoop fun l => { l with
      answers := l.answers ++ [noticeFrame l.ownAddress (s.setting Setting.NOTICE_ADDRESS) c subject
        (s.journal.next - 1)] }
  else s

/-! ## Raises and cause ends (R157, R158) -/

/-- A raise sets the cause mark of a persistent condition (R157). -/
def markCause (c : Condition) (s : State) : State :=
  s.mapConds fun cs => cs.modify c.num fun x => { x with cause := persistentNum c.num || x.cause }

/-- The flag is set with the subject of the raise (R157). -/
def setFlag (c : Condition) (subject : Option Nat) (s : State) : State :=
  s.mapConds fun cs => cs.modify c.num fun x => { x with flag := true, subject := subject }

/-- A raise of the condition, naming a circuit or none (R157). -/
def raise (c : Condition) (subject : Option Nat) (s : State) : State :=
  if (s.cond c).flag then markCause c s
  else
    offerNotice c subject
      (journalAppend .condition subject c.num (setFlag c subject (markCause c s)))

/-- The owning block says that a persistent cause has ended (R158). -/
def causeEnd (c : Condition) (s : State) : State :=
  s.mapConds fun cs => cs.modify c.num fun x => { x with cause := false }

end Sys2Proof.Machine
end

