-- ==== Sys2Proof/Machine/Ops.lean ====
section
/-! DEFINITION. The operations that several blocks share: setpoint and surplus, interpolation in the
tables, the command slots, gain requests, the moves of a circuit between its states, and the saw
order. -/

namespace Sys2Proof.Machine

/-! ## Shared values -/

/-- The value of a correction direction (R19). -/
def Direction.sign : Direction → Int
  | .minus => -1 | .zero => 0 | .plus => 1

/-- Nominal frequency in mHz. -/
def State.nominal (s : State) : Int := s.setting Setting.NOMINAL_HZ * 1000

/-- The correction offset in mHz (R19). -/
def State.offset (s : State) : Int := s.time.direction.sign * s.setting Setting.CORR_OFFSET

/-- The frequency setpoint in mHz (R20). -/
def State.fSet (s : State) : Int := s.nominal + s.offset

/-- The surplus in watts that a ballast demand implies (R40). -/
def surplus (d ballastW : Nat) : Nat := d * ballastW / 4096

/-- The surplus of the demand as it stands (R40). -/
def State.surplus (s : State) : Nat :=
  Sys2Proof.Machine.surplus s.gov.d (s.setting Setting.BALLAST_W)

/-- Interpolation in a rising table whose entry `i` stands at `i * step` (R34, R73, R75). -/
def interpUp (table : List Nat) (step last x : Nat) : Nat :=
  if last ≤ x / step then table.getD last 0
  else
    let a : Int := table.getD (x / step) 0
    let b : Int := table.getD (x / step + 1) 0
    (a + (b - a) * (x % step : Nat) / step).toNat

/-- Interpolation in a falling table: the part taken off is rounded down (R148). -/
def interpDown (table : List Nat) (step last x : Nat) : Nat :=
  if last ≤ x / step then table.getD last 0
  else
    let a : Int := table.getD (x / step) 0
    let b : Int := table.getD (x / step + 1) 0
    (a - (a - b) * (x % step : Nat) / step).toNat

/-- A running count-down loses one count. -/
def oneCount (timer : Option Nat) : Option Nat := timer.map fun n => n - 1

/-! ## Command slots (R174) -/

abbrev SlotNo.GATE : Nat := 0
abbrev SlotNo.SAW : Nat := 1

/-- The slot of feeder `k` (R174). -/
def SlotNo.feeder (k : Nat) : Nat := 2 + k

/-- A write replaces what the slot held and marks it pending (R174). -/
def writeSlot (slot : Nat) (o : Order) (s : State) : State :=
  s.mapLoop fun l => { l with slots := l.slots.set slot ⟨some o, true⟩ }

/-- The slot is emptied (R174). -/
def emptySlot (slot : Nat) (s : State) : State :=
  s.mapLoop fun l => { l with slots := l.slots.set slot ⟨none, false⟩ }

/-! ## Gain requests (R29) -/

/-- R29: the active set cancels what is pending, the other one becomes pending. -/
def requestGain (g : GainSet) (s : State) : State :=
  s.mapGov fun gov => { gov with pendingSet := if g = gov.active then none else some g }

/-! ## The gate target and its order (R85) -/

/-- The GATE slot is written with the current target (R85). -/
def writeGateSlot (s : State) : State := writeSlot SlotNo.GATE (.gate s.water.gate) s

/-- The gate target becomes `g`; a change of it rewrites the slot (R83, R85). -/
def setGate (g : Nat) (s : State) : State :=
  if g = s.water.gate then s else writeGateSlot (s.mapWater fun w => { w with gate := g })

/-! ## Circuits -/

/-- The circuit is ordered CLOSE (R103). -/
def Circuit.wanted (c : Circuit) : Bool := c.state == .closed

/-- The breaker report differs from the wanted position; FAILED always does (R103, R104). -/
def disagrees (wanted : Bool) : BreakerReport → Bool
  | .opened => wanted
  | .closed => !wanted
  | .failed => true
  | .unknown => true

/-- The order contents of a feeder slot (R103). -/
def State.feederOrder (s : State) (k : Nat) : List Bool :=
  (List.range 8).map fun n => (s.circuit (k * 8 + n)).wanted

/-- The FEEDER slot is written with the current contents, while its role is mapped (R103). -/
def writeFeederSlot (k : Nat) (s : State) : State :=
  if s.mapped (Role.feeder k) then writeSlot (SlotNo.feeder k) (.feeder (s.feederOrder k)) s else s

/-- One circuit entry is changed. -/
def modifyCircuit (i : Nat) (f : Circuit → Circuit) (s : State) : State :=
  s.mapHamlet fun h => { h with entries := h.entries.modify i f }

/-- The entry of a circuit that passes to state `st`: the over count is 0 after CLOSED (R97), the
disagree count is 0 after a change of the wanted position (R104), and only a LIMIT_OPEN circuit has a
reclose time (Table 5-3). -/
def Circuit.move (st : CircuitState) (c : Circuit) : Circuit :=
  { c with
    state := st
    overCount := if c.state = .closed ∧ st ≠ .closed then 0 else c.overCount
    disagree := if (c.state == .closed) = (st == .closed) then c.disagree else 0
    reclose := if st = .limitOpen then c.reclose else none }

/-- The circuit passes to state `st`; its feeder's order is rewritten when it enters or leaves CLOSED
(R103). -/
def moveCircuit (i : Nat) (st : CircuitState) (s : State) : State :=
  let s' := modifyCircuit i (Circuit.move st) s
  if ((s.circuit i).state == .closed) = (st == .closed) then s' else writeFeederSlot (i / 8) s'

/-! ## The shed list -/

/-- The circuit has an entry in the shed list (R114). -/
def State.listed (s : State) (i : Nat) : Bool := s.shed.list.any fun e => e.circuit == i

/-- The second of day, absent while the day clock is UNSET (Table 6-1). -/
def State.secondOfDay (s : State) : Option Nat := s.time.clock.map fun c => c.sec

/-- The new entry at the newest end of the list; every taken append stops the restore timer (R115,
R124). -/
def pushShed (e : ShedEntry) (s : State) : State :=
  s.mapShed fun l => { l with list := l.list ++ [e], restoreTimer := none }

/-- What a taken append request does (R115). -/
def appendTaken (i : Nat) (cause : ShedCause) (s : State) : State :=
  let entry : ShedEntry := ⟨i, cause, (s.circuit i).reading, s.secondOfDay⟩
  let s' := journalAppend .shed (some i) cause.code (moveCircuit i .shed (pushShed entry s))
  if s.shed.list.isEmpty then raise .shedActive none s' else s'

/-- An append request is taken in RUN, for a circuit of tier 1 or more with no entry; otherwise it
leaves everything as it was (R115). -/
def appendRequest (i : Nat) (cause : ShedCause) (s : State) : State :=
  if s.inPlant .run && decide (1 ≤ (s.circuit i).tier) && !s.listed i then appendTaken i cause s
  else s

/-- A removal from the list; it stops the restore timer (R124, R126). -/
def removeShed (i : Nat) (s : State) : State :=
  s.mapShed fun l => { l with
    list := l.list.filter fun e => e.circuit != i
    restoreTimer := none }

/-- Every entry of cause SAW becomes FREQUENCY in place (R128). -/
def relabel (s : State) : State :=
  s.mapShed fun l => { l with
    list := l.list.map fun e => if e.cause = .saw then { e with cause := .frequency } else e }

/-- The better of the best candidate so far and the next circuit: CLOSED, of tier `floor` or more, of
the highest tier and then the highest index (R116). -/
def betterShed (floor : Nat) (best : Option (Nat × Nat)) (x : Circuit × Nat) : Option (Nat × Nat) :=
  if x.1.state = .closed ∧ floor ≤ x.1.tier then
    match best with
    | none => some (x.1.tier, x.2)
    | some (t, i) => if t ≤ x.1.tier then some (x.1.tier, x.2) else some (t, i)
  else best

/-- The shed candidate of tier `floor` or more (R116). -/
def shedCandidate (floor : Nat) (cs : List Circuit) : Option Nat :=
  (cs.zipIdx.foldl (betterShed floor) none).map fun p => p.2

/-! ## The saw order (R138) -/

/-- The order contents become `o`; a change of them rewrites the slot while SAW is mapped (R138). -/
def setSawOrder (o : SawOrder) (s : State) : State :=
  if o = s.saw.order then s
  else
    let s' := s.mapSaw fun w => { w with order := o }
    if s'.mapped Role.SAW then writeSlot SlotNo.SAW (.saw o) s' else s'

/-- The SAW slot is written with the current contents, while SAW is mapped (R137, R138). -/
def writeSawSlot (s : State) : State :=
  if s.mapped Role.SAW then writeSlot SlotNo.SAW (.saw s.saw.order) s else s

/-- A length in seconds, in timebase counts (R133). -/
def seconds (n : Nat) : Nat := n * 2000000

end Sys2Proof.Machine
end

