-- ==== Sys2Proof/Machine/Circuits.lean ====
section
/-! DEFINITION. The Circuit Controller: placement, the limiter, energy, breaker agreement, feeder
samples and silence (chapter 5). -/

namespace Sys2Proof.Machine

/-! ## Placement -/

/-- A circuit is placed as a reclose expiry places it: closed at tier 0 or with the list empty, else
appended (R99, R108). -/
def placeReclosed (i : Nat) (s : State) : State :=
  if (s.circuit i).tier = 0 ∨ s.shed.list = [] then moveCircuit i .closed s
  else appendRequest i .frequency s

/-- A circuit is placed as the ON action places it (R107). -/
def placeOn (i : Nat) (s : State) : State :=
  if s.inPlant .run then
    if (s.circuit i).tier = 0 then moveCircuit i .closed s else appendRequest i .frequency s
  else moveCircuit i .dark s

/-- A released circuit is placed as at a reclose in RUN, DARK outside it (R108). -/
def placeReleased (i : Nat) (s : State) : State :=
  if s.inPlant .run then placeReclosed i s else moveCircuit i .dark s

/-! ## The limiter (R91, R97, R98) -/

/-- The allowance in force for a circuit, by the window states held now (R91). -/
def State.allowance (s : State) (c : Circuit) : Nat :=
  if s.time.eveningOpen then c.eveningAllow
  else if s.time.nightOpen then c.nightAllow
  else c.dayAllow

/-- The strike window of a circuit has passed, or no strike is counted in it (R98). -/
def Circuit.windowPassed (now : Word32) (minutes : Nat) (c : Circuit) : Bool :=
  c.strikes == 0 ||
    match c.windowStart with
    | some w => decide (minutes * 60 ≤ (now - w).toNat)
    | none => true

/-- A strike is counted; the count cannot pass 9 (R98, Table 5-3). DESIGN CHOICE (assumption 22): a trip
inside the window after OFF from LOCKED and ON adds one, as R98 says of every trip in the window. -/
def Circuit.strike (now : Word32) (minutes : Nat) (c : Circuit) : Circuit :=
  if c.windowPassed now minutes then { c with strikes := 1, windowStart := some now }
  else { c with strikes := min 9 (c.strikes + 1) }

/-- The circuit is locked out (R98). -/
def lockOut (i : Nat) (s : State) : State :=
  raise .lockout none
    (journalAppend .lockout (some i) (s.circuit i).strikes (moveCircuit i .locked s))

/-- The circuit is opened by the limiter and waits for its reclose time (R98). -/
def limitOpen (i reading : Nat) (s : State) : State :=
  journalAppend .limitTrip (some i) reading
    (modifyCircuit i (fun c => { c with reclose := some (s.setting Setting.RECLOSE_DELAY) })
      (moveCircuit i .limitOpen s))

/-- A limiter trip of a circuit, with the reading that tripped it (R98). DESIGN CHOICE (assumption 22): a
circuit turned OFF from LOCKED and ON that trips inside its window is locked again only if its count has
reached STRIKE_LIMIT as it stands at the trip, as R98 says; where STRIKE_LIMIT has been raised meanwhile,
R100's "locks it again at once" could be read otherwise. -/
def limiterTrips (i reading : Nat) (s : State) : State :=
  let s1 := modifyCircuit i (Circuit.strike s.time.count (s.setting Setting.STRIKE_WINDOW)) s
  if s.setting Setting.STRIKE_LIMIT ≤ (s1.circuit i).strikes then lockOut i s1
  else limitOpen i reading s1

/-- The over count of a circuit becomes `n`. -/
def setOver (i n : Nat) (s : State) : State := modifyCircuit i (fun c => { c with overCount := n }) s

/-- The limiter's test of a reading of a CLOSED circuit (R97). -/
def limiterTest (i reading : Nat) (s : State) : State :=
  let allowance := s.allowance (s.circuit i)
  if allowance = 0 then setOver i 0 s
  else if 2 * allowance < reading then limiterTrips i reading s
  else if allowance < reading then
    let s1 := setOver i ((s.circuit i).overCount + 1) s
    if s.setting Setting.OVER_COUNT ≤ (s1.circuit i).overCount then limiterTrips i reading s1 else s1
  else setOver i 0 s

/-- A limiter trip is taken for a CLOSED circuit (R98). -/
def limitTrip (i reading : Nat) (s : State) : State :=
  if (s.circuit i).state = .closed then limiterTrips i reading s else s

/-! ## Reclose (R99) -/

/-- The reclose of a LIMIT_OPEN circuit is taken; in any other state the expiry does nothing (R99,
R111). -/
def recloseExpires (i : Nat) (s : State) : State :=
  if (s.circuit i).state = .limitOpen then
    let closes := decide ((s.circuit i).tier = 0) || s.shed.list.isEmpty
    placeReclosed i
      (journalAppend .reclose (some i)
        (if closes then CircuitState.closed.code else CircuitState.shed.code)
        (modifyCircuit i (fun c => { c with reclose := none }) s))
  else s

/-- The reclose time of one circuit at a mill second (R99). -/
def recloseTick (i : Nat) (s : State) : State :=
  match (s.circuit i).state, (s.circuit i).reclose with
  | .limitOpen, some n =>
      if n ≤ 1 then recloseExpires i s
      else modifyCircuit i (fun c => { c with reclose := some (n - 1) }) s
  | _, _ => s

/-! ## Energy (R101, R102) -/

/-- One unit of energy, in watt-milliseconds (R101). -/
def energyUnit : Nat := 36000000

/-- The greatest energy count (R102). -/
def energyMax : Nat := 99999999

/-- The units that a charge completes (R101). -/
def Circuit.unitsDue (charge : Nat) (c : Circuit) : Nat := (c.residue + charge) / energyUnit

/-- Energy and residue after a charge (R101, R102). -/
def Circuit.charged (charge : Nat) (c : Circuit) : Circuit :=
  { c with
    energy := min energyMax (c.energy + c.unitsDue charge)
    residue := (c.residue + charge) % energyUnit }

/-- The charge brings the energy to its greatest count, or discards a unit there (R102). -/
def Circuit.saturates (charge : Nat) (c : Circuit) : Bool :=
  decide (1 ≤ c.unitsDue charge) && decide (energyMax ≤ c.energy + c.unitsDue charge)

/-- Energy is counted for a record (R101, R102). -/
def countEnergy (i charge : Nat) (s : State) : State :=
  let s1 := modifyCircuit i (Circuit.charged charge) s
  if (s.circuit i).saturates charge then raise .energyLimit (some i) s1 else s1

/-! ## Breaker agreement (R104) -/

/-- The disagree count of a circuit becomes `n`. -/
def setDisagree (i n : Nat) (s : State) : State := modifyCircuit i (fun c => { c with disagree := n }) s

/-- A differing report, neither FAILED nor unknown, is counted up to 3 (R104). -/
def countDisagree (i : Nat) (s : State) : State :=
  if (s.circuit i).disagree < 3 then
    let s1 := setDisagree i ((s.circuit i).disagree + 1) s
    if (s.circuit i).disagree + 1 = 3 then raise .breakerDisagree (some i) s1 else s1
  else s

/-- The agreement check of a report against the wanted position (R104). -/
def agreementCheck (i : Nat) (r : BreakerReport) (s : State) : State :=
  match r with
  | .failed => raise .breakerDisagree (some i) (setDisagree i 3 s)
  | .opened => if (s.circuit i).wanted then countDisagree i s else setDisagree i 0 s
  | .closed => if (s.circuit i).wanted then setDisagree i 0 s else countDisagree i s
  | .unknown => s

/-- The check is made for a present circuit (R104). -/
def breakerDisagree (i : Nat) (r : BreakerReport) (s : State) : State :=
  if (s.circuit i).state = .absent then s else agreementCheck i r s

/-! ## Feeder samples (R93, R94) -/

/-- One feeder slot is changed. -/
def modifyFeeder (k : Nat) (f : Feeder → Feeder) (s : State) : State :=
  s.mapHamlet fun h => { h with feeders := h.feeders.modify k f }

/-- Some feeder's silent mark is set (R95). -/
def State.anyFeederSilent (s : State) : Bool := s.hamlet.feeders.any fun f => f.silent

/-- The cause of FEEDER_SILENT ends if no mark is left set (R95, R96). -/
def examineFeeders (s : State) : State := if s.anyFeederSilent then s else causeEnd .feederSilent s

/-- A fresh sample of the feeder is heard; its interval counter starts from 0 (R93, R95). -/
def feederHeard (k : Nat) (s : State) : State :=
  let s1 := modifyFeeder k (fun _ => ⟨restartSilence (s.mapped (Role.feeder k)), false, some 0⟩) s
  if (s.feeder k).silent then examineFeeders s1 else s1

/-- The interval of a sample in milliseconds: 0 while the counter is stopped (R93). -/
def State.sampleInterval (s : State) (k : Nat) : Nat :=
  match (s.feeder k).interval with
  | some counts => min 5000 (counts / 2000)
  | none => 0

/-- The reading and report of a record are stored (R94). -/
def storeRecord (i reading : Nat) (r : BreakerReport) (s : State) : State :=
  modifyCircuit i (fun c => { c with reading := reading, report := r }) s

/-- The limiter is applied to a CLOSED circuit (R94). -/
def limiterStep (i reading : Nat) (s : State) : State :=
  if (s.circuit i).state = .closed then limiterTest i reading s else s

/-- One record of a fresh sample, for circuit `i` and interval `dt` (R94). -/
def takeRecord (i dt reading : Nat) (r : BreakerReport) (s : State) : State :=
  if (s.circuit i).state = .absent then s
  else
    let s1 := storeRecord i reading r s
    limiterStep i reading
      (agreementCheck i r (if r = .closed then countEnergy i (reading * dt) s1 else s1))

/-- Some record of the sample reports a present circuit away from its wanted position (R103). -/
def State.recordsDisagree (s : State) (k : Nat) (rs : List (Nat × Nat × BreakerReport)) : Bool :=
  rs.any fun x =>
    (s.circuit (k * 8 + x.1)).state != .absent &&
      disagrees (s.circuit (k * 8 + x.1)).wanted x.2.2

/-- The order check of a fresh sample (R103). -/
def feederOrderCheck (k : Nat) (rs : List (Nat × Nat × BreakerReport)) (s : State) : State :=
  if s.recordsDisagree k rs then writeFeederSlot k s else s

/-- The records of a fresh sample of feeder slot `k` are taken (R93). -/
def takeRecords (k dt : Nat) (rs : List (Nat × Nat × BreakerReport)) (s : State) : State :=
  rs.foldl (fun t x => takeRecord (k * 8 + x.1) dt x.2.1 x.2.2 t) s

/-- A feeder sample payload, taken if it is fresh (R92, R93). -/
def feederSample (k : Nat) (payload : List Byte) (s : State) : State :=
  match parseFeeder payload with
  | some rs => feederOrderCheck k rs (takeRecords k (s.sampleInterval k) rs (feederHeard k s))
  | none => s

/-! ## Silence (R95) -/

/-- The running silence timer of a feeder reaches NODE_SILENCE_S (R95). -/
def feederSilenceExpires (k : Nat) (s : State) : State :=
  if (s.feeder k).silence.isSome then
    raise .feederSilent none (modifyFeeder k (fun _ => ⟨none, true, none⟩) s)
  else s

/-- The silence timer of a feeder at a mill second (R95). -/
def feederSilenceTick (k : Nat) (s : State) : State :=
  match (s.feeder k).silence with
  | some n =>
      let s1 := modifyFeeder k (fun f => { f with silence := some (n + 1) }) s
      if s.setting Setting.NODE_SILENCE_S ≤ n + 1 then feederSilenceExpires k s1 else s1
  | none => s

/-! ## CIRCUIT ADMIN (R105 to R109) -/

/-- The CIRCUIT_ADMIN entry of a taken request (R105). -/
def journalAdmin (i action : Nat) (s : State) : State :=
  journalAppend .circuitAdmin (some i) action s

/-- The answer to a taken request (R105, Table 10-4). -/
def adminDone (i : Nat) (s : State) : Reply := ⟨s, .done, [byteOf (s.circuit i).state.code]⟩

/-- OFF: the circuit leaves the shed list if it is on it (R106, R126). -/
def adminOff (i : Nat) (s : State) : Reply :=
  let s1 := journalAdmin i 0 s
  adminDone i
    (moveCircuit i .off (if (s.circuit i).state = .shed then removeShed i s1 else s1))

/-- ON, in OFF only (R107). -/
def adminOn (i : Nat) (s : State) : Reply :=
  if (s.circuit i).state = .off then adminDone i (placeOn i (journalAdmin i 1 s))
  else ⟨s, .wrongState, []⟩

/-- The strikes of a circuit are cleared (R108). -/
def clearStrikes (i : Nat) (s : State) : State :=
  modifyCircuit i (fun c => { c with strikes := 0, windowStart := none }) s

/-- RELEASE LOCKOUT, in LOCKED only (R108). -/
def adminRelease (i : Nat) (s : State) : Reply :=
  if (s.circuit i).state = .locked then
    adminDone i (placeReleased i (clearStrikes i (journalAdmin i 2 s)))
  else ⟨s, .wrongState, []⟩

/-- CLEAR ENERGY (R109). -/
def adminClear (i : Nat) (s : State) : Reply :=
  adminDone i (modifyCircuit i (fun c => { c with energy := 0, residue := 0 }) (journalAdmin i 3 s))

/-- CIRCUIT ADMIN with its checks in order (R105). -/
def circuitAdmin (i action : Nat) (s : State) : Reply :=
  if 47 < i ∨ (s.circuit i).state = .absent then ⟨s, .outOfRange, []⟩
  else if action = 0 then adminOff i s
  else if action = 1 then adminOn i s
  else if action = 2 then adminRelease i s
  else if action = 3 then adminClear i s
  else ⟨s, .badValue, []⟩

/-! ## Commands -/

/-- FEEDER_SILENCE_EXPIRY (R95). -/
def execFeederSilenceExpiry (slot : Nat) (s : State) : Host.Outcome State Fault Refusal :=
  .next (feederSilenceExpires slot s)

/-- RECLOSE_EXPIRY (R99). -/
def execRecloseExpiry (circuit : Nat) (s : State) : Host.Outcome State Fault Refusal :=
  .next (recloseExpires circuit s)

/-- LIMIT_TRIP (R98). -/
def execLimitTrip (circuit reading : Nat) (s : State) : Host.Outcome State Fault Refusal :=
  .next (limitTrip circuit reading s)

/-- BREAKER_DISAGREE (R104). -/
def execBreakerDisagree (circuit : Nat) (report : BreakerReport) (s : State) :
    Host.Outcome State Fault Refusal :=
  .next (breakerDisagree circuit report s)

/-- FEEDER_SAMPLE (R93). -/
def execFeederSample (slot : Nat) (payload : List Byte) (s : State) :
    Host.Outcome State Fault Refusal :=
  .next (feederSample slot payload s)

end Sys2Proof.Machine
end

