-- ==== Sys2Proof/Machine/Firing.lean ====
section
/-! DEFINITION. The Ballast Firing Unit: the split into banks, the trim pulses and their lifetime
(sections 2.7 to 2.9). -/

namespace Sys2Proof.Machine

/-- Every trim pulse record is removed; a pulse in delivery is cut (R37). -/
def removePulses (s : State) : State :=
  s.mapFiring fun b => { b with pulses := [], trimGate := false }

/-- The records are removed and none is scheduled (R32, R37, R38). -/
def cancelPulses (s : State) : State :=
  s.mapFiring fun b => { b with pulses := [], trimGate := false, scheduled := 0 }

/-- The steps of a demand (R33). -/
def stepsOf (d : Nat) : Nat := min 3 (d / 1024)

/-- The trim of a demand (R33). -/
def trimOf (d : Nat) : Nat := d - 1024 * stepsOf d

/-- The step banks take the demand (R33). -/
def setBanks (n : Nat) (s : State) : State :=
  s.mapFiring fun b => { b with
    step1 := decide (1 ≤ n)
    step2 := decide (2 ≤ n)
    step3 := decide (3 ≤ n) }

/-- The conduction for a trim (R34). -/
def State.conduction (s : State) (u : Nat) : Nat := interpUp s.tables.firingMap.vals 16 64 u

/-- The offset of the pulse in its half-cycle before the guards (R35). -/
def rawOffset (c h : Nat) : Nat := (4096 - c) * h / 4096

/-- The offset that the guards leave, or none where no pulse is scheduled (R35). -/
def State.trimOffset (s : State) (c h : Nat) : Option Nat :=
  if c ≤ s.setting Setting.MIN_CONDUCTION then none
  else
    let o := max (rawOffset c h) (s.setting Setting.EARLY_GUARD)
    if h < o + s.setting Setting.TRIM_PULSE + s.setting Setting.END_GUARD then none else some o

/-- The record of a pulse `o` counts after the crossing at `t0`, made `lag` counts after it: begun at
once if its start has come, and not made if its end has (R36). -/
def makePulse (t0 : Count) (lag width o : Nat) : List Pulse :=
  if o + width ≤ lag then []
  else
    [⟨t0 + BitVec.ofNat 24 o, t0 + BitVec.ofNat 24 (o + width),
      if o ≤ lag then .delivering else .waiting⟩]

/-- The trim gate is HIGH while a record is being delivered (R32). -/
def anyDelivering (ps : List Pulse) : Bool := ps.any fun p => p.stage == .delivering

/-- No trim pulse is scheduled for this cycle (R35). -/
def scheduleNone (s : State) : State := s.mapFiring fun b => { b with scheduled := 0 }

/-- The two pulses of a cycle are scheduled for the trim `u`, if the guards pass (R34 to R36). -/
def scheduleTrim (u p : Nat) (t0 : Count) (lag : Nat) (s : State) : State :=
  match s.trimOffset (s.conduction u) (p / 2) with
  | none => scheduleNone s
  | some o =>
      let width := s.setting Setting.TRIM_PULSE
      let ps := makePulse t0 lag width o ++ makePulse t0 lag width (p / 2 + o)
      s.mapFiring fun b => { b with pulses := ps, trimGate := anyDelivering ps, scheduled := 2 }

/-- The Ballast Firing Unit at a demand update: cancel, split, schedule (R33). A demand of 0 gives no trim
pulse, whatever entry 0 of the firing map holds (R22), so none is given in STOPPED (R43). DEDUCED (assumption
20): R22 and R43 limit what R34 and R35 would schedule at trim 0. -/
def firingUpdate (p : Nat) (t0 : Count) (lag : Nat) (s : State) : State :=
  let s1 := setBanks (stepsOf s.gov.d) (removePulses s)
  if s.gov.d = 0 then scheduleNone s1 else scheduleTrim (trimOf s.gov.d) p t0 lag s1

/-- The Ballast Firing Unit at a plant entry (R39). -/
def firingEntry (p : PlantState) (s : State) : State :=
  match p with
  | .stopped => setBanks 0 (cancelPulses s)
  | .tripped => setBanks 3 s
  | .runup => s
  | .run => s
  | .stopping => s

/-- The first WAITING record of the list passes to DELIVERING (R36). -/
def startFirst : List Pulse → List Pulse
  | [] => []
  | p :: ps =>
      match p.stage with
      | .waiting => { p with stage := .delivering } :: ps
      | .delivering => p :: startFirst ps

/-- The first DELIVERING record of the list is removed (R36). -/
def endFirst : List Pulse → List Pulse
  | [] => []
  | p :: ps =>
      match p.stage with
      | .delivering => ps
      | .waiting => p :: endFirst ps

/-- A WAITING record begins; without one nothing changes (R36). -/
def startPulse (s : State) : State :=
  if s.firing.pulses.any (fun p => p.stage == .waiting) then
    s.mapFiring fun b => { b with pulses := startFirst b.pulses, trimGate := true }
  else s

/-- A DELIVERING record ends; without one nothing changes (R36). -/
def endPulse (s : State) : State :=
  if s.firing.pulses.any (fun p => p.stage == .delivering) then
    s.mapFiring fun b => { b with
      pulses := endFirst b.pulses
      trimGate := anyDelivering (endFirst b.pulses) }
  else s

/-- TRIM_PULSE_START (R36). -/
def execTrimPulseStart (s : State) : Host.Outcome State Fault Refusal := .next (startPulse s)

/-- TRIM_PULSE_END (R36). -/
def execTrimPulseEnd (s : State) : Host.Outcome State Fault Refusal := .next (endPulse s)

end Sys2Proof.Machine
end

