-- ==== Sys2Proof/Machine/Governor.lean ====
section
/-! DEFINITION. The Governor: gain switches, engagement and the PI law (sections 2.2 to 2.4). -/

namespace Sys2Proof.Machine

/-- A pending gain set becomes active, with its GAIN entry (R30). -/
def applyPendingGain (s : State) : State :=
  match s.gov.pendingSet with
  | some g =>
      journalAppend .gain none g.code
        (s.mapGov fun gov => { gov with active := g, pendingSet := none })
  | none => s

/-- The frequency error in mHz, clamped (R23). -/
def State.freqError (s : State) (f : Nat) : Int := clampInt (-5000) 5000 (f - s.fSet)

/-- The engaged flag is set at this update (R25). -/
def State.engages (s : State) (f : Nat) : Bool :=
  !s.gov.engaged &&
    match s.plant.state with
    | .runup => decide (s.nominal - 1000 ≤ (f : Int))
    | .run => true
    | .stopping => true
    | .stopped => false
    | .tripped => false

/-- The PI step from gains and error (R24). -/
def piStep (kp ki : Nat) (e : Int) (g : Governor) : Governor :=
  let n : Int := kp * (e - g.ePrev) + ki * e + g.residue
  let d' : Int := g.d + n / 256
  if d' < 0 then { g with d := 0, residue := 0, ePrev := e }
  else if 4096 < d' then { g with d := 4096, residue := 0, ePrev := e }
  else { g with d := d'.toNat, residue := (n % 256).toNat, ePrev := e }

/-- The proportional gain of the active set (R28). -/
def State.kp (s : State) : Nat :=
  match s.gov.active with
  | .normal => s.setting Setting.KP_NORMAL
  | .saw => s.setting Setting.KP_SAW

/-- The integral gain of the active set (R28). -/
def State.ki (s : State) : Nat :=
  match s.gov.active with
  | .normal => s.setting Setting.KI_NORMAL
  | .saw => s.setting Setting.KI_SAW

/-- Engagement sets the flag and starts the law from the present error (R25). -/
def engage (f : Nat) (e : Int) (s : State) : State :=
  if s.engages f then s.mapGov fun g => { g with engaged := true, ePrev := e, residue := 0 } else s

/-- The PI law runs while the flag is set (R24). -/
def runLaw (e : Int) (s : State) : State :=
  if s.gov.engaged then s.mapGov (piStep s.kp s.ki e) else s

/-- The Governor's part of a demand update: the pending set, engagement, the law (R23). -/
def governorUpdate (f : Nat) (s : State) : State :=
  let s1 := applyPendingGain s
  runLaw (s1.freqError f) (engage f (s1.freqError f) s1)

/-- The Governor at a plant entry (R26). At entry to TRIPPED the Plant State Controller requests the
NORMAL set (R29, R49). -/
def governorEntry (p : PlantState) (s : State) : State :=
  match p with
  | .stopped => s.mapGov fun g => { g with d := 0, residue := 0, engaged := false }
  | .runup => s.mapGov fun g => { g with d := 0, residue := 0, engaged := false }
  | .tripped =>
      requestGain .normal (s.mapGov fun g => { g with d := 4096, residue := 0, engaged := false })
  | .run => s
  | .stopping => s

end Sys2Proof.Machine
end

