-- ==== Sys2Proof/Machine/Shedding.lean ====
section
/-! DEFINITION. The Load Shedding Unit: frequency shedding, the saw's sheds, and restoring (chapter 6). -/

namespace Sys2Proof.Machine

/-- The frequency shed candidate (R116). -/
def State.frequencyCandidate (s : State) : Option Nat := shedCandidate 1 s.hamlet.entries

/-- A frequency shed: the candidate is appended, or NOTHING_TO_SHED is raised (R118 to R120). -/
def frequencyShed (s : State) : State :=
  match s.frequencyCandidate with
  | some i => appendRequest i .frequency s
  | none => raise .nothingToShed none s

/-- The saw shed candidate (R116). -/
def State.sawCandidate (s : State) : Option Nat :=
  shedCandidate (s.setting Setting.SAW_FLOOR) s.hamlet.entries

/-- The circuit that a saw shed request would shed: the candidate, in RUN (R121). -/
def State.sawShedAnswer (s : State) : Option Nat :=
  if s.inPlant .run then s.sawCandidate else none

/-! ## The steps of a demand update (R117) -/

/-- Step 1: the emergency lockout is lowered (R118). -/
def lowerLockout (s : State) : State := s.mapShed fun l => { l with lockout := l.lockout - 1 }

/-- The frequency is below the emergency threshold (R118). -/
def State.emergency (s : State) (f : Nat) : Bool :=
  decide ((f : Int) < s.nominal - s.setting Setting.EMERGENCY_DROP)

/-- Step 2: the emergency test (R118). DESIGN CHOICE (assumption 27): a running shed timer restarts at every
emergency shed that is due, where no candidate is found too. -/
def emergencyTest (f : Nat) (s : State) : State :=
  if s.emergency f && s.shed.lockout == 0 then
    frequencyShed
      (s.mapShed fun l => { l with lockout := 10, shedTimer := l.shedTimer.map fun _ => 0 })
  else s

/-- The shed condition (R119). -/
def State.shedCondition (s : State) (e : Int) : Bool :=
  s.gov.d == 0 && decide (e ≤ -(s.setting Setting.SHED_BAND : Int))

/-- The shed timer restarts and the frequency candidate is shed (R119). -/
def shedDue (s : State) : State :=
  frequencyShed (s.mapShed fun l => { l with shedTimer := some 0 })

/-- The shed timer after it has started or gained its period (R119). -/
def shedTimerAfter (p : Nat) : Option Nat → Nat
  | none => 0
  | some x => x + p

/-- Step 3: the shed timer, and a shed if it is due (R119). -/
def shedTimerStep (e : Int) (p : Nat) (s : State) : State :=
  if s.shedCondition e then
    let x := shedTimerAfter p s.shed.shedTimer
    if seconds (s.setting Setting.SHED_DELAY) ≤ x then shedDue s
    else s.mapShed fun l => { l with shedTimer := some x }
  else s.mapShed fun l => { l with shedTimer := none }

/-- The restore candidate, by the saw state read now (R122). -/
def State.restoreCandidate (s : State) : Option ShedEntry :=
  if s.saw.state = .idle then s.shed.list.getLast?
  else (s.shed.list.filter fun e => e.cause != .saw).getLast?

/-- The candidate for which the restore condition holds (R123, R124). -/
def State.restorable (s : State) : Option ShedEntry :=
  match s.restoreCandidate with
  | some c =>
      if s.saw.state ≠ .engaging ∧ c.load + s.setting Setting.RESTORE_MARGIN ≤ s.surplus then some c
      else none
  | none => none

/-- The circuit leaves the list and closes (R125). -/
def restoreCircuit (i : Nat) (s : State) : State :=
  journalAppend .restore (some i) s.surplus (moveCircuit i .closed (removeShed i s))

/-- The restore timer for a candidate whose condition holds (R124). -/
def restoreElapsed (c : ShedEntry) (p : Nat) : Option RestoreTimer → Nat
  | some r => if r.circuit = c.circuit then r.elapsed + p else 0
  | none => 0

/-- Step 4: the restore timer, and a restore if it is due (R124, R125). -/
def restoreStep (p : Nat) (s : State) : State :=
  match s.restorable with
  | some c =>
      let x := restoreElapsed c p s.shed.restoreTimer
      if seconds (s.setting Setting.RESTORE_DELAY) ≤ x then restoreCircuit c.circuit s
      else s.mapShed fun l => { l with restoreTimer := some ⟨c.circuit, x⟩ }
  | none => s.mapShed fun l => { l with restoreTimer := none }

/-- The Load Shedding Unit at a demand update: used in RUN only (R117). -/
def sheddingUpdate (f : Nat) (e : Int) (p : Nat) (s : State) : State :=
  if s.inPlant .run then
    restoreStep p (shedTimerStep e p (emergencyTest f (lowerLockout s)))
  else s

/-! ## Commands -/

/-- The shed timer reaches its length: it must be running, in RUN (R119). -/
def shedTimerExpires (s : State) : State :=
  if s.inPlant .run && s.shed.shedTimer.isSome then shedDue s else s

/-- The restore timer reaches its length for the candidate it is timing (R124, R125). -/
def restoreExpires (s : State) : State :=
  match s.restorable, s.shed.restoreTimer with
  | some c, some r =>
      if s.inPlant .run && c.circuit == r.circuit then restoreCircuit c.circuit s else s
  | _, _ => s

/-- SHED_TIMER_EXPIRY (R119). -/
def execShedTimerExpiry (s : State) : Host.Outcome State Fault Refusal := .next (shedTimerExpires s)

/-- RESTORE (R125). -/
def execRestore (s : State) : Host.Outcome State Fault Refusal := .next (restoreExpires s)

end Sys2Proof.Machine
end

