-- ==== Sys2Proof/Machine/Saw.lean ====
section
/-! DEFINITION. The Saw Coordinator (chapter 7). -/

namespace Sys2Proof.Machine

/-! ## Entries to the saw states -/

/-- The four timers stop, the marks clear, the grant goes (R139). -/
def Saw.rest (w : Saw) : Saw :=
  { w with
    state := .idle
    grant := none
    reserve := none
    settle := none
    confirm := none
    rundown := none
    releaseOrdered := false
    engagedSeen := false }

/-- Entry to IDLE, with the lamp that the rule for the entry names (R139). -/
def enterSawIdle (lamp : Lamp) (s : State) : State :=
  let s1 := s.mapSaw Saw.rest
  let s2 := setSawOrder { s1.saw.order with clutch := .release, feed := 0, lamp := lamp } s1
  journalAppend .saw none 0 (relabel (requestGain .normal s2))

/-- Entry to RESERVING (R140). -/
def enterReserving (s : State) : State :=
  let s1 := s.mapSaw fun w => { w with
    state := .reserving
    reserve := some (seconds (s.setting Setting.RESERVE_TIMEOUT)) }
  journalAppend .saw none 1 (setSawOrder { s1.saw.order with lamp := .wait } s1)

/-- Entry to ENGAGING (R141, R143). -/
def enterEngaging (s : State) : State :=
  let s1 := s.mapSaw fun w => { w with
    state := .engaging
    reserve := none
    settle := none
    confirm := some (seconds (s.setting Setting.CLUTCH_CONFIRM))
    engagedSeen := false }
  let s2 := setSawOrder { s1.saw.order with clutch := .engage, feed := 0, lamp := .wait } s1
  journalAppend .saw none 2 (requestGain .saw s2)

/-- Entry to RUNNING (R146). -/
def enterRunning (s : State) : State :=
  let s1 := s.mapSaw fun w => { w with
    state := .running
    settle := none
    grant := some (s.setting Setting.GRANT_LENGTH * 60) }
  journalAppend .saw none 3 (setSawOrder { s1.saw.order with lamp := .go } s1)

/-- Entry to STOPPING (R149). -/
def enterSawStopping (s : State) : State :=
  let s1 := s.mapSaw fun w => { w with
    state := .stopping
    reserve := none
    settle := none
    confirm := none
    grant := none
    rundown := some (seconds (s.setting Setting.RUNDOWN))
    releaseOrdered := false }
  journalAppend .saw none 4 (setSawOrder { s1.saw.order with feed := 0, lamp := .stop } s1)

/-- The clutch release is ordered (R149). -/
def orderRelease (s : State) : State :=
  let s1 := s.mapSaw fun w => { w with
    rundown := none
    releaseOrdered := true
    confirm := some (seconds (s.setting Setting.CLUTCH_CONFIRM)) }
  setSawOrder { s1.saw.order with clutch := .release } s1

/-- A reservation is denied with a reason of Table 7-4 (R142). -/
def denyReservation (reason : Nat) (s : State) : State :=
  enterSawIdle .stop (journalAppend .sawDenied none reason s)

/-- CLUTCH_FAULT is raised and the saw enters STOPPING (R144, R148). -/
def clutchFails (s : State) : State := enterSawStopping (raise .clutchFault none s)

/-- CLUTCH_FAULT is raised and the saw enters IDLE with lamp STOP (R150). -/
def clutchFailsToIdle (s : State) : State := enterSawIdle .stop (raise .clutchFault none s)

/-! ## The operator's requests -/

/-- The verdict echo becomes this number and verdict (R135). -/
def setVerdict (num : Nat) (v : Verdict) (s : State) : State :=
  setSawOrder { s.saw.order with echo := num, verdict := v } s

/-- The lamp alone changes. -/
def setLamp (lamp : Lamp) (s : State) : State := setSawOrder { s.saw.order with lamp := lamp } s

/-- The reason for which a START in IDLE is denied, if there is one (R140, Table 7-4). -/
def State.startDenial (s : State) : Option Nat :=
  if !s.inPlant .run then some 0
  else if !s.time.sawOpen then some 1
  else if !s.tables.feedCurve.ready then some 2
  else none

/-- START in IDLE (R140). -/
def startRequest (num : Nat) (s : State) : State :=
  match s.startDenial with
  | none => enterReserving (setVerdict num .accepted s)
  | some reason =>
      journalAppend .sawDenied none reason (setLamp .stop (setVerdict num .refused s))

/-- EXTEND in RUNNING (R147). -/
def extendRequest (num : Nat) (s : State) : State :=
  match s.saw.grant with
  | some g =>
      if s.setting Setting.EXTEND_MIN_LEFT * 60 ≤ g then
        setVerdict num .accepted
          (s.mapSaw fun w => { w with
            grant := some (min (g + s.setting Setting.EXTEND_LENGTH * 60) 14400) })
      else setVerdict num .refused s
  | none => setVerdict num .refused s

/-- A request taken by the saw state then standing (Table 7-3). -/
def takeRequest (num : Nat) (r : SawRequest) (s : State) : State :=
  match r, s.saw.state with
  | .unknown, _ => setVerdict num .refused s
  | .start, .idle => startRequest num s
  | .stop, .idle => setLamp .dark (setVerdict num .none s)
  | .extend, .idle => setLamp .dark (setVerdict num .none s)
  | .none, .idle => setLamp .dark (setVerdict num .none s)
  | .none, _ => setVerdict num .none s
  | .start, .stopping => setVerdict num .refused s
  | .start, _ => setVerdict num .accepted s
  | .stop, .reserving => enterSawIdle .dark (setVerdict num .accepted s)
  | .stop, .stopping => setVerdict num .accepted s
  | .stop, _ => enterSawStopping (setVerdict num .accepted s)
  | .extend, .running => extendRequest num s
  | .extend, .stopping => setVerdict num .refused s
  | .extend, _ => setVerdict num .none s

/-- The request number and code of a fresh sample (R135). -/
def operatorRequest (num : Nat) (r : SawRequest) (s : State) : State :=
  let s1 := s.mapSaw fun w => { w with lastNumber := some num }
  match s.saw.lastNumber with
  | none => setVerdict num .none s1
  | some n => if n = num then s else takeRequest num r s1

/-! ## The reports -/

/-- A clutch report in ENGAGING (R144). -/
def clutchInEngaging (c : ClutchReport) (s : State) : State :=
  match c with
  | .engaged =>
      if s.saw.engagedSeen then s
      else
        s.mapSaw fun w => { w with
          confirm := none
          engagedSeen := true
          settle := some (seconds (s.setting Setting.ENGAGE_SETTLE)) }
  | .opened => if s.saw.engagedSeen then clutchFails s else s
  | .fault => clutchFails s
  | .unknown => s

/-- A clutch report in RUNNING (R148). -/
def clutchInRunning (c : ClutchReport) (s : State) : State :=
  match c with
  | .opened => clutchFails s
  | .fault => clutchFails s
  | .engaged => s
  | .unknown => s

/-- A clutch report in STOPPING, before and after the release is ordered (R149, R150). -/
def clutchInStopping (c : ClutchReport) (s : State) : State :=
  match c with
  | .opened => if s.saw.releaseOrdered then enterSawIdle .dark s else s
  | .fault => if s.saw.releaseOrdered then clutchFailsToIdle s else raise .clutchFault none s
  | .engaged => s
  | .unknown => s

/-- The clutch report is stored and applied by the state then standing (R134). -/
def applyClutch (c : ClutchReport) (s : State) : State :=
  let s1 := s.mapSaw fun w => { w with clutchReport := c }
  match s.saw.state with
  | .idle => s1
  | .reserving => s1
  | .engaging => clutchInEngaging c s1
  | .running => clutchInRunning c s1
  | .stopping => clutchInStopping c s1

/-- The carriage report is stored, and applied in STOPPING (R134, R149). -/
def applyCarriage (c : CarriageReport) (s : State) : State :=
  let s1 := s.mapSaw fun w => { w with carriageReport := c }
  if s.saw.state = .stopping ∧ s.saw.releaseOrdered = false ∧ c = .stopped then orderRelease s1
  else s1

/-- The clutch report is other than the clutch order (R138). -/
def clutchAgainst : ClutchOrder → ClutchReport → Bool
  | .engage, .opened => true
  | .engage, .fault => true
  | .release, .engaged => true
  | .release, .fault => true
  | .engage, .engaged => false
  | .release, .opened => false
  | _, .unknown => false

/-- The order check of a fresh sample (R138). -/
def sawOrderCheck (c : ClutchReport) (s : State) : State :=
  if clutchAgainst s.saw.order.clutch c then writeSawSlot s else s

/-- A fresh sample is heard: the silence timer restarts, and a set mark clears with its cause (R134,
R136). -/
def sawHeard (s : State) : State :=
  let s1 := s.mapSaw fun w => { w with
    silence := restartSilence (s.mapped Role.SAW)
    silent := false }
  if s.saw.silent then causeEnd .sawSilent s1 else s1

/-- A saw sample payload: fresh if it has its four bytes (R134). -/
def sawSample (payload : List Byte) (s : State) : State :=
  match payload with
  | num :: req :: clutch :: carriage :: _ =>
      let c := clutchOfCode clutch.toNat
      sawOrderCheck c
        (applyCarriage (carriageOfCode carriage.toNat)
          (applyClutch c
            (operatorRequest num.toNat (sawRequestOfCode req.toNat) (sawHeard s))))
  | _ => s

/-! ## Demand updates -/

/-- RESERVING at a demand update (R141). -/
def reserveUpdate (s : State) : State :=
  if s.setting Setting.SAW_RESERVE_W ≤ s.surplus then enterEngaging s
  else if s.saw.settle.isSome then s
  else
    match s.sawShedAnswer with
    | some i =>
        (appendRequest i .saw s).mapSaw fun w => { w with
          settle := some (seconds (s.setting Setting.SHED_DELAY)) }
    | none => s

/-- The frequency deficit in mHz (R148). -/
def State.deficit (s : State) (f : Nat) : Nat := (s.fSet - f).toNat

/-- The feed scale for a deficit (R148). -/
def State.feedScale (s : State) (deficit : Nat) : Nat :=
  interpDown s.tables.feedCurve.vals 100 16 deficit

/-- The new feed scale is written over the held one (R148). -/
def feedWritten (new held : Nat) : Bool :=
  decide (held + 10 ≤ new) || decide (new + 10 ≤ held) || (new != held && (new == 0 || new == 1000))

/-- RUNNING at a demand update (R148). -/
def feedUpdate (f : Nat) (s : State) : State :=
  let new := s.feedScale (s.deficit f)
  if feedWritten new s.saw.order.feed then setSawOrder { s.saw.order with feed := new } s else s

/-- The Saw Coordinator at a demand update (R141, R148). -/
def sawUpdate (f : Nat) (s : State) : State :=
  match s.saw.state with
  | .reserving => reserveUpdate s
  | .running => feedUpdate f s
  | .idle => s
  | .engaging => s
  | .stopping => s

/-! ## Other events -/

/-- The SAW window closes (R142, R145, R148, R150). -/
def sawWindowCloses (s : State) : State :=
  match s.saw.state with
  | .reserving => denyReservation 1 s
  | .engaging => enterSawStopping s
  | .running => enterSawStopping s
  | .idle => s
  | .stopping => s

/-- The silent mark has been set: SAW_SILENT is raised, and what follows by the saw state (R136). In
RESERVING the CONDITION entry stands after the SAW_DENIED entry (R157) and, DEDUCED, after the SAW entry of
the same denial (assumption 24). -/
def sawFallsSilent (s : State) : State :=
  match s.saw.state with
  | .reserving => raise .sawSilent none (denyReservation 4 s)
  | .engaging => enterSawStopping (raise .sawSilent none s)
  | .running => enterSawStopping (raise .sawSilent none s)
  | .idle => raise .sawSilent none s
  | .stopping => raise .sawSilent none s

/-- The running saw silence timer reaches NODE_SILENCE_S (R136). -/
def sawSilenceExpires (s : State) : State :=
  if s.saw.silence.isSome then
    sawFallsSilent (s.mapSaw fun w => { w with silence := none, silent := true })
  else s

/-- The reserve timer expires in RESERVING (R142). -/
def reserveTimerExpires (s : State) : State :=
  if s.saw.state = .reserving ∧ s.saw.reserve.isSome then denyReservation 3 s else s

/-- The settle timer expires: nothing more in RESERVING, RUNNING from ENGAGING (R141, R144). -/
def settleExpires (s : State) : State :=
  if s.saw.settle.isSome then
    let s1 := s.mapSaw fun w => { w with settle := none }
    if s.saw.state = .engaging then enterRunning s1 else s1
  else s

/-- The confirm timer expires (R144, R150). -/
def confirmExpires (s : State) : State :=
  if s.saw.confirm.isSome then
    let s1 := s.mapSaw fun w => { w with confirm := none }
    match s.saw.state with
    | .engaging => clutchFails s1
    | .stopping => clutchFailsToIdle s1
    | .idle => s1
    | .reserving => s1
    | .running => s1
  else s

/-- The rundown timer expires in STOPPING before the release (R149). -/
def rundownExpires (s : State) : State :=
  if s.saw.state = .stopping ∧ s.saw.rundown.isSome then orderRelease s else s

/-- The grant remaining reaches 0 in RUNNING (R146). -/
def grantExpires (s : State) : State :=
  if s.saw.state = .running then enterSawStopping s else s

/-- The Saw Coordinator at a plant entry (R152). -/
def sawEntry (p : PlantState) (s : State) : State :=
  match p, s.saw.state with
  | .tripped, .idle => setLamp .stop s
  | .tripped, _ => enterSawIdle .stop s
  | .stopped, .idle => s
  | .stopped, _ => enterSawIdle .stop s
  | .stopping, .reserving => enterSawStopping s
  | .stopping, .engaging => enterSawStopping s
  | .stopping, .running => enterSawStopping s
  | .stopping, _ => s
  | .runup, _ => s
  | .run, _ => s

/-- The saw silence timer at a mill second (R136). -/
def sawSilenceTick (s : State) : State :=
  match s.saw.silence with
  | some n =>
      let s1 := s.mapSaw fun w => { w with silence := some (n + 1) }
      if s.setting Setting.NODE_SILENCE_S ≤ n + 1 then sawSilenceExpires s1 else s1
  | none => s

/-- The grant at a mill second (R146). -/
def grantTick (s : State) : State :=
  match s.saw.state, s.saw.grant with
  | .running, some g =>
      if g ≤ 1 then grantExpires (s.mapSaw fun w => { w with grant := some 0 })
      else s.mapSaw fun w => { w with grant := some (g - 1) }
  | _, _ => s

/-! ## Commands -/

/-- SAW_SAMPLE (R134). -/
def execSawSample (payload : List Byte) (s : State) : Host.Outcome State Fault Refusal :=
  .next (sawSample payload s)

/-- RESERVE_TIMER_EXPIRY (R142). -/
def execReserveTimerExpiry (s : State) : Host.Outcome State Fault Refusal :=
  .next (reserveTimerExpires s)

/-- SAW_SETTLE_EXPIRY (R144). -/
def execSawSettleExpiry (s : State) : Host.Outcome State Fault Refusal := .next (settleExpires s)

/-- CLUTCH_CONFIRM_EXPIRY (R150). -/
def execClutchConfirmExpiry (s : State) : Host.Outcome State Fault Refusal := .next (confirmExpires s)

/-- RUNDOWN_EXPIRY (R149). -/
def execRundownExpiry (s : State) : Host.Outcome State Fault Refusal := .next (rundownExpires s)

/-- GRANT_EXPIRY (R146). -/
def execGrantExpiry (s : State) : Host.Outcome State Fault Refusal := .next (grantExpires s)

/-- SAW_SILENCE_EXPIRY (R136). -/
def execSawSilenceExpiry (s : State) : Host.Outcome State Fault Refusal := .next (sawSilenceExpires s)

end Sys2Proof.Machine
end

