-- ==== Sys2Proof/Machine/Plant.lean ====
section
/-! DEFINITION. The Plant State Controller: plant entries, trips, the protection timers, and the end of
a stop (chapter 3), with what each block does at a plant entry (Table 3-3). -/

namespace Sys2Proof.Machine

/-! ## What the blocks do at a plant entry -/

/-- The plant state, its cause and the protection items at an entry (R45 to R50, Table 3-4). -/
def Plant.enter (p : PlantState) (cause : Cause) (pl : Plant) : Plant :=
  { state := p
    cause := cause
    accept := if p = .runup ∨ p = .tripped then 0 else pl.accept
    runupTimer := if p = .runup then some 0 else none
    stopTimer := if p = .stopping then some 0 else none
    signalLoss := none
    collapse := none
    freqOverspeed := if p = .tripped then none else pl.freqOverspeed }

/-- The condition that goes with an entry's cause (Table 3-2). -/
def causeCondition (p : PlantState) : Cause → Option Condition
  | .host => if p = .tripped then some .hostTrip else none
  | .stopTimeout => some .stopTimeout
  | .overspeed => some .overspeed
  | .signalLoss => some .signalLoss
  | .underfrequency => some .underfrequency
  | .runupTimeout => some .runupTimeout
  | .gateFault => some .gateFault
  | .powerOn => none
  | .restart => none
  | .runupDone => none
  | .waterShort => none
  | .stopDone => none

/-- The condition of the cause is raised, if there is one (R45). -/
def raiseCause (p : PlantState) (cause : Cause) (s : State) : State :=
  match causeCondition p cause with
  | some c => raise c none s
  | none => s

/-- The Mill Time Unit at a plant entry: the direction is 0 (R19). -/
def timeEntry (p : PlantState) (s : State) : State :=
  match p with
  | .run => s
  | .stopped => s.mapTime fun t => { t with direction := .zero }
  | .runup => s.mapTime fun t => { t with direction := .zero }
  | .stopping => s.mapTime fun t => { t with direction := .zero }
  | .tripped => s.mapTime fun t => { t with direction := .zero }

/-- The gate target at a plant entry (Table 4-2). -/
def State.entryGate (s : State) : PlantState → Nat
  | .runup => s.setting Setting.GATE_START
  | .run => max (s.setting Setting.GATE_START) (s.setting Setting.GATE_RUN_MIN)
  | .stopping => 0
  | .tripped => 0
  | .stopped => 0

/-- The Water Controller's timers and demand sum at a plant entry (R77, R78, R82, Table 4-2). -/
def Water.enter (p : PlantState) (w : Water) : Water :=
  { w with
    evalTimer := if p = .run then some 0 else none
    shortage := 0
    demandSum := if p = .run then 0 else w.demandSum
    demandCount := if p = .run then 0 else w.demandCount }

/-- The Water Controller at a plant entry (R83). -/
def waterEntry (p : PlantState) (s : State) : State :=
  setGate (s.entryGate p) (s.mapWater (Water.enter p))

/-- The circuits of tier 0 that are DARK, by index (R110). -/
def darkTier0 (cs : List Circuit) : List Nat :=
  (cs.zipIdx.filter fun x => x.1.state == .dark && x.1.tier == 0).map fun x => x.2

/-- The DARK circuits of one tier, in descending index. -/
def darkOfTier (cs : List Circuit) (tier : Nat) : List Nat :=
  (cs.zipIdx.reverse.filter fun x => x.1.state == .dark && x.1.tier == tier).map fun x => x.2

/-- The order in which the DARK circuits join the list at entry to RUN (R127). -/
def runupOrder (cs : List Circuit) : List Nat :=
  darkOfTier cs 3 ++ darkOfTier cs 2 ++ darkOfTier cs 1

/-- The hamlet is energised at entry to RUN (R47, R110, R127). -/
def energise (s : State) : State :=
  (runupOrder s.hamlet.entries).foldl (fun t i => appendRequest i .runup t)
    ((darkTier0 s.hamlet.entries).foldl (fun t i => moveCircuit i .closed t) s)

/-- A circuit at entry to STOPPING or TRIPPED (R110). -/
def Circuit.darken (c : Circuit) : Circuit :=
  if c.state = .closed ∨ c.state = .limitOpen ∨ c.state = .shed then
    { c with state := .dark, overCount := 0, disagree := 0, reclose := none }
  else c

/-- Some circuit of the feeder slot is CLOSED. -/
def State.slotClosed (s : State) (k : Nat) : Bool := (s.feederOrder k).any id

/-- Every supplied circuit is darkened and the shed list emptied, in one action (R110, R129). -/
def darken (s : State) : State :=
  (s.mapHamlet fun h => { h with entries := h.entries.map Circuit.darken }).mapShed fun _ =>
    ⟨[], none, 0, none⟩

/-- The hamlet goes dark; each feeder whose order changes has its slot rewritten (R103, R110). -/
def goDark (s : State) : State :=
  (List.range 6).foldl (fun t k => if s.slotClosed k then writeFeederSlot k t else t) (darken s)

/-- The Circuit Controller and the Load Shedding Unit at a plant entry (R110, R129). -/
def hamletEntry (p : PlantState) (s : State) : State :=
  match p with
  | .run => energise s
  | .stopping => goDark s
  | .tripped => goDark s
  | .runup => s
  | .stopped => s

/-! ## Plant entries (R45) -/

/-- The Plant State Controller's own part: state, cause, timers, the PLANT entry, the conditions (R45,
steps 1 to 4). -/
def recordEntry (p : PlantState) (cause : Cause) (s : State) : State :=
  raiseCause p cause
    (raise .plantChanged none
      (journalAppend .plant none (p.code * 256 + cause.code) (s.mapPlant (Plant.enter p cause))))

/-- A plant entry, recorded and then handed to the blocks (R45). -/
def enterPlant (p : PlantState) (cause : Cause) (s : State) : State :=
  sawEntry p
    (hamletEntry p
      (waterEntry p
        (timeEntry p
          (firingEntry p
            (governorEntry p (recordEntry p cause s))))))

/-- The stop is complete: the signal LOST and the gate last seen at 5 or less (R64). -/
def State.stopComplete (s : State) : Bool :=
  s.inPlant .stopping && s.edge.signal == .lost &&
    match s.water.gatePos with
    | some pos => decide (pos ≤ 5)
    | none => false

/-- The stop-completion test (R64). -/
def completionTest (s : State) : State :=
  if s.stopComplete then enterPlant .stopped .stopDone s else s

/-- Entry to STOPPING, with the completion test that is made at it (R48, R64). -/
def enterStopping (cause : Cause) (s : State) : State :=
  completionTest (enterPlant .stopping cause s)

/-- A trip: entry to TRIPPED, without effect in TRIPPED (R57). -/
def trip (cause : Cause) (s : State) : State :=
  if s.inPlant .tripped then s else enterPlant .tripped cause s

/-! ## Protection events -/

/-- A gate fault event (R62). -/
def gateFaultEvent (s : State) : State :=
  match s.plant.state with
  | .runup => trip .gateFault s
  | .run => trip .gateFault s
  | .stopping => trip .gateFault s
  | .stopped => s
  | .tripped => s

/-- A shortage event makes a running plant stop (R63). -/
def shortageToPlant (s : State) : State :=
  if s.inPlant .run then enterStopping .waterShort s else s

/-- The shortage event with its condition, raised after it has been taken (R82). -/
def shortageEvent (s : State) : State := raise .waterShort none (shortageToPlant s)

/-- The acceptance count has reached RUNUP_ACCEPT in RUNUP (R55). -/
def runupAccepted (s : State) : State :=
  if s.inPlant .runup then
    enterPlant .run .runupDone
      (s.mapPlant fun p => { p with accept := max p.accept (s.setting Setting.RUNUP_ACCEPT) })
  else s

/-- The running run-up timer reaches RUNUP_TIMEOUT (R56). -/
def runupTimerExpires (s : State) : State :=
  if s.inPlant .runup && s.plant.runupTimer.isSome then trip .runupTimeout s else s

/-- The running stop timer reaches STOP_TIMEOUT (R65). -/
def stopTimerExpires (s : State) : State :=
  if s.inPlant .stopping && s.plant.stopTimer.isSome then enterPlant .stopped .stopTimeout s else s

/-- The running signal-loss timer expires (R60). -/
def signalLossExpires (s : State) : State :=
  if s.plant.signalLoss.isSome then
    let s1 := s.mapPlant fun p => { p with signalLoss := none }
    if s.inPlant .run then trip .signalLoss s1 else s1
  else s

/-- The running collapse timer expires (R61). -/
def collapseExpires (s : State) : State :=
  if s.plant.collapse.isSome then
    let s1 := s.mapPlant fun p => { p with collapse := none }
    if s.inPlant .run then trip .underfrequency s1 else s1
  else s

/-- The running frequency-overspeed timer expires (R59). -/
def freqOverspeedExpires (s : State) : State :=
  if s.plant.freqOverspeed.isSome then
    trip .overspeed (s.mapPlant fun p => { p with freqOverspeed := none })
  else s

/-- The run-up and stop timers at a mill second (R56, R65). -/
def plantTick (s : State) : State :=
  match s.plant.state with
  | .runup =>
      match s.plant.runupTimer with
      | some n =>
          let s1 := s.mapPlant fun p => { p with runupTimer := some (n + 1) }
          if s.setting Setting.RUNUP_TIMEOUT ≤ n + 1 then runupTimerExpires s1 else s1
      | none => s
  | .stopping =>
      match s.plant.stopTimer with
      | some n =>
          let s1 := s.mapPlant fun p => { p with stopTimer := some (n + 1) }
          if s.setting Setting.STOP_TIMEOUT ≤ n + 1 then stopTimerExpires s1 else s1
      | none => s
  | .stopped => s
  | .run => s
  | .tripped => s

/-! ## The accepted valid period at the Plant State Controller -/

/-- The frequency lies within the acceptance band (R55). -/
def State.inBand (s : State) (f : Nat) : Bool :=
  decide (s.nominal - 1000 ≤ (f : Int)) && decide ((f : Int) ≤ s.nominal + 1000)

/-- The run-up acceptance count at a valid period (R55). -/
def acceptPeriod (f : Nat) (s : State) : State :=
  if s.inPlant .runup then
    if s.inBand f then
      let s1 := s.mapPlant fun p => { p with accept := p.accept + 1 }
      if s.setting Setting.RUNUP_ACCEPT ≤ s1.plant.accept then runupAccepted s1 else s1
    else s.mapPlant fun p => { p with accept := 0 }
  else s

/-- The frequency is above the overspeed threshold (R59). -/
def State.overFrequency (s : State) (f : Nat) : Bool :=
  decide (s.nominal + s.setting Setting.FREQ_OVERSPEED < (f : Int))

/-- The frequency-overspeed timer at a valid period (R59). -/
def watchOverspeed (f : Nat) (s : State) : State :=
  if s.inPlant .tripped then s
  else if s.overFrequency f then
    s.mapPlant fun p => { p with freqOverspeed := some (p.freqOverspeed.getD 2000000) }
  else s.mapPlant fun p => { p with freqOverspeed := none }

/-- The frequency is below the collapse threshold (R61). -/
def State.underFrequency (s : State) (f : Nat) : Bool :=
  decide ((f : Int) < s.nominal - s.setting Setting.COLLAPSE_DROP)

/-- The collapse timer starts if it is not running (R61). -/
def startCollapse (s : State) : State :=
  s.mapPlant fun p => { p with
    collapse := some (p.collapse.getD (seconds (s.setting Setting.COLLAPSE_TIME))) }

/-- The collapse timer at a valid period in RUN (R61). -/
def watchCollapse (f : Nat) (s : State) : State :=
  if s.inPlant .run then
    if s.underFrequency f then startCollapse s else s.mapPlant fun p => { p with collapse := none }
  else s

/-- The Plant State Controller takes an accepted valid period (R55, R59, R61). -/
def plantPeriod (f : Nat) (s : State) : State :=
  watchCollapse f (watchOverspeed f (acceptPeriod f s))

/-! ## The signal at the Plant State Controller -/

/-- A gap edge or the entry to LOST sets the acceptance count to 0 in RUNUP (R55). -/
def clearAcceptance (s : State) : State :=
  if s.inPlant .runup then s.mapPlant fun p => { p with accept := 0 } else s

/-- The signal-loss and collapse timers at entry to LOST in RUN (R60, R61). -/
def lossTimers (s : State) : State :=
  if s.inPlant .run then
    startCollapse
      (s.mapPlant fun p => { p with signalLoss := some (s.setting Setting.SIGNAL_LOSS_TIME * 2000) })
  else s

/-- The Plant State Controller takes the signal's entry to LOST (R55, R59, R60, R61, R64). -/
def plantSignalLost (s : State) : State :=
  completionTest
    (lossTimers (clearAcceptance (s.mapPlant fun p => { p with freqOverspeed := none })))

/-- The Plant State Controller takes the signal's entry to PRESENT (R60). -/
def plantSignalPresent (s : State) : State := s.mapPlant fun p => { p with signalLoss := none }

/-! ## Commands -/

/-- TOOTH_OVERSPEED (R58). -/
def execToothOverspeed (s : State) : Host.Outcome State Fault Refusal := .next (trip .overspeed s)

/-- RUNUP_ACCEPTED (R55). -/
def execRunupAccepted (s : State) : Host.Outcome State Fault Refusal := .next (runupAccepted s)

/-- RUNUP_TIMER_EXPIRY (R56). -/
def execRunupTimerExpiry (s : State) : Host.Outcome State Fault Refusal := .next (runupTimerExpires s)

/-- STOP_TIMER_EXPIRY (R65). -/
def execStopTimerExpiry (s : State) : Host.Outcome State Fault Refusal := .next (stopTimerExpires s)

/-- SIGNAL_LOSS_TIMER_EXPIRY (R60). -/
def execSignalLossTimerExpiry (s : State) : Host.Outcome State Fault Refusal :=
  .next (signalLossExpires s)

/-- COLLAPSE_TIMER_EXPIRY (R61). -/
def execCollapseTimerExpiry (s : State) : Host.Outcome State Fault Refusal :=
  .next (collapseExpires s)

/-- FREQ_OVERSPEED_TIMER_EXPIRY (R59). -/
def execFreqOverspeedTimerExpiry (s : State) : Host.Outcome State Fault Refusal :=
  .next (freqOverspeedExpires s)

/-- SHORTAGE_EVENT (R82). -/
def execShortageEvent (s : State) : Host.Outcome State Fault Refusal := .next (shortageEvent s)

end Sys2Proof.Machine
end

