-- ==== Sys2Proof/Machine/Water.lean ====
section
/-! DEFINITION. The Water Controller: samples, silence, and the gate evaluation (chapter 4). -/

namespace Sys2Proof.Machine

/-! ## Samples -/

/-- The residual flow for a weir head (R73). -/
def State.weirFlow (s : State) (h : Nat) : Nat := interpUp s.tables.weir.vals 25 32 h

/-- The pond level and head of a fresh sample, clamped (R69). -/
def storePond (level head : Int) (s : State) : State :=
  let h := (clampInt 0 800 head).toNat
  s.mapWater fun w => { w with
    level := some (clampInt 0 4000 level).toNat
    head := some h
    flow := some (s.weirFlow h) }

/-- A fresh pond sample is heard (R69, R71). -/
def pondHeard (s : State) : State :=
  let s1 := s.mapWater fun w => { w with
    pondSilence := restartSilence (s.mapped Role.POND)
    pondSilent := false }
  if s.water.pondSilent then causeEnd .pondSilent s1 else s1

/-- A pond sample payload: fresh if it has its four bytes (R69). -/
def pondSample (payload : List Byte) (s : State) : State :=
  match payload with
  | a :: b :: c :: d :: _ => pondHeard (storePond (s16 a b) (s16 c d) s)
  | _ => s

/-- The position and status of a fresh gate sample (R70). -/
def storeGate (pos : Nat) (st : GateStatus) (s : State) : State :=
  s.mapWater fun w => { w with gatePos := some (min pos 1000), gateStatus := some st }

/-- A fresh gate sample is heard (R70, R71). -/
def gateHeard (s : State) : State :=
  let s1 := s.mapWater fun w => { w with
    gateSilence := restartSilence (s.mapped Role.GATE)
    gateSilent := false }
  if s.water.gateSilent then causeEnd .gateSilent s1 else s1

/-- The event handed to the Plant State Controller (R70). -/
def gateEvent (st : GateStatus) (s : State) : State :=
  match st with
  | .fault => gateFaultEvent s
  | .ok => completionTest s
  | .moving => completionTest s

/-- The gate stands more than 5 per-mille from its target (R85). -/
def gateAway (pos g : Nat) : Bool := decide (g + 5 < pos) || decide (pos + 5 < g)

/-- The order check of a gate sample (R85). -/
def gateOrderCheck (pos : Nat) (st : GateStatus) (s : State) : State :=
  if st = .ok ∧ gateAway pos s.water.gate = true then writeGateSlot s else s

/-- A gate sample payload: fresh if it has its three bytes (R70). DESIGN CHOICE (assumption 21): the order
check compares the position as it is stored, clamped, not as it was sent. -/
def gateSample (payload : List Byte) (s : State) : State :=
  match payload with
  | a :: b :: c :: _ =>
      let pos := u16 a b
      let st := gateStatusOfCode c.toNat
      gateOrderCheck (min pos 1000) st (gateEvent st (gateHeard (storeGate pos st s)))
  | _ => s

/-! ## Silence (R71) -/

/-- The running pond silence timer reaches NODE_SILENCE_S (R71). -/
def pondSilenceExpires (s : State) : State :=
  if s.water.pondSilence.isSome then
    raise .pondSilent none (s.mapWater fun w => { w with pondSilence := none, pondSilent := true })
  else s

/-- The running gate silence timer reaches NODE_SILENCE_S (R71). -/
def gateSilenceExpires (s : State) : State :=
  if s.water.gateSilence.isSome then
    raise .gateSilent none (s.mapWater fun w => { w with gateSilence := none, gateSilent := true })
  else s

/-- The pond silence timer at a mill second (R71). -/
def pondSilenceTick (s : State) : State :=
  match s.water.pondSilence with
  | some n =>
      let s1 := s.mapWater fun w => { w with pondSilence := some (n + 1) }
      if s.setting Setting.NODE_SILENCE_S ≤ n + 1 then pondSilenceExpires s1 else s1
  | none => s

/-- The gate silence timer at a mill second (R71). -/
def gateSilenceTick (s : State) : State :=
  match s.water.gateSilence with
  | some n =>
      let s1 := s.mapWater fun w => { w with gateSilence := some (n + 1) }
      if s.setting Setting.NODE_SILENCE_S ≤ n + 1 then gateSilenceExpires s1 else s1
  | none => s

/-! ## The demand average (R77) -/

/-- A demand update in RUN is added to the sum (R77). -/
def demandUpdate (s : State) : State :=
  if s.inPlant .run then
    s.mapWater fun w => { w with
      demandSum := w.demandSum + s.gov.d
      demandCount := w.demandCount + 1 }
  else s

/-- The demand average, unknown while the count is 0 (R77). -/
def State.demandAverage (s : State) : Option Nat :=
  if s.water.demandCount = 0 then none else some (s.water.demandSum / s.water.demandCount)

/-! ## The evaluation (R78 to R82) -/

/-- The evaluation timer and the demand sum start again (R77, R78). -/
def restartInterval (s : State) : State :=
  s.mapWater fun w => { w with evalTimer := some 0, demandSum := 0, demandCount := 0 }

/-- The gate closed by one step (R80). -/
def closedGate (g step : Nat) : Nat := g - step

/-- The gate opened by one step (R80). -/
def openedGate (g step : Nat) : Nat := min 1000 (g + step)

/-- The residual flow is below RESIDUAL_MIN (R80). -/
def State.flowLow (s : State) : Bool :=
  match s.water.flow with
  | some q => decide (q < s.setting Setting.RESIDUAL_MIN)
  | none => false

/-- The demand average is known and below DEMAND_LOW (R80). -/
def State.demandLow (s : State) : Bool :=
  match s.demandAverage with
  | some a => decide (a < s.setting Setting.DEMAND_LOW)
  | none => false

/-- The demand average is known and above DEMAND_HIGH (R80). -/
def State.demandHigh (s : State) : Bool :=
  match s.demandAverage with
  | some a => decide (s.setting Setting.DEMAND_HIGH < a)
  | none => false

/-- The target after the move of an evaluation at pond level `l` (R80). -/
def State.movedGate (s : State) (l : Nat) : Nat :=
  let g := s.water.gate
  if s.flowLow || decide (l < s.setting Setting.LEVEL_LOW) then
    closedGate g (s.setting Setting.CLOSE_STEP)
  else if s.demandLow && decide (s.setting Setting.LEVEL_LOW + s.setting Setting.LEVEL_BAND ≤ l) then
    openedGate g (s.setting Setting.OPEN_STEP)
  else if s.demandHigh && decide (l < s.setting Setting.LEVEL_HIGH) then
    closedGate g (s.setting Setting.CLOSE_STEP)
  else g

/-- The pond-curve limit at a level (R75). -/
def State.pondLimit (s : State) (l : Nat) : Nat := interpUp s.tables.pondCurve.vals 250 16 l

/-- The smaller of the moved target and the limit (R81). -/
def State.wantedGate (s : State) (l : Nat) : Nat := min (s.movedGate l) (s.pondLimit l)

/-- RESIDUAL_LOW is raised at an evaluation that finds the flow low (R80). -/
def raiseResidual (s : State) : State := if s.flowLow then raise .residualLow none s else s

/-- The shortage timer is charged and, at its grace, the shortage event is handed (R82). -/
def chargeShortage (interval : Nat) (s : State) : State :=
  let s1 := s.mapWater fun w => { w with shortage := w.shortage + interval }
  if s.setting Setting.SHORTAGE_GRACE * 60 ≤ s1.water.shortage then shortageEvent s1 else s1

/-- The target of an evaluation that is made, with its order rewritten, changed or not (R81). -/
def settleGate (g : Nat) (s : State) : State := writeGateSlot (s.mapWater fun w => { w with gate := g })

/-- An evaluation that is made, at pond level `l`, after `interval` mill seconds (R80 to R82). -/
def madeEvaluation (l interval : Nat) (s : State) : State :=
  let want := s.wantedGate l
  let s1 := restartInterval (raiseResidual s)
  if want < s.setting Setting.GATE_RUN_MIN then
    chargeShortage interval (settleGate (s.setting Setting.GATE_RUN_MIN) s1)
  else (settleGate want s1).mapWater fun w => { w with shortage := 0 }

/-- A gate evaluation after `interval` mill seconds: skipped while the pond is silent or its level is
unknown (R79). -/
def evaluate (interval : Nat) (s : State) : State :=
  match s.water.level with
  | some l => if s.water.pondSilent then restartInterval s else madeEvaluation l interval s
  | none => restartInterval s

/-- The running evaluation timer reaches GATE_INTERVAL in RUN (R78). -/
def gateEvaluation (s : State) : State :=
  match s.water.evalTimer with
  | some n => if s.inPlant .run then evaluate n s else s
  | none => s

/-- The evaluation timer at a mill second (R78). -/
def evaluationTick (s : State) : State :=
  match s.water.evalTimer with
  | some n =>
      if s.inPlant .run then
        let s1 := s.mapWater fun w => { w with evalTimer := some (n + 1) }
        if s.setting Setting.GATE_INTERVAL ≤ n + 1 then gateEvaluation s1 else s1
      else s
  | none => s

/-! ## Commands -/

/-- GATE_EVALUATION (R80). -/
def execGateEvaluation (s : State) : Host.Outcome State Fault Refusal := .next (gateEvaluation s)

/-- WATER_NODE_SILENCE_EXPIRY (R71). -/
def execWaterNodeSilenceExpiry (node : WaterNode) (s : State) : Host.Outcome State Fault Refusal :=
  match node with
  | .pond => .next (pondSilenceExpires s)
  | .gate => .next (gateSilenceExpires s)

/-- POND_SAMPLE (R69). -/
def execPondSample (payload : List Byte) (s : State) : Host.Outcome State Fault Refusal :=
  .next (pondSample payload s)

/-- GATE_SAMPLE (R70). -/
def execGateSample (payload : List Byte) (s : State) : Host.Outcome State Fault Refusal :=
  .next (gateSample payload s)

end Sys2Proof.Machine
end

