-- ==== Sys2Proof/Machine/Time.lean ====
section
/-! DEFINITION. The Mill Time Unit: windows, the time error, the correction, the mill second, and the
requests SET CLOCK and SET TIME ERROR (chapter 1). -/

namespace Sys2Proof.Machine

/-! ## Windows (R13, R14) -/

/-- The window contains the minute (R13). -/
def inWindow (w : Nat × Nat) (m : Nat) : Bool :=
  if w.1 < w.2 then decide (w.1 ≤ m) && decide (m < w.2)
  else if w.2 < w.1 then decide (w.1 ≤ m) || decide (m < w.2)
  else false

/-- The state an evaluation gives window `k` (R14). -/
def State.windowNow (s : State) (k : Nat) : Bool :=
  match s.time.clock with
  | some c => inWindow (s.tables.windows.getD k (0, 0)) (c.sec / 60)
  | none => false

/-- The three windows are evaluated; a closing of SAW is handed to the Saw Coordinator (R14). -/
def evaluateWindows (s : State) : State :=
  let s1 := s.mapTime fun t => { t with
    eveningOpen := s.windowNow 0
    nightOpen := s.windowNow 1
    sawOpen := s.windowNow 2 }
  if s.time.sawOpen && !s.windowNow 2 then sawWindowCloses s1 else s1

/-! ## The time error (R16, R17) -/

/-- The time error stands at one of its limits (R17). -/
def atLimit (te : Int) : Bool := te == -30000 || te == 30000

/-- The cause of TIME_ERROR_LIMIT after a change of the time error (R17). -/
def judgeTimeError (s : State) : State :=
  if atLimit s.time.te then raise .timeErrorLimit none s else causeEnd .timeErrorLimit s

/-- The time error is changed, clamped, and judged (R16, R17). -/
def addTimeError (x : Int) (s : State) : State :=
  judgeTimeError (s.mapTime fun t => { t with te := clampInt (-30000) 30000 (t.te + x) })

/-! ## The mill second (R10, R11, R19) -/

/-- The day clock one second later (R11). -/
def DayClock.next (c : DayClock) : DayClock :=
  if c.sec = 86399 then ⟨c.day + 1, 0⟩ else { c with sec := c.sec + 1 }

/-- The clock stands at a whole minute (R11). -/
def State.wholeMinute (s : State) : Bool :=
  match s.time.clock with
  | some c => c.sec % 60 == 0
  | none => false

/-- The day clock advances, and a minute boundary evaluates the windows (R11). -/
def advanceClock (s : State) : State :=
  let s1 := s.mapTime fun t => { t with clock := t.clock.map DayClock.next }
  if s1.wholeMinute then evaluateWindows s1 else s1

/-- The direction that a time error chooses in RUN (Table 1-5). -/
def chooseDirection (te start stop : Int) (held : Direction) : Direction :=
  if start ≤ te then .minus
  else if te ≤ -start then .plus
  else if -stop ≤ te ∧ te ≤ stop then .zero
  else held

/-- The correction is chosen at a mill second (R19). -/
def chooseCorrection (s : State) : State :=
  s.mapTime fun t => { t with
    direction :=
      if s.inPlant .run then
        chooseDirection t.te (s.setting Setting.CORR_START) (s.setting Setting.CORR_STOP) t.direction
      else .zero }

/-- The Mill Time Unit's own part of a mill second, in its order (R10). -/
def timeTick (s : State) : State :=
  chooseCorrection
    (addTimeError (-(s.setting Setting.NOMINAL_HZ : Int))
      (advanceClock (s.mapTime fun t => { t with divider := 0, count := t.count + 1 })))

/-- The feeder silence timers at a mill second (R95). -/
def feedersTick (s : State) : State :=
  (List.range 6).foldl (fun t k => feederSilenceTick k t) s

/-- The reclose times at a mill second (R99). -/
def reclosesTick (s : State) : State := (List.range 48).foldl (fun t i => recloseTick i t) s

/-- A mill second: the Mill Time Unit first, then the second-based timers of the other blocks
(assumption 5 fixes their order). -/
def millSecond (s : State) : State :=
  grantTick
    (sawSilenceTick
      (reclosesTick
        (feedersTick
          (evaluationTick
            (gateSilenceTick
              (pondSilenceTick
                (plantTick (timeTick s))))))))

/-! ## Requests -/

/-- SET CLOCK (R12). -/
def setClock (day : Word16) (sec : Nat) (s : State) : Reply :=
  if 86399 < sec then ⟨s, .badValue, []⟩
  else
    let before : Int :=
      match s.time.clock with
      | some c => c.sec
      | none => -1
    ⟨journalAppend .clockSet none before
      (evaluateWindows (s.mapTime fun t => { t with clock := some ⟨day, sec⟩ })), .done, []⟩

/-- SET TIME ERROR (R18). -/
def setTimeError (te : Int) (s : State) : Reply :=
  if te < -30000 ∨ 30000 < te then ⟨s, .badValue, []⟩
  else
    ⟨judgeTimeError
      (journalAppend .timeErrorSet none s.time.te (s.mapTime fun t => { t with te := te })), .done, []⟩

/-! ## Commands -/

/-- MILL_SECOND (R10). -/
def execMillSecond (s : State) : Host.Outcome State Fault Refusal := .next (millSecond s)

end Sys2Proof.Machine
end

