-- ==== Sys2Proof/Machine/Crossing.lean ====
section
/-! DEFINITION. The Edge Capture Unit: crossings, signal state, teeth, and the input filters
(chapter 1), with the demand update that a valid period makes (section 2.2). -/

namespace Sys2Proof.Machine

/-! ## The demand update and its observers -/

/-- The Load Shedding Unit and the Saw Coordinator take the update, in either order (R121). -/
def observersInOrder (shedFirst : Bool) (f : Nat) (e : Int) (p : Nat) (s : State) : State :=
  if shedFirst then sawUpdate f (sheddingUpdate f e p s) else sheddingUpdate f e p (sawUpdate f s)

/-- The Governor makes a demand update and its observers take it (R23). -/
def demandUpdates (shedFirst : Bool) (f p : Nat) (t0 : Count) (lag : Nat) (s : State) : State :=
  observersInOrder shedFirst f (s.freqError f) p
    (demandUpdate (firingUpdate p t0 lag (governorUpdate f s)))

/-- The Plant State Controller and the Governor take the valid period, in either order (R55). -/
def takersInOrder (plantFirst shedFirst : Bool) (f p : Nat) (t0 : Count) (lag : Nat) (s : State) :
    State :=
  if plantFirst then demandUpdates shedFirst f p t0 lag (plantPeriod f s)
  else plantPeriod f (demandUpdates shedFirst f p t0 lag s)

/-! ## Crossings (R3 to R5) -/

/-- The filtered level of an input takes an accepted level; the run count returns to 0 (R2). -/
def acceptLevel (input : EdgeInput) (level : Bool) (s : State) : State :=
  match input with
  | .xing => s.mapEdge fun e => { e with xing := { e.xing with level := level, run := 0 } }
  | .tooth => s.mapEdge fun e => { e with tooth := { e.tooth with level := level, run := 0 } }

/-- The length of the loss timer in counts (R5). -/
def lossCounts : Nat := 200000

/-- What the loss timer has left when an edge is accepted `lag` counts after its time: the timer measures
the time since the edge (R5), so it expires 200,000 counts after `t_prev` (section 1.4). -/
def lossLeft (lag : Nat) : Option Nat := some (lossCounts - lag)

/-- The frequency of a period in mHz (R4). -/
def frequencyOf (p : Nat) : Nat := 2000000000 / p

/-- The condition SHAFT_SENSOR is raised and its cause begins (R8). -/
def raiseShaft (s : State) : State :=
  raise .shaftSensor none (s.mapEdge fun e => { e with shaftCause := true })

/-- The signal's entry to PRESENT: the signal-loss timer stops, and a silent tooth input raises
SHAFT_SENSOR (R5, R8, R60). -/
def signalEntersPresent (s : State) : State :=
  let s1 := plantSignalPresent (s.mapEdge fun e => { e with signal := .present })
  if s.edge.toothSilent then raiseShaft s1 else s1

/-- The Edge Capture Unit's own part of a valid period (R3, R4). -/
def storePeriod (t : Count) (p lag : Nat) (s : State) : State :=
  s.mapEdge fun e => { e with
    tPrev := some t
    period := some p
    freq := some (frequencyOf p)
    lossTimer := lossLeft lag }

/-- The signal becomes PRESENT before the period is handed on (R5). -/
def recoverSignal (s : State) : State :=
  if s.edge.signal = .lost then signalEntersPresent s else s

/-- A valid period with the two orders that the manual leaves free. -/
def validPeriodInOrder (plantFirst shedFirst : Bool) (t : Count) (p lag : Nat) (s : State) : State :=
  takersInOrder plantFirst shedFirst (frequencyOf p) p t lag
    (addTimeError 1 (recoverSignal (storePeriod t p lag s)))

/-- An accepted valid period (R3 to R5); the two free orders are drawn (assumption 6). -/
def validPeriod (t : Count) (p lag : Nat) (s : State) : State :=
  validPeriodInOrder (Config.plantFirst s.draws) (Config.shedFirst s.draws) t p lag
    { s with draws := s.draws + 1 }

/-- A gap edge (R3, R37, R55). -/
def gapEdge (t : Count) (lag : Nat) (s : State) : State :=
  clearAcceptance
    (cancelPulses (s.mapEdge fun e => { e with tPrev := some t, lossTimer := lossLeft lag }))

/-- The classes of crossing edge (Table 1-1). -/
inductive EdgeClass where
  | short
  | valid (p : Nat)
  | gap
deriving DecidableEq, Repr

/-- The class of a period measured while the signal is PRESENT (Table 1-1). -/
def classOfPeriod (p : Nat) : EdgeClass :=
  if p < 30770 then .short else if p ≤ 57142 then .valid p else .gap

/-- The class of an accepted rising crossing edge (R3, R5). While the signal is LOST only a valid
spacing from a gap edge that arrived while LOST, and whose loss timer still runs, is a valid period;
every other edge is a gap edge (assumption 9). -/
def classify (t : Count) (e : EdgeCapture) : EdgeClass :=
  match e.signal, e.tPrev with
  | _, none => .gap
  | .present, some prev => classOfPeriod (t - prev).toNat
  | .lost, some prev =>
      match e.lossTimer, classOfPeriod (t - prev).toNat with
      | some _, .valid p => .valid p
      | _, _ => .gap

/-- An accepted rising crossing edge with time `t`, accepted `lag` counts after it (R3, R36). -/
def crossingEdge (t : Count) (lag : Nat) (s : State) : State :=
  match classify t s.edge with
  | .short => s
  | .valid p => validPeriod t p lag s
  | .gap => gapEdge t lag s

/-! ## Loss (R5) -/

/-- The Edge Capture Unit and the receivers take the signal's entry to LOST (R5, R38). -/
def signalEntersLost (s : State) : State :=
  plantSignalLost (cancelPulses (s.mapEdge fun e => { e with signal := .lost, freq := none }))

/-- The loss timer expires: LOST if the signal was PRESENT, else nothing (R5). -/
def lossTimerExpires (s : State) : State :=
  let s1 := s.mapEdge fun e => { e with lossTimer := none }
  if s.edge.signal = .present then signalEntersLost s1 else s1

/-! ## Teeth (R6 to R8) -/

/-- The length of the tooth silence timer in counts, from the acceptance of the edge that restarts it:
DEDUCED, R6 does not say whether the edge's own time counts (assumption 25). -/
def toothSilenceCounts : Nat := 1000000

/-- The overspeed count after a tooth period (R7). -/
def overspeedCount (period threshold count : Nat) : Nat :=
  if period < threshold then min 3 (count + 1) else 0

/-- The cause of SHAFT_SENSOR ends at a tooth edge (R8). -/
def endShaftCause (s : State) : State :=
  if s.edge.shaftCause then
    causeEnd .shaftSensor (s.mapEdge fun e => { e with shaftCause := false })
  else s

/-- The edge is recorded and the tooth silence timer restarts (R6). -/
def recordTooth (t : Count) (s : State) : State :=
  s.mapEdge fun e => { e with
    lastTooth := some t
    toothSilence := some toothSilenceCounts
    toothSilent := false }

/-- A tooth period and its overspeed check; a count left at 3 is a tooth overspeed (R6, R7, R58). -/
def toothPeriod (p : Nat) (s : State) : State :=
  let s1 := s.mapEdge fun e => { e with
    toothPeriod := some p
    overspeed := overspeedCount p (s.setting Setting.OVERSPEED_PERIOD) e.overspeed }
  if s1.edge.overspeed = 3 then trip .overspeed s1 else s1

/-- An accepted rising tooth edge (R6, R8). -/
def toothEdge (t : Count) (s : State) : State :=
  let s1 := endShaftCause (recordTooth t s)
  match s.edge.toothSilent, s.edge.lastTooth with
  | false, some prev => toothPeriod (t - prev).toNat s1
  | _, _ => s1.mapEdge fun e => { e with overspeed := 0 }

/-- The running tooth silence timer expires (R6, R8). -/
def toothSilenceExpires (s : State) : State :=
  if s.edge.toothSilence.isSome then
    let s1 := s.mapEdge fun e => { e with
      toothSilence := none
      toothSilent := true
      toothPeriod := none }
    if s.edge.signal = .present then raiseShaft s1 else s1
  else s

/-- The shaft speed of a tooth period in rpm (R6). -/
def speedOf (period teeth : Nat) : Nat :=
  if period = 0 then min 65534 (Config.speedOfZeroPeriod teeth)
  else min 65534 (120000000 / (period * teeth))

/-! ## The input filters (R2) -/

/-- A filter after one sample of the level `x`; the second part is the time of an accepted edge (R2). -/
def InputFilter.sample (x : Bool) (now : Count) (length : Nat) (f : InputFilter) :
    InputFilter × Option Count :=
  if x = f.level then ({ f with run := 0 }, none)
  else
    let start := if f.run = 0 then now else f.runStart
    if length ≤ f.run + 1 then (⟨x, 0, start⟩, some start) else (⟨f.level, f.run + 1, start⟩, none)

/-- One sample of XING, with the edge it may accept (R2, R3). -/
def sampleXing (s : State) : State :=
  let r := s.edge.xing.sample s.pins.xing s.edge.timebase (s.setting Setting.CROSS_FILTER)
  let s1 := s.mapEdge fun e => { e with xing := r.1 }
  match r.2 with
  | some t => if s.pins.xing then crossingEdge t (s.edge.timebase - t).toNat s1 else s1
  | none => s1

/-- One sample of TOOTH, with the edge it may accept (R2, R6). -/
def sampleTooth (s : State) : State :=
  let r := s.edge.tooth.sample s.pins.tooth s.edge.timebase (s.setting Setting.TOOTH_FILTER)
  let s1 := s.mapEdge fun e => { e with tooth := r.1 }
  match r.2 with
  | some t => if s.pins.tooth then toothEdge t s1 else s1
  | none => s1

/-! ## Commands -/

/-- ACCEPTED_RISING_CROSSING_EDGE (R3): the filtered level is HIGH and the edge is taken. -/
def execAcceptedRisingCrossingEdge (t : Count) (lag : Nat) (s : State) :
    Host.Outcome State Fault Refusal :=
  .next (crossingEdge t lag (acceptLevel .xing true s))

/-- ACCEPTED_FALLING_EDGE (R2): only the filtered level changes. -/
def execAcceptedFallingEdge (input : EdgeInput) (s : State) : Host.Outcome State Fault Refusal :=
  .next (acceptLevel input false s)

/-- LOSS_TIMER_EXPIRY (R5). -/
def execLossTimerExpiry (s : State) : Host.Outcome State Fault Refusal := .next (lossTimerExpires s)

/-- ACCEPTED_RISING_TOOTH_EDGE (R6). -/
def execAcceptedRisingToothEdge (t : Count) (s : State) : Host.Outcome State Fault Refusal :=
  .next (toothEdge t (acceptLevel .tooth true s))

/-- TOOTH_SILENCE_EXPIRY (R6). -/
def execToothSilenceExpiry (s : State) : Host.Outcome State Fault Refusal :=
  .next (toothSilenceExpires s)

end Sys2Proof.Machine
end

