-- ==== Sys2Proof/Machine/Tables.lean ====
section
/-! DEFINITION. The Table Store: READ ENTRIES and WRITE ENTRIES, the checks of each table, and what a
taken write does (sections 9.6 to 9.8, and the write rules of the other chapters). -/

namespace Sys2Proof.Machine

/-! ## Sizes (Table 9-6) -/

/-- The entries of a table; none for an id of 0 or above 10 (Table 9-6, R177). -/
def State.tableEntries (s : State) (id : Nat) : Option Nat :=
  match id with
  | 1 => some 9
  | 2 => some 57
  | 3 => some 65
  | 4 => some 33
  | 5 => some 17
  | 6 => some 17
  | 7 => some 3
  | 8 => some 48
  | 9 => some s.shed.list.length
  | 10 => some 10
  | _ => none

/-- Bytes per entry written (Table 9-6); 0 for the tables that are not written. -/
def writtenSize (id : Nat) : Nat :=
  match id with
  | 1 => 1
  | 7 => 4
  | 8 => 10
  | 9 => 0
  | 10 => 0
  | _ => 2

/-- Bytes per entry read (Table 9-6). -/
def readSize (id : Nat) : Nat :=
  match id with
  | 1 => 1
  | 7 => 4
  | 8 => 24
  | 9 => 8
  | 10 => 4
  | _ => 2

/-! ## Reading (R88, R130, R177, R180, Table 10-6) -/

/-- The ten host-written bytes of a circuit entry (Table 10-6). -/
def Circuit.hostBytes (c : Circuit) : List Byte :=
  [boolByte c.present] ++ be16 c.label ++ [byteOf c.tier] ++ be16 c.dayAllow ++
    be16 c.eveningAllow ++ be16 c.nightAllow

/-- A circuit entry as read (R88, Table 10-6). -/
def State.circuitBytes (s : State) (i : Nat) : List Byte :=
  let c := s.circuit i
  c.hostBytes ++ [byteOf c.state.code, byteOf c.overCount, byteOf c.strikes] ++
    be16 (c.reclose.getD 0) ++ be16 c.reading ++ [byteOf (breakerCode c.report), byteOf c.disagree] ++
    be32 c.energy ++ [boolByte (s.feeder (i / 8)).silent]

/-- A second of day, with its marker for absent (Table 10-1). -/
def secondBytes (x : Option Nat) : List Byte := be32 (x.getD 4294967295)

/-- A shed list entry as read (R130). -/
def ShedEntry.bytes (e : ShedEntry) : List Byte :=
  [byteOf e.circuit, byteOf e.cause.code] ++ be16 e.load ++ secondBytes e.time

/-- Entries, marked entries and READY of a table (R180). -/
def State.tableFigures (s : State) (id : Nat) : Nat × Nat × Bool :=
  match id with
  | 1 => (9, s.tables.nodeMap.marked, true)
  | 2 => (57, s.tables.settings.marked, true)
  | 3 => (65, s.tables.firingMap.marked, s.tables.firingMap.ready)
  | 4 => (33, s.tables.weir.marked, s.tables.weir.ready)
  | 5 => (17, s.tables.pondCurve.marked, s.tables.pondCurve.ready)
  | 6 => (17, s.tables.feedCurve.marked, s.tables.feedCurve.ready)
  | 7 => (3, s.tables.windowMarks.countP id', true)
  | 8 => (48, s.tables.circuitMarks.countP id', true)
  | 9 => (s.shed.list.length, 0, true)
  | _ => (10, 0, true)
where
  /-- The mark itself. -/
  id' (b : Bool) : Bool := b

/-- The DIRECTORY entry of a table (R180). -/
def State.directoryBytes (s : State) (id : Nat) : List Byte :=
  let x := s.tableFigures id
  [byteOf id, byteOf x.1, byteOf x.2.1, boolByte x.2.2]

/-- A window entry as read (Table 10-6). -/
def windowBytes (w : Nat × Nat) : List Byte := be16 w.1 ++ be16 w.2

/-- The bytes of entry `i` of a table (Table 10-6). -/
def State.entryBytes (s : State) (id i : Nat) : List Byte :=
  match id with
  | 1 => [byteOf (s.tables.nodeMap.vals.getD i 0)]
  | 2 => be16 (s.tables.settings.vals.getD i 0)
  | 3 => be16 (s.tables.firingMap.vals.getD i 0)
  | 4 => be16 (s.tables.weir.vals.getD i 0)
  | 5 => be16 (s.tables.pondCurve.vals.getD i 0)
  | 6 => be16 (s.tables.feedCurve.vals.getD i 0)
  | 7 => windowBytes (s.tables.windows.getD i (0, 0))
  | 8 => s.circuitBytes i
  | 9 => ((s.shed.list[i]?).map ShedEntry.bytes).getD []
  | _ => s.directoryBytes (i + 1)

/-- READ ENTRIES, with its checks in order (R177). -/
def readEntries (id first count : Nat) (s : State) : Reply :=
  match s.tableEntries id with
  | none => ⟨s, .badTable, []⟩
  | some n =>
      if count = 0 ∨ n < first + count ∨ 58 < count * readSize id then ⟨s, .badSpan, []⟩
      else ⟨s, .done, (List.range count).flatMap fun k => s.entryBytes id (first + k)⟩

/-! ## The checks of a write (R177, step 4) -/

/-- The list with the new values in place of those from index `first` on. -/
def splice {α : Type} (old : List α) (first : Nat) (new : List α) : List α :=
  old.take first ++ new ++ old.drop (first + new.length)

/-- Each entry of the span stands in order with its two neighbours (R41). -/
def orderHolds (le : Nat → Nat → Bool) (t : List Nat) (first count : Nat) : Bool :=
  (List.range count).all fun k =>
    let i := first + k
    (i == 0 || le (t.getD (i - 1) 0) (t.getD i 0)) &&
      (decide (t.length ≤ i + 1) || le (t.getD i 0) (t.getD (i + 1) 0))

/-- Not falling. -/
def rising (a b : Nat) : Bool := decide (a ≤ b)

/-- Not rising (R153). -/
def falling (a b : Nat) : Bool := decide (b ≤ a)

/-- The outcome of the range and order checks of a table of numbers (R41, R74, R76, R153). -/
def orderedCheck (le : Nat → Nat → Bool) (greatest : Nat) (old : List Nat) (first : Nat)
    (new : List Nat) : ReqOutcome :=
  if new.any (fun v => decide (greatest < v)) then .badValue
  else if orderHolds le (splice old first new) first new.length then .done
  else .order

/-- No two roles hold the same non-zero address (R178). -/
def addressesDistinct (map : List Nat) : Bool := decide ((map.filter fun a => a != 0).Nodup)

/-- The node map as it would stand is allowed (R178). -/
def nodeMapAllowed (own : Nat) (map : List Nat) : Bool :=
  map.all (fun a => decide (a ≤ 62) && a != own) && addressesDistinct map

/-- The paired settings, as lower and higher member (Table 9-7). -/
def settingPairs : List (Nat × Nat) :=
  [(Setting.CORR_STOP, Setting.CORR_START), (Setting.LEVEL_LOW, Setting.LEVEL_HIGH),
    (Setting.EMERGENCY_DROP, Setting.COLLAPSE_DROP), (Setting.DEMAND_LOW, Setting.DEMAND_HIGH)]

/-- The index lies in the span of a request. -/
def inSpan (first count i : Nat) : Bool := decide (first ≤ i) && decide (i < first + count)

/-- The pairs of which the span includes a member hold in the table as it would stand (R179). -/
def pairsHold (t : List Nat) (first count : Nat) : Bool :=
  settingPairs.all fun p =>
    !(inSpan first count p.1 || inSpan first count p.2) || decide (t.getD p.1 0 < t.getD p.2 0)

/-- Each written setting lies in its range (R179). -/
def settingsInRange (first : Nat) (new : List Nat) : Bool :=
  new.zipIdx.all fun x => settingInRange (first + x.2) x.1

/-- The outcome of the checks of a settings write (R179). -/
def settingsCheck (old : List Nat) (first : Nat) (new : List Nat) : ReqOutcome :=
  if settingsInRange first new && pairsHold (splice old first new) first new.length then .done
  else .badValue

/-- The window entries that the value bytes give (Table 10-6). -/
def parseWindows : List Nat → List (Nat × Nat)
  | a :: b :: rest => (a, b) :: parseWindows rest
  | _ => []

/-- Each written window has a start to 1439 and an end to 1440 (R15). -/
def windowsInRange (ws : List (Nat × Nat)) : Bool :=
  ws.all fun w => decide (w.1 ≤ 1439) && decide (w.2 ≤ 1440)

/-- The circuit entries that the value bytes give (Table 10-6). -/
def parseCircuits : List Byte → List CircuitFields
  | p :: l1 :: l0 :: t :: d1 :: d0 :: e1 :: e0 :: n1 :: n0 :: rest =>
      ⟨p.toNat, u16 l1 l0, t.toNat, u16 d1 d0, u16 e1 e0, u16 n1 n0⟩ :: parseCircuits rest
  | _ => []

/-- The fields lie in their ranges (R89). -/
def CircuitFields.inRange (x : CircuitFields) : Bool :=
  decide (x.present ≤ 1) && decide (x.tier ≤ 3) && decide (x.label ≤ 999) &&
    !(x.present == 1 && x.label == 0)

/-- A circuit in service, whose present, label and tier may not change (R89). -/
def Circuit.inService (c : Circuit) : Bool :=
  match c.state with
  | .closed => true
  | .limitOpen => true
  | .shed => true
  | .locked => true
  | .absent => false
  | .dark => false
  | .off => false

/-- The write would change a field of a circuit in service (R89). -/
def CircuitFields.changesUse (x : CircuitFields) (c : Circuit) : Bool :=
  c.inService &&
    ((x.present == 1) != c.present || x.label != c.label || x.tier != c.tier)

/-- The check of circuit entries, in index order: the first failure decides (R89). -/
def circuitsCheck (s : State) : Nat → List CircuitFields → ReqOutcome
  | _, [] => .done
  | i, x :: rest =>
      if x.inRange then
        if x.changesUse (s.circuit i) then .inUse else circuitsCheck s (i + 1) rest
      else .badValue

/-- The outcome of a write's own checks, `bytes` being its count of values (R177, step 4). -/
def valuesCheck (id first : Nat) (bytes : List Byte) (s : State) : ReqOutcome :=
  match id with
  | 1 =>
      if nodeMapAllowed s.loop.ownAddress
          (splice s.tables.nodeMap.vals first (bytes.map fun b => b.toNat)) then .done
      else .badValue
  | 2 => settingsCheck s.tables.settings.vals first (words16 bytes)
  | 3 => orderedCheck rising 4096 s.tables.firingMap.vals first (words16 bytes)
  | 4 => orderedCheck rising 65535 s.tables.weir.vals first (words16 bytes)
  | 5 => orderedCheck rising 1000 s.tables.pondCurve.vals first (words16 bytes)
  | 6 => orderedCheck falling 1000 s.tables.feedCurve.vals first (words16 bytes)
  | 7 => if windowsInRange (parseWindows (words16 bytes)) then .done else .badValue
  | 8 => circuitsCheck s first (parseCircuits bytes)
  | _ => .badSpan

/-! ## Storing a write -/

/-- Values written from an index on, with their marks (R177). -/
def Table.write (first : Nat) (new : List Nat) (t : Table) : Table :=
  ⟨splice t.vals first new, splice t.marks first (new.map fun _ => true)⟩

/-- The host-written fields are stored in an entry (R90). -/
def Circuit.store (x : CircuitFields) (c : Circuit) : Circuit :=
  { c with
    present := x.present == 1
    label := x.label
    tier := x.tier
    dayAllow := x.dayAllow
    eveningAllow := x.eveningAllow
    nightAllow := x.nightAllow }

/-- The fields of consecutive entries are stored. -/
def storeCircuits : Nat → List CircuitFields → State → State
  | _, [], s => s
  | i, x :: rest, s => storeCircuits (i + 1) rest (modifyCircuit i (Circuit.store x) s)

/-- The entries of the span are written and marked (R177). -/
def storeWrite (id first count : Nat) (bytes : List Byte) (s : State) : State :=
  match id with
  | 1 => s.mapTables fun t =>
      { t with nodeMap := t.nodeMap.write first (bytes.map fun b => b.toNat) }
  | 2 => s.mapTables fun t => { t with settings := t.settings.write first (words16 bytes) }
  | 3 => s.mapTables fun t => { t with firingMap := t.firingMap.write first (words16 bytes) }
  | 4 => s.mapTables fun t => { t with weir := t.weir.write first (words16 bytes) }
  | 5 => s.mapTables fun t => { t with pondCurve := t.pondCurve.write first (words16 bytes) }
  | 6 => s.mapTables fun t => { t with feedCurve := t.feedCurve.write first (words16 bytes) }
  | 7 => s.mapTables fun t =>
      { t with
        windows := splice t.windows first (parseWindows (words16 bytes))
        windowMarks := splice t.windowMarks first (List.replicate count true) }
  | 8 =>
      storeCircuits first (parseCircuits bytes)
        (s.mapTables fun t =>
          { t with circuitMarks := splice t.circuitMarks first (List.replicate count true) })
  | _ => s

/-! ## What the blocks do after a taken write -/

/-- The POND or GATE silence at a changed address (R72). -/
def waterRemapped (role : Nat) (s : State) : State :=
  if role = Role.POND then
    causeEnd .pondSilent
      (s.mapWater fun w => { w with
        pondSilence := restartSilence (s.mapped Role.POND)
        pondSilent := false })
  else
    causeEnd .gateSilent
      (s.mapWater fun w => { w with
        gateSilence := restartSilence (s.mapped Role.GATE)
        gateSilent := false })

/-- A feeder slot at a changed address: silence, interval counter, cause, order (R96, R103). -/
def feederRemapped (k : Nat) (s : State) : State :=
  writeFeederSlot k
    (examineFeeders
      (modifyFeeder k (fun _ => ⟨restartSilence (s.mapped (Role.feeder k)), false, none⟩) s))

/-- The saw side at a changed address (R137). -/
def sawRemapped (s : State) : State :=
  writeSawSlot
    (causeEnd .sawSilent
      (s.mapSaw fun w => { w with
        lastNumber := none
        silence := restartSilence (s.mapped Role.SAW)
        silent := false
        clutchReport := .unknown
        carriageReport := .unknown }))

/-- The slot of a role set to 0 is emptied (R174, R178); POND has none. -/
def emptyUnmapped (role : Nat) (s : State) : State :=
  if s.mapped role || role == Role.POND then s else emptySlot (role - 1) s

/-- A role whose address changed (R178). -/
def roleRemapped (role : Nat) (s : State) : State :=
  let s1 := emptyUnmapped role s
  if role = Role.POND ∨ role = Role.GATE then waterRemapped role s1
  else if role = Role.SAW then sawRemapped s1
  else feederRemapped (role - 3) s1

/-- Each role whose address differs from the one it had is remapped, in role order (R178). -/
def rolesRemapped (old : List Nat) (s : State) : State :=
  (List.range 9).foldl
    (fun t r => if old.getD r 0 = t.address r then t else roleRemapped r t) s

/-- The settings whose write moves the gate target (R84). -/
def gateSettingsWritten (first count : Nat) (s : State) : State :=
  if inSpan first count Setting.GATE_START && s.inPlant .runup then
    settleGate (s.setting Setting.GATE_START) s
  else if inSpan first count Setting.GATE_RUN_MIN && s.inPlant .run &&
      decide (s.water.gate < s.setting Setting.GATE_RUN_MIN) then
    settleGate (s.setting Setting.GATE_RUN_MIN) s
  else s

/-- The residual flow is computed again from the head held (R73). -/
def recomputeFlow (s : State) : State :=
  s.mapWater fun w => { w with flow := w.head.map s.weirFlow }

/-- An entry that is no longer present (R90). -/
def Circuit.remove (c : Circuit) : Circuit :=
  { c with state := .absent, overCount := 0, disagree := 0, report := .unknown }

/-- A circuit whose present field changed from `before` (R90). -/
def presentWritten (i : Nat) (before : Bool) (s : State) : State :=
  match before, (s.circuit i).present with
  | true, false => modifyCircuit i Circuit.remove s
  | false, true => placeOn i s
  | true, true => s
  | false, false => s

/-- The written circuits are acted on in index order; `before` holds their earlier entries (R90). -/
def circuitsWritten (before : List Circuit) (first count : Nat) (s : State) : State :=
  (List.range count).foldl
    (fun t k => presentWritten (first + k) (before.getD (first + k) Circuit.blank).present t) s

/-- What the blocks do after a taken write; `old` is the state before it (R177). -/
def afterWrite (id first count : Nat) (old s : State) : State :=
  match id with
  | 1 => rolesRemapped old.tables.nodeMap.vals s
  | 2 => gateSettingsWritten first count s
  | 4 => recomputeFlow s
  | 7 => evaluateWindows s
  | 8 => circuitsWritten old.hamlet.entries first count s
  | _ => s

/-! ## WRITE ENTRIES (R177) -/

/-- A span fault of a write, for a table of `n` entries and `given` value bytes (R177, step 2). -/
def writeSpanFault (id n first count given : Nat) : Bool :=
  count == 0 || decide (n < first + count) || decide (56 < count * writtenSize id) ||
    decide (given < count * writtenSize id) || id == 9 || id == 10

/-- A write that is not taken in this plant state (R177, step 3). -/
def State.writeStateFault (s : State) (id first count : Nat) : Bool :=
  !s.inPlant .stopped &&
    (id == 1 ||
      (id == 2 &&
        (inSpan first count Setting.NOMINAL_HZ || inSpan first count Setting.TEETH)))

/-- The write is taken: stored, journalled, acted on (R177). -/
def takeWrite (id first count : Nat) (bytes : List Byte) (s : State) : Reply :=
  ⟨afterWrite id first count s
    (journalAppend .tableWrite none id (storeWrite id first count bytes s)), .done, []⟩

/-- WRITE ENTRIES, with its checks in order (R177). -/
def writeEntries (id first count : Nat) (values : List Byte) (s : State) : Reply :=
  match s.tableEntries id with
  | none => ⟨s, .badTable, []⟩
  | some n =>
      if writeSpanFault id n first count values.length then ⟨s, .badSpan, []⟩
      else if s.writeStateFault id first count then ⟨s, .wrongState, []⟩
      else
        let bytes := values.take (count * writtenSize id)
        match valuesCheck id first bytes s with
        | .done => takeWrite id first count bytes s
        | fault => ⟨s, fault, []⟩

end Sys2Proof.Machine
end

