-- ==== Sys2Proof/Machine/Status.lean ====
section
/-! DEFINITION. READ STATUS and READ CONDITIONS: the four sections of the plant snapshot (R181,
Table 10-7), and the bytes of the Condition Register (R161, Table 10-4). -/

namespace Sys2Proof.Machine

/-! ## Section 0, plant and governing -/

/-- The seconds of the run-up timer in RUNUP and of the stop timer in STOPPING (Table 10-7). -/
def State.plantSeconds (s : State) : Nat :=
  match s.plant.state with
  | .runup => s.plant.runupTimer.getD 0
  | .stopping => s.plant.stopTimer.getD 0
  | .stopped => 0
  | .run => 0
  | .tripped => 0

/-- The code of the signal state (Table 10-7). -/
def Signal.code : Signal → Nat
  | .lost => 0 | .present => 1

/-- The shaft speed, absent while the last tooth period is (R6). DESIGN CHOICE (assumption 19): it is
computed when READ STATUS asks for it, with TEETH as it stands then. -/
def State.shaftSpeed (s : State) : Option Nat :=
  s.edge.toothPeriod.map fun p => speedOf p (s.setting Setting.TEETH)

/-- How many step banks are ON (Table 10-7). -/
def Firing.banksOn (b : Firing) : Nat :=
  (if b.step1 then 1 else 0) + (if b.step2 then 1 else 0) + (if b.step3 then 1 else 0)

/-- The day, 0 while the clock is UNSET (Table 10-7). -/
def State.dayBytes (s : State) : List Byte :=
  be16 ((s.time.clock.map fun c => c.day.toNat).getD 0)

/-- The set of open windows (Table 10-7). -/
def State.windowSet (s : State) : Nat :=
  setBits [s.time.eveningOpen, s.time.nightOpen, s.time.sawOpen]

/-- Plant, signal and speed: the first fields of section 0. -/
def State.plantFields (s : State) : List Byte :=
  [byteOf s.plant.state.code, byteOf s.plant.cause.code] ++ be16 s.plant.accept ++
    be16 s.plantSeconds ++ [byteOf s.edge.signal.code] ++ be16 (s.edge.freq.getD 0) ++
    be16 (s.shaftSpeed.getD 65535)

/-- Demand, gains and banks: the next fields of section 0. -/
def State.governorFields (s : State) : List Byte :=
  be16 s.gov.d ++ be16 s.surplus ++
    [byteOf s.gov.active.code, byteOrFF (s.gov.pendingSet.map GainSet.code),
      boolByte s.gov.engaged, byteOf s.firing.banksOn, byteOf s.firing.scheduled]

/-- Mill time: the last fields of section 0. -/
def State.timeFields (s : State) : List Byte :=
  sbe16 s.time.te ++ sbe16 s.offset ++ be16 s.fSet.toNat ++ s.dayBytes ++
    secondBytes s.secondOfDay ++ [byteOf s.windowSet]

/-- Section 0 (Table 10-7). -/
def State.section0 (s : State) : List Byte := s.plantFields ++ s.governorFields ++ s.timeFields

/-! ## Section 1, water -/

/-- Which readings are known (Table 10-7). -/
def State.knownSet (s : State) : Nat :=
  setBits [s.water.level.isSome, s.water.gatePos.isSome, s.demandAverage.isSome]

/-- Section 1 (Table 10-7); a reading that is not known is sent as 0. -/
def State.section1 (s : State) : List Byte :=
  [byteOf s.knownSet] ++ be16 (s.water.level.getD 0) ++ be16 (s.water.head.getD 0) ++
    be16 (s.water.flow.getD 0) ++ be16 s.water.gate ++ be16 (s.water.gatePos.getD 0) ++
    [byteOf ((s.water.gateStatus.map GateStatus.code).getD 0),
      byteOf (setBits [s.water.pondSilent, s.water.gateSilent])] ++
    be16 (s.demandAverage.getD 0) ++ be16 s.water.shortage

/-! ## Section 2, hamlet -/

/-- A timer's milliseconds from its counts, with the marker of a stopped one (Table 10-7). -/
def msBytes (counts : Option Nat) : List Byte :=
  be32 ((counts.map fun c => c / 2000).getD 4294967295)

/-- Section 2 (Table 10-7). -/
def State.section2 (s : State) : List Byte :=
  [byteOf (setBits (s.hamlet.feeders.map fun f => f.silent)), byteOf s.shed.list.length] ++
    msBytes s.shed.shedTimer ++ msBytes (s.shed.restoreTimer.map fun r => r.elapsed) ++
    [byteOrFF (s.shed.restoreTimer.map fun r => r.circuit), byteOf s.shed.lockout]

/-! ## Section 3, saw and station -/

/-- Which of the four timers of the cut run (Table 10-7). -/
def Saw.timersSet (w : Saw) : Nat :=
  setBits [w.reserve.isSome, w.settle.isSome, w.confirm.isSome, w.rundown.isSome]

/-- The Saw Coordinator's fields of section 3. -/
def Saw.fields (w : Saw) : List Byte :=
  [byteOf w.state.code] ++ be16 (w.lastNumber.getD 65535) ++
    [byteOf w.order.echo, byteOf w.order.verdict.code] ++ be16 (w.grant.getD 65535) ++
    (Order.saw w.order).payload ++
    [byteOf w.clutchReport.code, byteOf w.carriageReport.code, boolByte w.silent,
      byteOf w.timersSet]

/-- The Loop Port's fields of section 3, by Tables 9-8 and 10-7. Of the slots they report the pending marks.
DESIGN CHOICE (assumption 23): R174 says that the contents are reported too, and the tables give a FEEDER
slot's contents no field, so the tables' layout is kept. -/
def LoopPort.fields (l : LoopPort) : List Byte :=
  [byteOf l.ownAddress, boolByte l.broken, byteOf l.forward.length, byteOf l.answers.length,
    byteOf (setBits (l.slots.map fun x => x.pending))]

/-- Section 3 (Table 10-7). -/
def State.section3 (s : State) : List Byte :=
  s.saw.fields ++ [byteOf s.journal.entries.length] ++ be32 s.journal.next ++ s.loop.fields

/-! ## The two reading requests -/

/-- READ STATUS (R181). -/
def readStatus (section_ : Nat) (s : State) : Reply :=
  match section_ with
  | 0 => ⟨s, .done, s.section0⟩
  | 1 => ⟨s, .done, s.section1⟩
  | 2 => ⟨s, .done, s.section2⟩
  | 3 => ⟨s, .done, s.section3⟩
  | _ => ⟨s, .badValue, []⟩

/-- The set of all flags (R161). -/
def flagSet (cs : List CondCell) : Nat := setBits (cs.map fun c => c.flag)

/-- The set of all notice enables (R161). -/
def noticeSet (cs : List CondCell) : Nat := setBits (cs.map fun c => c.notice)

/-- The set of all cause marks (R161). -/
def causeSet (cs : List CondCell) : Nat := setBits (cs.map fun c => c.cause)

/-- The subject of a set flag; FFh for none and for a clear flag (Table 10-4). -/
def CondCell.subjectByte (c : CondCell) : Byte := if c.flag then byteOrFF c.subject else byteOf 255

/-- READ CONDITIONS (R161). -/
def readConditions (s : State) : Reply :=
  ⟨s, .done, be32 (flagSet s.conds) ++ be32 (noticeSet s.conds) ++ be32 (causeSet s.conds) ++
    s.conds.map CondCell.subjectByte⟩

end Sys2Proof.Machine
end

