-- ==== Sys2Proof/Machine/Requests.lean ====
section
/-! DEFINITION. What ACKNOWLEDGE, SET NOTICES, SET PLANT, JOURNAL FIND and JOURNAL READ do (chapters 3
and 8). -/

namespace Sys2Proof.Machine

/-! ## ACKNOWLEDGE and SET NOTICES (R160, R161) -/

/-- The set names a number above 24 (R160, R161). -/
def setTooHigh (set : Word32) : Bool := decide (33554432 ≤ set.toNat)

/-- The condition of this number would stay active at an acknowledgement (R160). -/
def CondCell.stillActive (n : Nat) (c : CondCell) : Bool := c.flag && persistentNum n && c.cause

/-- A named condition at an acknowledgement (R160). -/
def CondCell.acknowledged (n : Nat) (c : CondCell) : CondCell :=
  if c.flag && !c.stillActive n then { c with flag := false, subject := none } else c

/-- Every condition that the set names is acknowledged (R160). -/
def acknowledgeAll (set : Word32) (cs : List CondCell) : List CondCell :=
  cs.mapIdx fun n c => if set.getLsbD n then c.acknowledged n else c

/-- The set of the named conditions that are still active (R160). -/
def activeSet (set : Word32) (cs : List CondCell) : Nat :=
  setBits (cs.mapIdx fun n c => set.getLsbD n && c.stillActive n)

/-- ACKNOWLEDGE (R160). -/
def acknowledge (set : Word32) (s : State) : Reply :=
  if setTooHigh set then ⟨s, .badValue, []⟩
  else
    let s1 := s.mapConds (acknowledgeAll set)
    ⟨s1, .done, be32 (activeSet set s.conds) ++ be32 (flagSet s1.conds)⟩

/-- The notice enables become the set (R161). -/
def enableNotices (set : Word32) (cs : List CondCell) : List CondCell :=
  cs.mapIdx fun n c => { c with notice := set.getLsbD n }

/-- SET NOTICES (R161). -/
def setNotices (set : Word32) (s : State) : Reply :=
  if setTooHigh set then ⟨s, .badValue, []⟩ else ⟨s.mapConds (enableNotices set), .done, []⟩

/-! ## SET PLANT (R51 to R54) -/

/-- An answer to SET PLANT carries the plant state and cause after the request (R51). -/
def plantReply (outcome : ReqOutcome) (s : State) : Reply :=
  ⟨s, outcome, [byteOf s.plant.state.code, byteOf s.plant.cause.code]⟩

/-- The mappings and tables that RUNUP requires (R52). -/
def State.runupReady (s : State) : Bool :=
  s.mapped Role.POND && s.mapped Role.GATE && s.tables.firingMap.ready && s.tables.weir.ready &&
    s.tables.pondCurve.ready

/-- SET PLANT RUNUP (R52). -/
def setPlantRunup (s : State) : Reply :=
  if !s.inPlant .stopped then plantReply .wrongState s
  else if s.tripSet then plantReply .wrongState s
  else if !s.runupReady then plantReply .notReady s
  else plantReply .done (enterPlant .runup .host s)

/-- SET PLANT STOPPED (R53, Table 3-5). -/
def setPlantStopped (s : State) : Reply :=
  match s.plant.state with
  | .runup => plantReply .done (enterStopping .host s)
  | .run => plantReply .done (enterStopping .host s)
  | .stopping => plantReply .done s
  | .stopped => plantReply .done s
  | .tripped =>
      if !s.tripSet && s.edge.signal == .lost then plantReply .done (enterPlant .stopped .host s)
      else plantReply .wrongState s

/-- SET PLANT TRIPPED (R54). -/
def setPlantTripped (s : State) : Reply :=
  if s.inPlant .tripped then plantReply .done (raise .hostTrip none s)
  else plantReply .done (trip .host s)

/-- SET PLANT for a target state code (R51). -/
def setPlant (target : Nat) (s : State) : Reply :=
  match target with
  | 0 => setPlantStopped s
  | 1 => setPlantRunup s
  | 2 => plantReply .wrongState s
  | 3 => plantReply .wrongState s
  | 4 => setPlantTripped s
  | _ => plantReply .badValue s

/-! ## The journal (R164, R165) -/

/-- The day of an entry, 0 when its time is absent (Table 10-5). -/
def JournalEntry.dayOf (e : JournalEntry) : Nat := (e.time.map fun c => c.day.toNat).getD 0

/-- A journal entry as answered (Table 10-5). -/
def JournalEntry.bytes (e : JournalEntry) : List Byte :=
  be32 e.seq ++ be16 e.dayOf ++ secondBytes (e.time.map fun c => c.sec) ++
    [byteOf e.kind.code, byteOrFF e.subject] ++ sbe32 e.value

/-- The kind filter admits the entry; 255 is any (R164, Table 10-1). -/
def kindMatches (kind : Nat) (e : JournalEntry) : Bool := kind == 255 || e.kind.code == kind

/-- The subject filter admits the entry; 255 is any (R164, Table 10-1). -/
def subjectMatches (subject : Nat) (e : JournalEntry) : Bool :=
  subject == 255 || e.subject == some subject

/-- The entry matches both filters (R164). -/
def journalMatches (kind subject : Nat) (e : JournalEntry) : Bool :=
  kindMatches kind e && subjectMatches subject e

/-- The start lies before what is held (R164). -/
def Journal.startLost (start : Nat) (j : Journal) : Bool :=
  match j.entries with
  | e :: _ => decide (start < e.seq)
  | [] => decide (start < j.next)

/-- The entries from which a search takes those it examines (R164). -/
def Journal.from (start : Nat) (j : Journal) : List JournalEntry :=
  if j.startLost start then j.entries else j.entries.filter fun e => decide (start ≤ e.seq)

/-- The sequence one above the last entry of the list. -/
def seqAfter (es : List JournalEntry) (other : Nat) : Nat :=
  match es.getLast? with
  | some e => e.seq + 1
  | none => other

/-- The outcome of a search, its sequence number, and the entry found (R164). -/
def Journal.search (start kind subject : Nat) (j : Journal) :
    ReqOutcome × Nat × Option JournalEntry :=
  let pool := j.from start
  let seen := pool.take 32
  match seen.find? (journalMatches kind subject) with
  | some e => (.found, e.seq + 1, some e)
  | none => if pool.length ≤ 32 then (.none, j.next, none) else (.partial_, seqAfter seen j.next, none)

/-- A filter names something outside its range; FFh is any (R164). -/
def badFilter (kind subject : Nat) : Bool :=
  (decide (14 < kind) && kind != 255) || (decide (47 < subject) && subject != 255)

/-- The entry's bytes, if there is one. -/
def entryBytes? (e : Option JournalEntry) : List Byte := (e.map JournalEntry.bytes).getD []

/-- JOURNAL FIND (R164). -/
def journalFind (start kind subject : Nat) (s : State) : Reply :=
  if badFilter kind subject then ⟨s, .badValue, []⟩
  else if s.journal.next < start then ⟨s, .outOfRange, []⟩
  else
    let r := s.journal.search start kind subject
    ⟨s, r.1, [boolByte (s.journal.startLost start)] ++ be32 r.2.1 ++ entryBytes? r.2.2⟩

/-- JOURNAL READ (R165). -/
def journalRead (seq : Nat) (s : State) : Reply :=
  match s.journal.entries.find? (fun e => e.seq == seq) with
  | some e => ⟨s, .found, e.bytes⟩
  | none => if s.journal.next ≤ seq then ⟨s, .outOfRange, []⟩ else ⟨s, .none, []⟩

end Sys2Proof.Machine
end

