-- ==== Sys2Proof/Machine/Reset.lean ====
section
/-! DEFINITION. Cold reset (R66 and the reset rule of each chapter) and the warm reset that RESTART makes
(R182). -/

namespace Sys2Proof.Machine

/-! ## The warm reset of each block -/

/-- The Loop Port at step 2 of a warm reset (R182): the queues and slots are emptied and the arbiter's
records are as after cold reset; a frame being sent goes on, held nowhere. -/
def LoopPort.warm (l : LoopPort) : LoopPort :=
  { l with
    forward := []
    answers := []
    slots := List.replicate 8 ⟨none, false⟩
    lastSource := .answers
    lastSlot := 7
    sending := l.sending.map fun x => { x with from_ := none } }

/-- A condition at warm reset: only its notice enable is kept (R162). -/
def CondCell.warm (c : CondCell) : CondCell := { CondCell.reset with notice := c.notice }

/-- The Plant State Controller at warm reset (R67). -/
def Plant.warm : Plant := ⟨.stopped, .restart, 0, none, none, none, none, none⟩

/-- The Governor at warm reset (R31, Table 2-2). -/
def Governor.warm (g : Governor) : Governor := { Governor.reset with ePrev := g.ePrev }

/-- The Water Controller at warm reset (R86, Table 4-7). -/
def Water.warm (w : Water) : Water :=
  { w with gate := 0, demandSum := 0, demandCount := 0, evalTimer := none, shortage := 0 }

/-- A circuit at warm reset (R113, Table 5-6). -/
def Circuit.warm (c : Circuit) : Circuit :=
  if c.state = .dark then { c with overCount := 0, disagree := 0 } else c

/-- The Saw Coordinator at warm reset (R155, Table 7-7). -/
def Saw.warm (w : Saw) : Saw := { w.rest with lastNumber := none, order := .reset }

/-- Every block takes its warm reset values, and the Condition Register is cleared (R182, step 3). -/
def warmBlocks (s : State) : State :=
  { s with
    time := { s.time with direction := .zero }
    gov := s.gov.warm
    firing := .reset
    plant := .warm
    water := s.water.warm
    hamlet := { s.hamlet with entries := s.hamlet.entries.map Circuit.warm }
    shed := .reset
    saw := s.saw.warm
    conds := s.conds.map CondCell.warm }

/-! ## The raises of causes that still hold -/

/-- The condition is raised again if its cause holds. -/
def raiseIf (b : Bool) (c : Condition) (s : State) : State := if b then raise c none s else s

/-- The cause of SHAFT_SENSOR holds at a warm reset (R9). -/
def State.shaftHolds (s : State) : Bool :=
  s.edge.shaftCause || (s.edge.toothSilent && s.edge.signal == .present)

/-- SHAFT_SENSOR is raised again if its cause holds (R9). -/
def reraiseShaft (s : State) : State := if s.shaftHolds then raiseShaft s else s

/-- Each block whose persistent cause still holds raises its condition again, in the order in which R162
names the blocks (assumption 5). -/
def reraise (s : State) : State :=
  raiseIf s.loop.broken .loopBroken
    (raiseIf s.saw.silent .sawSilent
      (raiseIf s.anyFeederSilent .feederSilent
        (raiseIf s.water.gateSilent .gateSilent
          (raiseIf s.water.pondSilent .pondSilent
            (raiseIf (atLimit s.time.te) .timeErrorLimit
              (reraiseShaft s))))))

/-- The RESTART entry: the plant state and cause before the reset (R67). -/
def journalRestart (s : State) : State :=
  journalAppend .restart none (s.plant.state.code * 256 + s.plant.cause.code) s

/-- The warm reset, in the order of R182. -/
def warmReset (s : State) : State :=
  reraise (warmBlocks ((journalRestart s).mapLoop LoopPort.warm))

/-- RESTART (R182). -/
def restart (s : State) : Reply :=
  match s.plant.state with
  | .stopped => ⟨warmReset s, .done, []⟩
  | .tripped => ⟨warmReset s, .done, []⟩
  | .runup => ⟨s, .wrongState, []⟩
  | .run => ⟨s, .wrongState, []⟩
  | .stopping => ⟨s, .wrongState, []⟩

/-! ## Cold reset -/

/-- Cold reset: every item of the part takes its cold reset value and the straps are read (R66, R169).
The levels at the input pins, the model's own draws and the queue of commands are kept: they are not
the part's (assumption 17). -/
def coldReset (straps : BitVec 6) (s : State) : State :=
  { State.cold straps with pins := s.pins, draws := s.draws, pending := s.pending }

/-- COLD_RESET (R66). -/
def execColdReset (straps : BitVec 6) (s : State) : Host.Outcome State Fault Refusal :=
  .next (coldReset straps s)

end Sys2Proof.Machine
end

