-- ==== Sys2Proof/Machine/Management.lean ====
section
/-! DEFINITION. The Management Unit: the admission of a request, its handling, its answer, and the
commands that are requests (sections 9.3, 9.5 and 10.3). -/

namespace Sys2Proof.Machine

/-! ## Codes (Table 9-4) -/

abbrev Code.READ_ENTRIES : Nat := 1
abbrev Code.WRITE_ENTRIES : Nat := 2
abbrev Code.READ_STATUS : Nat := 3
abbrev Code.READ_CONDITIONS : Nat := 4
abbrev Code.ACKNOWLEDGE : Nat := 5
abbrev Code.SET_NOTICES : Nat := 6
abbrev Code.SET_PLANT : Nat := 7
abbrev Code.SET_CLOCK : Nat := 8
abbrev Code.SET_TIME_ERROR : Nat := 9
abbrev Code.CIRCUIT_ADMIN : Nat := 10
abbrev Code.JOURNAL_FIND : Nat := 11
abbrev Code.JOURNAL_READ : Nat := 12
abbrev Code.RESTART : Nat := 13

/-! ## Admission and answer (R173, R176) -/

/-- The request being handled holds a place of the answer queue, or no longer does (R173). -/
def setHeld (b : Bool) (s : State) : State := s.mapLoop fun l => { l with held := b }

/-- The ANSWER frame of a request (section 10.3). -/
def answerFrame (own src : Nat) (tag : Word16) (code : Nat) (r : Reply) : List Byte :=
  buildFrame src own Kind.ANSWER
    (be16 tag.toNat ++ [byteOf code, byteOf r.outcome.code] ++ r.data)

/-- The answer goes to the tail of the answer queue, in the place the request held (R176). -/
def placeAnswer (src : Nat) (tag : Word16) (code : Nat) (r : Reply) : State :=
  r.state.mapLoop fun l => { l with
    answers := l.answers ++ [answerFrame l.ownAddress src tag code r]
    held := false }

/-- A request is admitted and handled by `f` while it holds its place, or finds the answer queue full
and is discarded (R173). -/
def admitRequest (f : State → State) (s : State) : State :=
  if s.answerRoom then f (setHeld true s) else raise .loopOverrun none s

/-- A request of a known code is admitted, handled by its owner, and answered (R176). -/
def serve (src : Byte) (tag : Word16) (code : Nat) (owner : State → Reply) (s : State) : State :=
  admitRequest (fun t => placeAnswer src.toNat tag code (owner t)) s

/-! ## The owners of the codes (Tables 9-4 and 10-3) -/

/-- A two-byte parameter. -/
def param16 (hi lo : Byte) : Word16 := hi ++ lo

/-- A four-byte parameter. -/
def param32 (a b c d : Byte) : Word32 := a ++ b ++ c ++ d

/-- The parameters are shorter than the code requires (R176). -/
def shortParameters (s : State) : Reply := ⟨s, .badValue, []⟩

/-- READ ENTRIES from its parameters (Table 10-3). -/
def ownerReadEntries (params : List Byte) (s : State) : Reply :=
  match params with
  | id :: first :: count :: _ => readEntries id.toNat first.toNat count.toNat s
  | _ => shortParameters s

/-- WRITE ENTRIES from its parameters: a header that is short is BAD_VALUE, short values are its span
fault (R176, assumption 15). -/
def ownerWriteEntries (params : List Byte) (s : State) : Reply :=
  match params with
  | id :: first :: count :: values => writeEntries id.toNat first.toNat count.toNat values s
  | _ => shortParameters s

/-- READ STATUS from its parameters. -/
def ownerReadStatus (params : List Byte) (s : State) : Reply :=
  match params with
  | section_ :: _ => readStatus section_.toNat s
  | _ => shortParameters s

/-- ACKNOWLEDGE from its parameters. -/
def ownerAcknowledge (params : List Byte) (s : State) : Reply :=
  match params with
  | a :: b :: c :: d :: _ => acknowledge (param32 a b c d) s
  | _ => shortParameters s

/-- SET NOTICES from its parameters. -/
def ownerSetNotices (params : List Byte) (s : State) : Reply :=
  match params with
  | a :: b :: c :: d :: _ => setNotices (param32 a b c d) s
  | _ => shortParameters s

/-- SET PLANT from its parameters; its answer carries state and cause whatever its outcome (R186). -/
def ownerSetPlant (params : List Byte) (s : State) : Reply :=
  match params with
  | target :: _ => setPlant target.toNat s
  | _ => plantReply .badValue s

/-- SET CLOCK from its parameters. -/
def ownerSetClock (params : List Byte) (s : State) : Reply :=
  match params with
  | d1 :: d0 :: a :: b :: c :: d :: _ => setClock (param16 d1 d0) (param32 a b c d).toNat s
  | _ => shortParameters s

/-- SET TIME ERROR from its parameters. -/
def ownerSetTimeError (params : List Byte) (s : State) : Reply :=
  match params with
  | hi :: lo :: _ => setTimeError (param16 hi lo).toInt s
  | _ => shortParameters s

/-- CIRCUIT ADMIN from its parameters. -/
def ownerCircuitAdmin (params : List Byte) (s : State) : Reply :=
  match params with
  | circuit :: action :: _ => circuitAdmin circuit.toNat action.toNat s
  | _ => shortParameters s

/-- JOURNAL FIND from its parameters. -/
def ownerJournalFind (params : List Byte) (s : State) : Reply :=
  match params with
  | a :: b :: c :: d :: kind :: subject :: _ =>
      journalFind (param32 a b c d).toNat kind.toNat subject.toNat s
  | _ => shortParameters s

/-- JOURNAL READ from its parameters. -/
def ownerJournalRead (params : List Byte) (s : State) : Reply :=
  match params with
  | a :: b :: c :: d :: _ => journalRead (param32 a b c d).toNat s
  | _ => shortParameters s

/-- The owner of a request code takes its parameters (R176, Table 9-4). -/
def owner (code : Nat) (params : List Byte) (s : State) : Reply :=
  match code with
  | 1 => ownerReadEntries params s
  | 2 => ownerWriteEntries params s
  | 3 => ownerReadStatus params s
  | 4 => readConditions s
  | 5 => ownerAcknowledge params s
  | 6 => ownerSetNotices params s
  | 7 => ownerSetPlant params s
  | 8 => ownerSetClock params s
  | 9 => ownerSetTimeError params s
  | 10 => ownerCircuitAdmin params s
  | 11 => ownerJournalFind params s
  | 12 => ownerJournalRead params s
  | 13 => restart s
  | _ => ⟨s, .unknownRequest, []⟩

/-- An admitted request payload: answered by its code's owner, or discarded with its place freed when it
is too short for its tag (R176). -/
def handlePayload (src : Nat) (payload : List Byte) (s : State) : State :=
  match payload with
  | code :: t1 :: t0 :: params =>
      placeAnswer src (param16 t1 t0) code.toNat (owner code.toNat params s)
  | _ => setHeld false s

/-- A REQUEST frame addressed to the part (R173, R176). -/
def takeRequestFrame (src : Nat) (payload : List Byte) (s : State) : State :=
  admitRequest (handlePayload src payload) s

/-! ## Commands -/

/-- READ_ENTRIES (R177). -/
def execReadEntries (src : Byte) (tag : Word16) (table first count : Byte) (s : State) :
    Host.Outcome State Fault Refusal :=
  .next (serve src tag Code.READ_ENTRIES (readEntries table.toNat first.toNat count.toNat) s)

/-- WRITE_ENTRIES (R177). -/
def execWriteEntries (src : Byte) (tag : Word16) (table first count : Byte) (values : List Byte)
    (s : State) : Host.Outcome State Fault Refusal :=
  .next (serve src tag Code.WRITE_ENTRIES
    (writeEntries table.toNat first.toNat count.toNat values) s)

/-- READ_STATUS (R181). -/
def execReadStatus (src : Byte) (tag : Word16) (section_ : Byte) (s : State) :
    Host.Outcome State Fault Refusal :=
  .next (serve src tag Code.READ_STATUS (readStatus section_.toNat) s)

/-- READ_CONDITIONS (R161). -/
def execReadConditions (src : Byte) (tag : Word16) (s : State) : Host.Outcome State Fault Refusal :=
  .next (serve src tag Code.READ_CONDITIONS readConditions s)

/-- ACKNOWLEDGE (R160). -/
def execAcknowledge (src : Byte) (tag : Word16) (set : Word32) (s : State) :
    Host.Outcome State Fault Refusal :=
  .next (serve src tag Code.ACKNOWLEDGE (acknowledge set) s)

/-- SET_NOTICES (R161). -/
def execSetNotices (src : Byte) (tag : Word16) (set : Word32) (s : State) :
    Host.Outcome State Fault Refusal :=
  .next (serve src tag Code.SET_NOTICES (setNotices set) s)

/-- SET_PLANT_RUNUP (R52). -/
def execSetPlantRunup (src : Byte) (tag : Word16) (s : State) : Host.Outcome State Fault Refusal :=
  .next (serve src tag Code.SET_PLANT setPlantRunup s)

/-- SET_PLANT_STOPPED (R53). -/
def execSetPlantStopped (src : Byte) (tag : Word16) (s : State) : Host.Outcome State Fault Refusal :=
  .next (serve src tag Code.SET_PLANT setPlantStopped s)

/-- SET_PLANT_TRIPPED (R54). -/
def execSetPlantTripped (src : Byte) (tag : Word16) (s : State) : Host.Outcome State Fault Refusal :=
  .next (serve src tag Code.SET_PLANT setPlantTripped s)

/-- SET_CLOCK (R12). -/
def execSetClock (src : Byte) (tag day : Word16) (second : Word32) (s : State) :
    Host.Outcome State Fault Refusal :=
  .next (serve src tag Code.SET_CLOCK (setClock day second.toNat) s)

/-- SET_TIME_ERROR (R18). -/
def execSetTimeError (src : Byte) (tag te : Word16) (s : State) :
    Host.Outcome State Fault Refusal :=
  .next (serve src tag Code.SET_TIME_ERROR (setTimeError te.toInt) s)

/-- CIRCUIT_ADMIN_OFF (R106). -/
def execCircuitAdminOff (src : Byte) (tag : Word16) (circuit : Byte) (s : State) :
    Host.Outcome State Fault Refusal :=
  .next (serve src tag Code.CIRCUIT_ADMIN (circuitAdmin circuit.toNat 0) s)

/-- CIRCUIT_ADMIN_ON (R107). -/
def execCircuitAdminOn (src : Byte) (tag : Word16) (circuit : Byte) (s : State) :
    Host.Outcome State Fault Refusal :=
  .next (serve src tag Code.CIRCUIT_ADMIN (circuitAdmin circuit.toNat 1) s)

/-- RELEASE_LOCKOUT (R108). -/
def execReleaseLockout (src : Byte) (tag : Word16) (circuit : Byte) (s : State) :
    Host.Outcome State Fault Refusal :=
  .next (serve src tag Code.CIRCUIT_ADMIN (circuitAdmin circuit.toNat 2) s)

/-- CLEAR_ENERGY (R109). -/
def execClearEnergy (src : Byte) (tag : Word16) (circuit : Byte) (s : State) :
    Host.Outcome State Fault Refusal :=
  .next (serve src tag Code.CIRCUIT_ADMIN (circuitAdmin circuit.toNat 3) s)

/-- JOURNAL_FIND (R164). -/
def execJournalFind (src : Byte) (tag : Word16) (start : Word32) (kind subject : Byte) (s : State) :
    Host.Outcome State Fault Refusal :=
  .next (serve src tag Code.JOURNAL_FIND
    (journalFind start.toNat kind.toNat subject.toNat) s)

/-- JOURNAL_READ (R165). -/
def execJournalRead (src : Byte) (tag : Word16) (seq : Word32) (s : State) :
    Host.Outcome State Fault Refusal :=
  .next (serve src tag Code.JOURNAL_READ (journalRead seq.toNat) s)

/-- RESTART (R182). -/
def execRestart (src : Byte) (tag : Word16) (s : State) : Host.Outcome State Fault Refusal :=
  .next (serve src tag Code.RESTART restart s)

/-- UNKNOWN_REQUEST (R176): a request payload, with its code and tag, as it arrives. -/
def execUnknownRequest (src : Byte) (payload : List Byte) (s : State) :
    Host.Outcome State Fault Refusal :=
  .next (takeRequestFrame src.toNat payload s)

end Sys2Proof.Machine
end

