-- ==== Sys2Proof/Machine/Loop.lean ====
section
/-! DEFINITION. The Loop Port: arrivals at loop-in, dispatch and forwarding, loop silence, and the output
arbiter (sections 9.1 to 9.4). -/

namespace Sys2Proof.Machine

/-! ## Arrivals (R168, R172) -/

/-- The loop silence timer restarts and the loop broken mark clears (R172). -/
def restartLoopSilence (r : Receive) (s : State) : State :=
  s.mapLoop fun l => { l with
    receive := r
    silence := some (loopSilenceCounts (s.setting Setting.LOOP_SILENCE))
    broken := false }

/-- An arrival at loop-in: of a frame, a failed frame or a fragment (R168, R172). -/
def arrival (r : Receive) (s : State) : State :=
  let s1 := restartLoopSilence r s
  if s.loop.broken then causeEnd .loopBroken s1 else s1

/-- A failed frame or a fragment is discarded with LOOP_CHECK (R168). -/
def failedArrival (r : Receive) (s : State) : State := raise .loopCheck none (arrival r s)

/-- The frame goes to the tail of the forward buffer, or is discarded where 4 are held (R170). -/
def forwardFrame (f : List Byte) (s : State) : State :=
  if s.loop.forward.length < 4 then s.mapLoop fun l => { l with forward := l.forward ++ [f] }
  else raise .loopOverrun none s

/-- The role that the node map gives a source (R171). -/
def State.roleOf (s : State) (src : Nat) : Option Nat :=
  (List.range 9).find? fun r => s.mapped r && s.address r == src

/-- A sample payload goes to the block of its role (R171). -/
def dispatchRole (role : Nat) (payload : List Byte) (s : State) : State :=
  match role with
  | 0 => pondSample payload s
  | 1 => gateSample payload s
  | 2 => sawSample payload s
  | k + 3 => feederSample k payload s

/-- A SAMPLE frame is dispatched by the node map (R171). -/
def dispatch (f : List Byte) (s : State) : State :=
  match s.roleOf (frameSrc f) with
  | some role => dispatchRole role (framePayload f) s
  | none => s

/-- A frame for the part (Table 9-2, cases 2 and 3). -/
def consume (f : List Byte) (s : State) : State :=
  if frameKind f = Kind.REQUEST then takeRequestFrame (frameSrc f) (framePayload f) s else s

/-- A frame that passed its check, by the first case of Table 9-2 that applies (R170). -/
def handleFrame (f : List Byte) (s : State) : State :=
  if frameSrc f = s.loop.ownAddress then s
  else if frameDst f = s.loop.ownAddress then consume f s
  else if frameDst f = 63 ∧ frameKind f = Kind.SAMPLE then forwardFrame f (dispatch f s)
  else forwardFrame f s

/-- A frame arrives whole at loop-in (R168, R170). DESIGN CHOICE (assumption 26): the arrival restarts the
loop silence timer before the frame is handled, with LOOP_SILENCE as it stands then (R172), so a request
frame that writes LOOP_SILENCE has its new value read at the next start. -/
def frameArrives (f : List Byte) (stopBitLow : Bool) (s : State) : State :=
  if frameOk f && !stopBitLow then handleFrame f (arrival .afterFrame s)
  else failedArrival .afterFrame s

/-- The running loop silence timer expires (R172). -/
def loopSilenceExpires (s : State) : State :=
  if s.loop.silence.isSome then
    raise .loopBroken none (s.mapLoop fun l => { l with silence := none, broken := true })
  else s

/-! ## The output arbiter (R174, R175) -/

/-- The source after this one in the arbiter's cycle (R175). -/
def Source.next : Source → Source
  | .forward => .slots | .slots => .answers | .answers => .forward

/-- A slot is pending and its role is mapped (R174). Slot `i` is that of role `i + 1`. -/
def State.slotReady (s : State) (i : Nat) : Bool :=
  (s.loop.slots.getD i ⟨none, false⟩).pending && s.mapped (i + 1)

/-- The slots in their order, from the one after the slot served last (R175). -/
def slotOrder (last : Nat) : List Nat := (List.range 8).map fun k => (last + 1 + k) % 8

/-- The slot that the arbiter would serve (R175). -/
def State.nextSlot (s : State) : Option Nat := (slotOrder s.loop.lastSlot).find? s.slotReady

/-- The source waits for the line (R175). -/
def State.waiting (s : State) : Source → Bool
  | .forward => !s.loop.forward.isEmpty
  | .slots => s.nextSlot.isSome
  | .answers => !s.loop.answers.isEmpty

/-- The next waiting source after the one served last (R175). -/
def State.nextSource (s : State) : Option Source :=
  let a := s.loop.lastSource.next
  [a, a.next, a.next.next].find? s.waiting

/-- The timebase counts that a frame takes on the line (R167). -/
def frameCounts (f : List Byte) : Nat := 80 * f.length

/-- The frame starts on loop-out (R175). -/
def startSending (f : List Byte) (src : Source) (s : State) : State :=
  s.mapLoop fun l => { l with
    sending := some ⟨f, some src, frameCounts f⟩
    lastSource := src
    gap := 0 }

/-- The ORDER frame of a slot (R174, R185). -/
def State.orderFrame (s : State) (i : Nat) (o : Order) : List Byte :=
  buildFrame (s.address (i + 1)) s.loop.ownAddress Kind.ORDER o.payload

/-- The slot's pending mark is cleared and the slot is recorded as served last (R174, R175). -/
def serveSlot (i : Nat) (s : State) : State :=
  s.mapLoop fun l => { l with
    slots := l.slots.modify i fun x => { x with pending := false }
    lastSlot := i }

/-- A slot's order starts on loop-out (R174). -/
def sendSlot (i : Nat) (s : State) : State :=
  match (s.loop.slots.getD i ⟨none, false⟩).contents with
  | some o => startSending (s.orderFrame i o) .slots (serveSlot i s)
  | none => s

/-- The source's turn: its oldest frame, or its next slot (R175). -/
def serveSource (src : Source) (s : State) : State :=
  match src with
  | .forward =>
      match s.loop.forward with
      | f :: _ => startSending f .forward s
      | [] => s
  | .slots =>
      match s.nextSlot with
      | some i => sendSlot i s
      | none => s
  | .answers =>
      match s.loop.answers with
      | f :: _ => startSending f .answers s
      | [] => s

/-- The arbiter starts the next frame when no frame is being sent and a source waits (R175). -/
def arbiterStarts (s : State) : State :=
  match s.loop.sending, s.nextSource with
  | none, some src => serveSource src s
  | none, none => s
  | some _, _ => s

/-- The idle line that must follow a frame sent, in counts (R167, R175). -/
def gapCounts : Nat := 240

/-- The frame that was sent leaves the list that holds it (R173). -/
def LoopPort.release (held : Option Source) (l : LoopPort) : LoopPort :=
  match held with
  | some .forward => { l with forward := l.forward.drop 1 }
  | some .answers => { l with answers := l.answers.drop 1 }
  | some .slots => l
  | none => l

/-- The last byte of the frame being sent has left loop-out (R173). -/
def frameLeaves (s : State) : State :=
  match s.loop.sending with
  | some x => s.mapLoop fun l => { l.release x.from_ with sending := none, gap := gapCounts }
  | none => s

/-! ## Commands -/

/-- LOOP_SILENCE_EXPIRY (R172). -/
def execLoopSilenceExpiry (s : State) : Host.Outcome State Fault Refusal :=
  .next (loopSilenceExpires s)

/-- FRAME_ARRIVAL (R170). -/
def execFrameArrival (bytes : List Byte) (stopBitLow : Bool) (s : State) :
    Host.Outcome State Fault Refusal :=
  .next (frameArrives bytes stopBitLow s)

/-- FRAGMENT_DISCARD (R168). -/
def execFragmentDiscard (s : State) : Host.Outcome State Fault Refusal :=
  .next (failedArrival .waiting s)

/-- LINE_IDLE_BEFORE_COMPLETE (R168). -/
def execLineIdleBeforeComplete (s : State) : Host.Outcome State Fault Refusal :=
  .next (failedArrival .waiting s)

/-- ARBITER_FRAME_START (R175). -/
def execArbiterFrameStart (s : State) : Host.Outcome State Fault Refusal := .next (arbiterStarts s)

/-- FRAME_SENT (R173). -/
def execFrameSent (s : State) : Host.Outcome State Fault Refusal := .next (frameLeaves s)

end Sys2Proof.Machine
end

