-- ==== Sys2Proof/Machine/Tick.lean ====
section
/-! DEFINITION. One timebase count: what the part does by itself while no command waits (assumption 1).
The table has no row for it. The order of the parts of a count is fixed by assumption 5. -/

namespace Sys2Proof.Machine

/-! ## Timers counted in timebase counts

One pass takes a count off every running timer; then each timer that has run out takes its expiry, by the
operation of its own command. A timer that an expiry, a sample or a mill second of this count starts loses
nothing in it, so it holds the counts since its start (R60, R61, R133). -/

/-- Every running timer loses one count (R5, R6, R59 to R61, R133, R172). -/
def timersPass (s : State) : State :=
  (((s.mapEdge fun e => { e with
    lossTimer := oneCount e.lossTimer
    toothSilence := oneCount e.toothSilence }).mapPlant fun p => { p with
    signalLoss := oneCount p.signalLoss
    collapse := oneCount p.collapse
    freqOverspeed := oneCount p.freqOverspeed }).mapSaw fun w => { w with
    reserve := oneCount w.reserve
    settle := oneCount w.settle
    confirm := oneCount w.confirm
    rundown := oneCount w.rundown }).mapLoop fun l => { l with silence := oneCount l.silence }

/-- The loss timer (R5). -/
def lossTimerCount (s : State) : State :=
  if s.edge.lossTimer = some 0 then lossTimerExpires s else s

/-- The tooth silence timer (R6). -/
def toothSilenceCount (s : State) : State :=
  if s.edge.toothSilence = some 0 then toothSilenceExpires s else s

/-- The signal-loss timer (R60). -/
def signalLossCount (s : State) : State :=
  if s.plant.signalLoss = some 0 then signalLossExpires s else s

/-- The collapse timer (R61). -/
def collapseCount (s : State) : State :=
  if s.plant.collapse = some 0 then collapseExpires s else s

/-- The frequency-overspeed timer (R59). -/
def freqOverspeedCount (s : State) : State :=
  if s.plant.freqOverspeed = some 0 then freqOverspeedExpires s else s

/-- The reserve timer (R142). -/
def reserveCount (s : State) : State :=
  if s.saw.reserve = some 0 then reserveTimerExpires s else s

/-- The settle timer (R144). -/
def settleCount (s : State) : State :=
  if s.saw.settle = some 0 then settleExpires s else s

/-- The confirm timer (R144, R150). -/
def confirmCount (s : State) : State :=
  if s.saw.confirm = some 0 then confirmExpires s else s

/-- The rundown timer (R149). -/
def rundownCount (s : State) : State :=
  if s.saw.rundown = some 0 then rundownExpires s else s

/-- The loop silence timer (R172). -/
def loopSilenceCount (s : State) : State :=
  if s.loop.silence = some 0 then loopSilenceExpires s else s

/-- The timers of a count: the pass, then the expiries. DESIGN CHOICE (assumption 5): the manual states no
order for timers that run out at one count; loss comes first, then tooth silence, then of the three
protection timers signal-loss, collapse and frequency-overspeed (R57 takes the first trip alone), then the
saw's reserve, settle, confirm and rundown, and loop silence last. -/
def timersCount (s : State) : State :=
  loopSilenceCount
    (rundownCount
      (confirmCount
        (settleCount
          (reserveCount
            (freqOverspeedCount
              (collapseCount
                (signalLossCount
                  (toothSilenceCount
                    (lossTimerCount (timersPass s))))))))))

/-! ## The other work of a count -/

/-- The greatest interval, in counts: 5,000 milliseconds (R93). -/
def intervalMax : Nat := 10000000

/-- A feeder's interval counter advances and stops at its greatest value (R93). -/
def Feeder.intervalCount (f : Feeder) : Feeder :=
  { f with interval := f.interval.map fun n => min intervalMax (n + 1) }

/-- The interval counters of the feeders (R93). -/
def intervalsCount (s : State) : State :=
  s.mapHamlet fun h => { h with feeders := h.feeders.map Feeder.intervalCount }

/-- The inputs are sampled at each whole multiple of 16 counts (R2). DESIGN CHOICE (assumption 18): count
0 of a cold reset is not sampled, because a count is sampled when the counter comes to it. -/
def samplesCount (s : State) : State :=
  if s.edge.timebase.toNat % 16 = 0 then sampleTooth (sampleXing s) else s

/-- The first record in this stage, if there is one. -/
def firstIn (stage : PulseStage) (ps : List Pulse) : Option Pulse := ps.find? fun p => p.stage == stage

/-- A waiting record whose start count the counter has reached begins (R36). -/
def pulseStartCount (s : State) : State :=
  match firstIn .waiting s.firing.pulses with
  | some p => if p.start = s.edge.timebase then startPulse s else s
  | none => s

/-- A delivered record whose end count the counter has reached ends (R36). -/
def pulseEndCount (s : State) : State :=
  match firstIn .delivering s.firing.pulses with
  | some p => if p.stop = s.edge.timebase then endPulse s else s
  | none => s

/-- The divider advances; 2,000,000 counts make a mill second (R10). -/
def dividerCount (s : State) : State :=
  if 2000000 ≤ s.time.divider + 1 then millSecond s
  else s.mapTime fun t => { t with divider := t.divider + 1 }

/-- Loop-out for one count: the frame being sent goes on, or its gap does, or the arbiter may start
(R175). -/
def lineCount (s : State) : State :=
  match s.loop.sending with
  | some x =>
      if x.left ≤ 1 then frameLeaves s
      else s.mapLoop fun l => { l with sending := some { x with left := x.left - 1 } }
  | none =>
      if 1 < s.loop.gap then s.mapLoop fun l => { l with gap := l.gap - 1 } else arbiterStarts s

/-- The timebase counter advances, modulo 2^24 (R1). -/
def timebaseCount (s : State) : State := s.mapEdge fun e => { e with timebase := e.timebase + 1 }

/-- One timebase count of the whole part, in the order of assumption 5. The counter advances before the
inputs are sampled, so after a cold reset the first sample falls at count 16 and none at count 0: DESIGN
CHOICE (assumption 18). -/
def tick (s : State) : State :=
  lineCount
    (dividerCount
      (intervalsCount
        (samplesCount
          (pulseStartCount
            (pulseEndCount
              (timersCount (timebaseCount s)))))))

end Sys2Proof.Machine
end

