-- ==== Sys2Proof/Machine/Dispatch.lean ====
section
/-! DEFINITION. The dispatch of the commands: one arm per constructor, one meaning per arm. -/

namespace Sys2Proof.Machine

def exec (i : Instr) (s : State) : Host.Outcome State Fault Refusal :=
  match i with
  | .coldReset straps => Sys2Proof.Machine.execColdReset straps s
  | .acceptedRisingCrossingEdge t lag => Sys2Proof.Machine.execAcceptedRisingCrossingEdge t lag s
  | .acceptedFallingEdge input => Sys2Proof.Machine.execAcceptedFallingEdge input s
  | .lossTimerExpiry => Sys2Proof.Machine.execLossTimerExpiry s
  | .acceptedRisingToothEdge t => Sys2Proof.Machine.execAcceptedRisingToothEdge t s
  | .toothOverspeed => Sys2Proof.Machine.execToothOverspeed s
  | .toothSilenceExpiry => Sys2Proof.Machine.execToothSilenceExpiry s
  | .millSecond => Sys2Proof.Machine.execMillSecond s
  | .runupAccepted => Sys2Proof.Machine.execRunupAccepted s
  | .runupTimerExpiry => Sys2Proof.Machine.execRunupTimerExpiry s
  | .stopTimerExpiry => Sys2Proof.Machine.execStopTimerExpiry s
  | .signalLossTimerExpiry => Sys2Proof.Machine.execSignalLossTimerExpiry s
  | .collapseTimerExpiry => Sys2Proof.Machine.execCollapseTimerExpiry s
  | .freqOverspeedTimerExpiry => Sys2Proof.Machine.execFreqOverspeedTimerExpiry s
  | .trimPulseStart => Sys2Proof.Machine.execTrimPulseStart s
  | .trimPulseEnd => Sys2Proof.Machine.execTrimPulseEnd s
  | .gateEvaluation => Sys2Proof.Machine.execGateEvaluation s
  | .shortageEvent => Sys2Proof.Machine.execShortageEvent s
  | .waterNodeSilenceExpiry node => Sys2Proof.Machine.execWaterNodeSilenceExpiry node s
  | .feederSilenceExpiry slot => Sys2Proof.Machine.execFeederSilenceExpiry slot s
  | .recloseExpiry circuit => Sys2Proof.Machine.execRecloseExpiry circuit s
  | .limitTrip circuit reading => Sys2Proof.Machine.execLimitTrip circuit reading s
  | .breakerDisagree circuit report => Sys2Proof.Machine.execBreakerDisagree circuit report s
  | .shedTimerExpiry => Sys2Proof.Machine.execShedTimerExpiry s
  | .restore => Sys2Proof.Machine.execRestore s
  | .reserveTimerExpiry => Sys2Proof.Machine.execReserveTimerExpiry s
  | .sawSettleExpiry => Sys2Proof.Machine.execSawSettleExpiry s
  | .clutchConfirmExpiry => Sys2Proof.Machine.execClutchConfirmExpiry s
  | .rundownExpiry => Sys2Proof.Machine.execRundownExpiry s
  | .grantExpiry => Sys2Proof.Machine.execGrantExpiry s
  | .sawSilenceExpiry => Sys2Proof.Machine.execSawSilenceExpiry s
  | .loopSilenceExpiry => Sys2Proof.Machine.execLoopSilenceExpiry s
  | .frameArrival bytes stopBitLow => Sys2Proof.Machine.execFrameArrival bytes stopBitLow s
  | .fragmentDiscard => Sys2Proof.Machine.execFragmentDiscard s
  | .arbiterFrameStart => Sys2Proof.Machine.execArbiterFrameStart s
  | .frameSent => Sys2Proof.Machine.execFrameSent s
  | .pondSample payload => Sys2Proof.Machine.execPondSample payload s
  | .gateSample payload => Sys2Proof.Machine.execGateSample payload s
  | .feederSample slot payload => Sys2Proof.Machine.execFeederSample slot payload s
  | .sawSample payload => Sys2Proof.Machine.execSawSample payload s
  | .readEntries src tag table first count => Sys2Proof.Machine.execReadEntries src tag table first count s
  | .writeEntries src tag table first count values => Sys2Proof.Machine.execWriteEntries src tag table first count values s
  | .readStatus src tag section_ => Sys2Proof.Machine.execReadStatus src tag section_ s
  | .readConditions src tag => Sys2Proof.Machine.execReadConditions src tag s
  | .acknowledge src tag set => Sys2Proof.Machine.execAcknowledge src tag set s
  | .setNotices src tag set => Sys2Proof.Machine.execSetNotices src tag set s
  | .setPlantRunup src tag => Sys2Proof.Machine.execSetPlantRunup src tag s
  | .setPlantStopped src tag => Sys2Proof.Machine.execSetPlantStopped src tag s
  | .setPlantTripped src tag => Sys2Proof.Machine.execSetPlantTripped src tag s
  | .setClock src tag day second => Sys2Proof.Machine.execSetClock src tag day second s
  | .setTimeError src tag te => Sys2Proof.Machine.execSetTimeError src tag te s
  | .circuitAdminOff src tag circuit => Sys2Proof.Machine.execCircuitAdminOff src tag circuit s
  | .circuitAdminOn src tag circuit => Sys2Proof.Machine.execCircuitAdminOn src tag circuit s
  | .releaseLockout src tag circuit => Sys2Proof.Machine.execReleaseLockout src tag circuit s
  | .clearEnergy src tag circuit => Sys2Proof.Machine.execClearEnergy src tag circuit s
  | .journalFind src tag start kind subject => Sys2Proof.Machine.execJournalFind src tag start kind subject s
  | .journalRead src tag seq => Sys2Proof.Machine.execJournalRead src tag seq s
  | .restart src tag => Sys2Proof.Machine.execRestart src tag s
  | .unknownRequest src payload => Sys2Proof.Machine.execUnknownRequest src payload s
  | .lineIdleBeforeComplete => Sys2Proof.Machine.execLineIdleBeforeComplete s

end Sys2Proof.Machine
end

