-- ==== Sys2Proof/Machine/Payloads.lean ====
section
/-! DEFINITION. The REQUEST payload and frame by which the host sends each request command (Table 10-3):
the layout from the sender's side. The machine's own reading of a payload is `owner`. -/

namespace Sys2Proof

open Machine

/-- The bytes of a request: code, tag, parameters (section 10.3). -/
def requestBytes (code : Nat) (tag : Word16) (params : List Byte) : List Byte :=
  [byteOf code] ++ be16 tag.toNat ++ params

/-- The sender and the payload of the REQUEST frame that carries the command; none for a command that is
no request (Table 10-3). -/
def Instr.request : Instr → Option (Byte × List Byte)
  | .readEntries src tag table first count => some (src, requestBytes 1 tag [table, first, count])
  | .writeEntries src tag table first count values =>
      some (src, requestBytes 2 tag ([table, first, count] ++ values))
  | .readStatus src tag section_ => some (src, requestBytes 3 tag [section_])
  | .readConditions src tag => some (src, requestBytes 4 tag [])
  | .acknowledge src tag set => some (src, requestBytes 5 tag (be32 set.toNat))
  | .setNotices src tag set => some (src, requestBytes 6 tag (be32 set.toNat))
  | .setPlantRunup src tag => some (src, requestBytes 7 tag [1])
  | .setPlantStopped src tag => some (src, requestBytes 7 tag [0])
  | .setPlantTripped src tag => some (src, requestBytes 7 tag [4])
  | .setClock src tag day second => some (src, requestBytes 8 tag (be16 day.toNat ++ be32 second.toNat))
  | .setTimeError src tag te => some (src, requestBytes 9 tag (be16 te.toNat))
  | .circuitAdminOff src tag circuit => some (src, requestBytes 10 tag [circuit, 0])
  | .circuitAdminOn src tag circuit => some (src, requestBytes 10 tag [circuit, 1])
  | .releaseLockout src tag circuit => some (src, requestBytes 10 tag [circuit, 2])
  | .clearEnergy src tag circuit => some (src, requestBytes 10 tag [circuit, 3])
  | .journalFind src tag start kind subject =>
      some (src, requestBytes 11 tag (be32 start.toNat ++ [kind, subject]))
  | .journalRead src tag seq => some (src, requestBytes 12 tag (be32 seq.toNat))
  | .restart src tag => some (src, requestBytes 13 tag [])
  | .unknownRequest src payload => some (src, payload)
  | .coldReset _ => none
  | .acceptedRisingCrossingEdge _ _ => none
  | .acceptedFallingEdge _ => none
  | .lossTimerExpiry => none
  | .acceptedRisingToothEdge _ => none
  | .toothOverspeed => none
  | .toothSilenceExpiry => none
  | .millSecond => none
  | .runupAccepted => none
  | .runupTimerExpiry => none
  | .stopTimerExpiry => none
  | .signalLossTimerExpiry => none
  | .collapseTimerExpiry => none
  | .freqOverspeedTimerExpiry => none
  | .trimPulseStart => none
  | .trimPulseEnd => none
  | .gateEvaluation => none
  | .shortageEvent => none
  | .waterNodeSilenceExpiry _ => none
  | .feederSilenceExpiry _ => none
  | .recloseExpiry _ => none
  | .limitTrip _ _ => none
  | .breakerDisagree _ _ => none
  | .shedTimerExpiry => none
  | .restore => none
  | .reserveTimerExpiry => none
  | .sawSettleExpiry => none
  | .clutchConfirmExpiry => none
  | .rundownExpiry => none
  | .grantExpiry => none
  | .sawSilenceExpiry => none
  | .loopSilenceExpiry => none
  | .frameArrival _ _ => none
  | .fragmentDiscard => none
  | .arbiterFrameStart => none
  | .frameSent => none
  | .pondSample _ => none
  | .gateSample _ => none
  | .feederSample _ _ => none
  | .sawSample _ => none
  | .lineIdleBeforeComplete => none

/-- The REQUEST frame that carries the command to a part of address `own` (Table 9-1). -/
def Instr.requestFrame (own : Nat) (i : Instr) : Option (List Byte) :=
  i.request.map fun x => buildFrame own x.1.toNat Kind.REQUEST x.2

end Sys2Proof
end

