-- ==== Sys2Proof/Safety.lean ====
section
/-! DEFINITION. What holds of a safe state, as the manual's laws say it: each law is decidable, and each is
stated elsewhere as kept by every step. -/

namespace Sys2Proof.Safety

open Sys2Proof.Machine

/-- The law of the demand (R22, R25): within 0..4096, 0 and not engaged in STOPPED, 4096 and not engaged
in TRIPPED; the residue is a remainder of 256 (R24). -/
def demandLaw (s : State) : Bool :=
  decide (s.gov.d ≤ 4096) && decide (s.gov.residue < 256) &&
    match s.plant.state with
    | .stopped => s.gov.d == 0 && !s.gov.engaged
    | .tripped => s.gov.d == 4096 && !s.gov.engaged
    | .runup => true
    | .run => true
    | .stopping => true

/-- The law of the protection timers (R44, Table 3-4): each runs in its own plant states only. -/
def timerLaw (s : State) : Bool :=
  (s.plant.runupTimer.isSome == s.inPlant .runup) &&
    (s.plant.stopTimer.isSome == s.inPlant .stopping) &&
    (!s.plant.signalLoss.isSome || s.inPlant .run) &&
    (!s.plant.collapse.isSome || s.inPlant .run) &&
    (!s.plant.freqOverspeed.isSome || !s.inPlant .tripped) &&
    (s.water.evalTimer.isSome == s.inPlant .run)

/-- The law of the signal (R5, R60): a frequency is present exactly while the signal is, the loss timer
runs while it is, and the signal-loss timer runs only while it is LOST. -/
def signalLaw (s : State) : Bool :=
  (s.edge.freq.isSome == (s.edge.signal == .present)) &&
    (s.edge.lossTimer.isSome || s.edge.signal == .lost) &&
    (!s.plant.signalLoss.isSome || s.edge.signal == .lost)

/-- The law of the tooth input (R6, R7). -/
def toothLaw (s : State) : Bool :=
  (s.edge.toothSilence.isSome == !s.edge.toothSilent) &&
    (!s.edge.toothSilent || s.edge.toothPeriod.isNone) && decide (s.edge.overspeed ≤ 3)

/-- The law of the gate target (R83): 0 at rest and while stopping, GATE_START in RUNUP, at least
GATE_RUN_MIN in RUN, and never above 1000. -/
def gateLaw (s : State) : Bool :=
  decide (s.water.gate ≤ 1000) &&
    match s.plant.state with
    | .stopped => s.water.gate == 0
    | .stopping => s.water.gate == 0
    | .tripped => s.water.gate == 0
    | .runup => s.water.gate == s.setting Setting.GATE_START
    | .run => decide (s.setting Setting.GATE_RUN_MIN ≤ s.water.gate)

/-- The law of the settings (R179): 57 values, each in its range, and the four pairs in order. -/
def settingsLaw (s : State) : Bool :=
  decide (s.tables.settings.vals.length = 57) &&
    settingsInRange 0 s.tables.settings.vals &&
    settingPairs.all fun p => decide (s.setting p.1 < s.setting p.2)

/-- The law of the node map (R178): nine addresses of at most 62, none of them the own address, no two
roles with the same one but 0. -/
def nodeMapLaw (s : State) : Bool :=
  decide (s.tables.nodeMap.vals.length = 9) &&
    nodeMapAllowed s.loop.ownAddress s.tables.nodeMap.vals &&
    decide (1 ≤ s.loop.ownAddress) && decide (s.loop.ownAddress ≤ 62)

/-- A circuit is supplied or waits to be (R110). -/
def circuitInUse (c : Circuit) : Bool :=
  match c.state with
  | .closed => true
  | .limitOpen => true
  | .shed => true
  | .absent => false
  | .dark => false
  | .locked => false
  | .off => false

/-- The law of the shed list (R114): no circuit twice, a circuit is SHED exactly when it is listed, and
then its tier is at least 1; no strike count passes 9 (R98); outside RUN nothing is listed and no circuit is
in use (R110, R129). -/
def shedLaw (s : State) : Bool :=
  decide (s.hamlet.entries.length = 48) &&
    decide ((s.shed.list.map fun e => e.circuit).Nodup) &&
    (s.shed.list.all fun e => decide (e.circuit < 48)) &&
    (s.hamlet.entries.zipIdx.all fun x =>
      (x.1.state == .shed) == s.listed x.2 && (x.1.state != .shed || decide (1 ≤ x.1.tier))) &&
    (s.hamlet.entries.all fun c => decide (c.strikes ≤ 9)) &&
    (s.inPlant .run || (s.shed.list.isEmpty && s.hamlet.entries.all fun c => !circuitInUse c))

/-- The clutch may be ordered ENGAGE in this saw state (Table 7-2). -/
def mayEngage (w : Saw) : Bool :=
  match w.state with
  | .engaging => true
  | .running => true
  | .stopping => !w.releaseOrdered
  | .idle => false
  | .reserving => false

/-- The law of the saw (R133, Table 7-2, R152): ENGAGE only where the table allows it, a feed and a grant
only in RUNNING, and the saw away from IDLE only in RUN, or on its way to rest in STOPPING. -/
def sawLaw (s : State) : Bool :=
  (s.saw.order.clutch != .engage || mayEngage s.saw) &&
    (s.saw.order.feed == 0 || s.saw.state == .running) &&
    (s.saw.grant.isSome == (s.saw.state == .running)) &&
    (s.saw.state == .idle || s.inPlant .run || (s.saw.state == .stopping && s.inPlant .stopping))

/-- The law of the trim pulses (R32): at most two records, and the gate is HIGH exactly while one is being
delivered. -/
def firingLaw (s : State) : Bool :=
  decide (s.firing.pulses.length ≤ 2) && s.firing.trimGate == anyDelivering s.firing.pulses

/-- The law of the time error (R16, R19): within its range, and no correction outside RUN. -/
def timeLaw (s : State) : Bool :=
  decide (-30000 ≤ s.time.te) && decide (s.time.te ≤ 30000) &&
    (s.inPlant .run || s.time.direction == .zero)

/-- The law of the journal (R163): at most 128 entries, whose sequence numbers are consecutive and end
just below the next one, which is at most 4,294,967,295. -/
def journalLaw (s : State) : Bool :=
  decide (s.journal.entries.length ≤ 128) && decide (s.journal.next ≤ 4294967295) &&
    decide (s.journal.entries.length < s.journal.next) &&
    (s.journal.entries.map fun e => e.seq) ==
      List.range' (s.journal.next - s.journal.entries.length) s.journal.entries.length

/-- The law of the Loop Port (R173, R174): the capacities of the forward buffer and the answer queue, the
held place among them, and eight slots of which only a written one is pending. -/
def loopLaw (s : State) : Bool :=
  decide (s.loop.forward.length ≤ 4) &&
    decide (s.loop.answers.length + (if s.loop.held then 1 else 0) ≤ 8) &&
    decide (s.loop.slots.length = 8) &&
    s.loop.slots.all fun x => !x.pending || x.contents.isSome

/-! ## The words of the statements -/

/-- The blocks of the state, with the model's own fields. -/
inductive Block where
  | edge | pins | time | gov | firing | plant | water | hamlet | shed | saw | conds | journal
  | tables | loop | draws | pending
deriving DecidableEq, Repr

/-- The block is the same in both states. -/
def Block.same (s t : State) : Block → Prop
  | .edge => t.edge = s.edge
  | .pins => t.pins = s.pins
  | .time => t.time = s.time
  | .gov => t.gov = s.gov
  | .firing => t.firing = s.firing
  | .plant => t.plant = s.plant
  | .water => t.water = s.water
  | .hamlet => t.hamlet = s.hamlet
  | .shed => t.shed = s.shed
  | .saw => t.saw = s.saw
  | .conds => t.conds = s.conds
  | .journal => t.journal = s.journal
  | .tables => t.tables = s.tables
  | .loop => t.loop = s.loop
  | .draws => t.draws = s.draws
  | .pending => t.pending = s.pending

/-- Every block outside the list is the same in both states. -/
def KeptBut (touched : List Block) (s t : State) : Prop := ∀ b, b ∉ touched → b.same s t

/-- One piece of work after another: the next runs on the state that the one before it answers. -/
def andThen (o : Host.Outcome State Fault Refusal) (f : State → Host.Outcome State Fault Refusal) :
    Host.Outcome State Fault Refusal :=
  match o with
  | .next x => f x
  | .fault r => .fault r
  | .refused r => .refused r

/-- The request being handled holds its place of the answer queue (R173). -/
def holding (s : State) : State := { s with loop := { s.loop with held := true } }

/-- The ANSWER frame of section 10.3. -/
def answerOf (own : Nat) (src : Byte) (tag : Word16) (code : Nat) (outcome : ReqOutcome)
    (data : List Byte) : List Byte :=
  buildFrame src.toNat own 0x31 (be16 tag.toNat ++ [byteOf code, byteOf outcome.code] ++ data)

/-- The state with an answer at the tail of the answer queue and no place held (R176). -/
def answered (src : Byte) (tag : Word16) (code : Nat) (outcome : ReqOutcome) (data : List Byte)
    (s : State) : State :=
  { s with loop := { s.loop with
      answers := s.loop.answers ++ [answerOf s.loop.ownAddress src tag code outcome data]
      held := false } }

/-- The stop is not complete: the signal is PRESENT, or the gate was not last seen at 5 or less (R64). -/
def StopIncomplete (s : State) : Prop :=
  s.edge.signal = .present ∨ ∀ p, s.water.gatePos = some p → 5 < p

/-- The circuit entry that darkening leaves (R110). -/
def darkened (c : Circuit) : Circuit :=
  if c.state = .closed ∨ c.state = .limitOpen ∨ c.state = .shed then
    { c with state := .dark, overCount := 0, disagree := 0, reclose := none }
  else c

/-- The state after the record of a plant entry: the PLANT entry, the raise of PLANT_CHANGED, and the raise
of the condition that Table 3-2 names with the cause (R45). -/
def recorded (p : PlantState) (cause : Cause) (named : Option Condition) (s : State) : State :=
  let s1 := raise .plantChanged none
    { s with journal := s.journal.push s.time.clock .plant none (p.code * 256 + cause.code) }
  match named with
  | some c => raise c none s1
  | none => s1

/-- The value of the SAW entry that the saw makes at a plant entry, if it makes one (R139, R149, R152). -/
def sawNote : PlantState → SawState → Option Int
  | .tripped, .idle => none
  | .tripped, _ => some 0
  | .stopped, .idle => none
  | .stopped, _ => some 0
  | .stopping, .idle => none
  | .stopping, .stopping => none
  | .stopping, _ => some 4
  | .runup, _ => none
  | .run, _ => none

/-- The record of a plant entry with the SAW entry that follows it (R45, R152). -/
def entryRecord (p : PlantState) (cause : Cause) (named : Option Condition) (s : State) : State :=
  let r := recorded p cause named s
  match sawNote p s.saw.state with
  | some v => { r with journal := r.journal.push s.time.clock .saw none v }
  | none => r

/-- The state after a taken append of a circuit to the shed list, in list, journal and conditions: the new
entry stands last, a SHED entry records it, and SHED_ACTIVE is raised where the list was empty (R115). -/
def appended (i : Nat) (cause : ShedCause) (r : State) : State :=
  let r1 : State := { r with
    shed := { r.shed with
      list := r.shed.list ++ [⟨i, cause, (r.circuit i).reading, r.secondOfDay⟩], restoreTimer := none }
    journal := r.journal.push r.time.clock .shed (some i) cause.code }
  if r.shed.list = [] then raise .shedActive none r1 else r1

/-- The positions that the order of feeder `k` carries: CLOSE for each CLOSED circuit (R103). -/
def positions (s : State) (k : Nat) : List Bool :=
  (List.range 8).map fun m => (s.circuit (k * 8 + m)).state == .closed

/-- Command slot `k` after a command, of which `old` is its content before: written and pending where its
order has changed, or where the command writes it again in any case; the slots of SAW and of the feeders only
while their role is mapped (R85, R103, R138, R174). -/
def slotAfter (again : List Nat) (s t : State) (k : Nat) (old : Slot) : Slot :=
  let changed : Bool :=
    if k = 0 then t.water.gate != s.water.gate
    else if k = 1 then t.saw.order != s.saw.order
    else if k < 8 then positions t (k - 2) != positions s (k - 2)
    else false
  let order : Order :=
    if k = 0 then .gate t.water.gate
    else if k = 1 then .saw t.saw.order
    else .feeder (positions t (k - 2))
  if (changed = true ∨ k ∈ again) ∧ (k = 0 ∨ s.address (k + 1) ≠ 0) then ⟨some order, true⟩ else old

/-- Of the Loop Port the command has changed the slots whose orders changed, or that are among `again`, and
the answer queue; nothing else (R174). -/
def SlotsFollow (again : List Nat) (s t : State) : Prop :=
  t.loop = { s.loop with
    slots := s.loop.slots.mapIdx (slotAfter again s t)
    answers := t.loop.answers, held := t.loop.held }

/-- The answer queue is that of `r`, in its frames and in the held place. -/
def SameQueue (r t : State) : Prop := t.loop.answers = r.loop.answers ∧ t.loop.held = r.loop.held

/-- The Condition Register and the journal are those of `r`, and the answer queue with the notices that the
raises have queued. -/
def SameRecord (r t : State) : Prop :=
  t.conds = r.conds ∧ t.journal = r.journal ∧ SameQueue r t

/-- The state with an entry of the saw in the journal, of the state that it enters (R139, R140, R141, R146,
R149). -/
def sawNoted (entered : Nat) (r : State) : State :=
  { r with journal := r.journal.push r.time.clock .saw none entered }

/-- The state with the entry of a restore in the journal, with the surplus that it was given (R125). -/
def restored (i surplus : Nat) (r : State) : State :=
  { r with journal := r.journal.push r.time.clock .restore (some i) surplus }

/-- What a change of the time error to `te` leaves in conditions and journal: the raise of TIME_ERROR_LIMIT
at a limit, and the end of its cause inside the range (R17). -/
def timeErrorRecord (te : Int) (r : State) : State :=
  if te = -30000 ∨ te = 30000 then raise .timeErrorLimit none r else causeEnd .timeErrorLimit r

/-- What an accepted valid period leaves in conditions and journal before the plant, the shedding and the saw
take it: SHAFT_SENSOR at the entry to PRESENT with a silent tooth input, the judgement of the time error, and
the GAIN entry of a switch (R8, R17, R30), in the order of assumption 5. -/
def periodRecord (s : State) : State :=
  let r1 := if s.edge.signal = .lost ∧ s.edge.toothSilent = true then raise .shaftSensor none s else s
  let r2 := timeErrorRecord (max (-30000) (min 30000 (s.time.te + 1))) r1
  match s.gov.pendingSet with
  | some g => { r2 with journal := r2.journal.push r2.time.clock .gain none g.code }
  | none => r2

/-- The plant has entered TRIPPED with a cause and the condition named with it (R49, Tables 3-2 and 3-3),
from the state `s`. -/
def Tripped (cause : Cause) (named : Condition) (s t : State) : Prop :=
  t.plant = ⟨.tripped, cause, 0, none, none, none, none, none⟩ ∧
    t.gov = { s.gov with
      d := 4096, residue := 0, engaged := false
      pendingSet := if s.gov.active = .normal then none else some .normal } ∧
    t.firing = { s.firing with step1 := true, step2 := true, step3 := true } ∧
    t.time = { s.time with direction := .zero } ∧
    t.water = { s.water with gate := 0, evalTimer := none, shortage := 0 } ∧
    t.hamlet = { s.hamlet with entries := s.hamlet.entries.map darkened } ∧
    t.shed = ⟨[], none, 0, none⟩ ∧
    t.saw.state = .idle ∧ t.saw.order.lamp = .stop ∧
    (s.saw.state ≠ .idle → t.saw.order.clutch = .release ∧ t.saw.order.feed = 0 ∧
      t.saw.grant = none) ∧
    SameRecord (entryRecord .tripped cause (some named) s) t ∧ SlotsFollow [] s t ∧
    KeptBut [.plant, .gov, .firing, .time, .water, .hamlet, .shed, .saw, .conds, .journal, .loop] s t

/-- The plant has entered STOPPING with a cause (R48, Table 3-3), from the state `s`. -/
def Stopping (cause : Cause) (s t : State) : Prop :=
  t.plant = { s.plant with
      state := .stopping, cause := cause, runupTimer := none, stopTimer := some 0
      signalLoss := none, collapse := none } ∧
    t.time = { s.time with direction := .zero } ∧
    t.water = { s.water with gate := 0, evalTimer := none, shortage := 0 } ∧
    t.hamlet = { s.hamlet with entries := s.hamlet.entries.map darkened } ∧
    t.shed = ⟨[], none, 0, none⟩ ∧
    ((s.saw.state = .idle ∨ s.saw.state = .stopping) → t.saw = s.saw) ∧
    ((s.saw.state ≠ .idle ∧ s.saw.state ≠ .stopping) →
      t.saw.state = .stopping ∧ t.saw.order.feed = 0 ∧ t.saw.order.lamp = .stop ∧
        t.saw.order.clutch = s.saw.order.clutch) ∧
    (s.conds.length = 25 → (t.cond .plantChanged).flag = true) ∧ SlotsFollow [] s t ∧
    KeptBut [.plant, .time, .water, .hamlet, .shed, .saw, .conds, .journal, .loop] s t

/-- The plant has entered STOPPED with a cause (R50, Table 3-3), from the state `s`. -/
def Stopped (cause : Cause) (s t : State) : Prop :=
  t.plant = { s.plant with
      state := .stopped, cause := cause, runupTimer := none, stopTimer := none
      signalLoss := none, collapse := none } ∧
    t.gov.d = 0 ∧ t.gov.residue = 0 ∧ t.gov.engaged = false ∧ t.gov.ePrev = s.gov.ePrev ∧
    t.gov.active = s.gov.active ∧
    t.firing = ⟨false, false, false, [], false, 0⟩ ∧
    t.time = { s.time with direction := .zero } ∧
    t.water = { s.water with gate := 0, evalTimer := none, shortage := 0 } ∧
    t.hamlet = s.hamlet ∧
    (s.saw.state = .idle → t.saw = s.saw ∧ t.gov.pendingSet = s.gov.pendingSet ∧ t.shed = s.shed) ∧
    (s.saw.state ≠ .idle → t.saw.state = .idle ∧ t.saw.order.clutch = .release ∧
      t.saw.order.feed = 0 ∧ t.saw.order.lamp = .stop ∧ t.saw.grant = none) ∧
    (s.conds.length = 25 → (t.cond .plantChanged).flag = true) ∧ SlotsFollow [] s t ∧
    KeptBut [.plant, .gov, .firing, .time, .water, .shed, .saw, .conds, .journal, .loop] s t

/-- The plant has entered STOPPING and, the stop being complete at once, STOPPED (R48, R64). -/
def StoppedAtOnce (cause : Cause) (s t : State) : Prop :=
  ∃ m, Stopping cause s m ∧ SameRecord (entryRecord .stopping cause none s) m ∧
    Stopped .stopDone m t ∧ SameRecord (entryRecord .stopped .stopDone none m) t

/-- The stop would be complete at once: the signal LOST and the gate last seen at 5 or less (R64). -/
def StopReady (s : State) : Prop :=
  s.edge.signal = .lost ∧ ∃ p, s.water.gatePos = some p ∧ p ≤ 5

/-- The state stands before an accepted valid period of length `p`: the edge lies in the valid band after
`t_prev`, with the signal PRESENT, or with it LOST and the loss timer of a gap edge still running (R3, R5,
assumption 9). -/
def ValidEdge (t : Count) (p : Nat) (s : State) : Prop :=
  (s.edge.signal = .present ∨ s.edge.lossTimer.isSome = true) ∧
    ∃ prev, s.edge.tPrev = some prev ∧ (t - prev).toNat = p ∧ 30770 ≤ p ∧ p ≤ 57142

/-- Strikes are being counted for the circuit: there is one, and its window has not passed (R98). -/
def strikesCount (s : State) (c : Circuit) : Bool :=
  c.strikes != 0 &&
    match c.windowStart with
    | some w => decide ((s.time.count - w).toNat < s.setting Setting.STRIKE_WINDOW * 60)
    | none => false

/-- A CLOSED circuit after a limiter trip (R98). -/
def struck (s : State) (c : Circuit) : Circuit :=
  let n := if strikesCount s c then min 9 (c.strikes + 1) else 1
  let locked := decide (s.setting Setting.STRIKE_LIMIT ≤ n)
  { c with
    strikes := n
    windowStart := if strikesCount s c then c.windowStart else some s.time.count
    overCount := 0
    disagree := 0
    state := if locked then .locked else .limitOpen
    reclose := if locked then none else some (s.setting Setting.RECLOSE_DELAY) }

/-- A circuit after the limiter's test of a reading, by the windows open now (R91, R97). -/
def limited (s : State) (reading : Nat) (c : Circuit) : Circuit :=
  let allowed := if s.time.eveningOpen then c.eveningAllow
    else if s.time.nightOpen then c.nightAllow else c.dayAllow
  if c.state ≠ .closed then c
  else if allowed = 0 then { c with overCount := 0 }
  else if 2 * allowed < reading then struck s c
  else if allowed < reading then
    if s.setting Setting.OVER_COUNT ≤ c.overCount + 1 then struck s c
    else { c with overCount := c.overCount + 1 }
  else { c with overCount := 0 }

/-- The disagree count after a report, against the wanted position (R104). -/
def agreed (report : BreakerReport) (c : Circuit) : Nat :=
  if report = .failed then 3
  else if report = .closed ↔ c.state = .closed then 0
  else if c.disagree < 3 then c.disagree + 1
  else c.disagree

/-- A present circuit after one record of a fresh sample: reading, report, energy for `dt` milliseconds if
the breaker is CLOSED, agreement, limiter (R94, R101, R102). -/
def sampled (s : State) (dt reading : Nat) (report : BreakerReport) (c : Circuit) : Circuit :=
  let sum := c.residue + reading * dt
  limited s reading { c with
    reading := reading
    report := report
    disagree := agreed report c
    energy := if report = .closed then min 99999999 (c.energy + sum / 36000000) else c.energy
    residue := if report = .closed then sum % 36000000 else c.residue }

/-- What one record of a feeder sample leaves in conditions and journal: ENERGY_LIMIT where the energy comes
to its greatest count or loses a unit there, BREAKER_DISAGREE where the check raises it, and the limiter's
entry, with LOCKOUT where it locks; nothing for an ABSENT circuit (R94, R98, R102, R104). -/
def sampleRecord (s : State) (dt i reading : Nat) (report : BreakerReport) (r : State) : State :=
  let c := s.circuit i
  let c' := sampled s dt reading report c
  let units := (c.residue + reading * dt) / 36000000
  let r1 := if report = .closed ∧ 1 ≤ units ∧ 99999999 ≤ c.energy + units then
    raise .energyLimit (some i) r else r
  let r2 := if report = .failed ∨ (agreed report c = 3 ∧ c.disagree = 2) then
    raise .breakerDisagree (some i) r1 else r1
  if c.state = .absent then r
  else if c'.state = c.state then r2
  else if c'.state = .locked then
    raise .lockout none { r2 with
      journal := r2.journal.push r2.time.clock .lockout (some i) c'.strikes }
  else { r2 with journal := r2.journal.push r2.time.clock .limitTrip (some i) reading }

/-- The number of the set whose members below `n` are those of `p`, bit 0 the least (R184). -/
def bitsOf (n : Nat) (p : Nat → Bool) : Nat :=
  (List.range n).foldl (fun a k => if p k then a + 2 ^ k else a) 0

/-- A list with the new members in place of those from index `first` on. -/
def overwritten {α : Type} (old : List α) (first : Nat) (new : List α) : List α :=
  old.mapIdx fun i x => if first ≤ i then (new[i - first]?).getD x else x

/-- The outcome of the checks of the entries `first` to `first + count - 1` of an ordered table as it would
stand: every range, then the order of each with its neighbours, `le` being the order (R41, R74, R76, R153). -/
def spanFault (le : Nat → Nat → Bool) (greatest : Nat) (table : List Nat) (first count : Nat) : ReqOutcome :=
  let span := List.range' first count
  if span.any fun i => decide (greatest < table.getD i 0) then .badValue
  else if span.all fun i => (i == 0 || le (table.getD (i - 1) 0) (table.getD i 0)) &&
      (decide (table.length ≤ i + 1) || le (table.getD i 0) (table.getD (i + 1) 0)) then .done
  else .order

/-- The saw has entered IDLE from the state `s`, with the lamp of the rule that makes the entry (R139). -/
def SawAtRest (lamp : Lamp) (s t : State) : Prop :=
  t.saw = { s.saw with
      state := .idle, grant := none, reserve := none, settle := none, confirm := none
      rundown := none, releaseOrdered := false, engagedSeen := false
      order := { s.saw.order with clutch := .release, feed := 0, lamp := lamp } } ∧
    t.gov = { s.gov with pendingSet := if s.gov.active = .normal then none else some .normal } ∧
    t.shed = { s.shed with list := s.shed.list.map fun e =>
      if e.cause = .saw then { e with cause := .frequency } else e }

/-- The saw has entered STOPPING from the state `s` (R149). -/
def SawStops (s t : State) : Prop :=
  t.saw = { s.saw with
    state := .stopping, grant := none, reserve := none, settle := none, confirm := none
    rundown := some (s.setting Setting.RUNDOWN * 2000000), releaseOrdered := false
    order := { s.saw.order with feed := 0, lamp := .stop } }

/-- The windows have been evaluated in the state `s1` and a SAW window that was open in `s` has closed: a
reservation is denied with reason WINDOW, an engaging or running saw stops, and at rest and in STOPPING
nothing follows. Where it has not closed nothing follows either. `j` is the journal after it (R14, R142,
R145, R148). -/
def WindowFollows (s s1 t : State) (j : Journal) : Prop :=
  let closes := s.time.sawOpen = true ∧ s1.time.sawOpen = false
  let now := s1.time.clock
  (closes → s.saw.state = .reserving → SawAtRest .stop s1 t ∧
    j = (s1.journal.push now .sawDenied none 1).push now .saw none 0) ∧
  (closes → (s.saw.state = .engaging ∨ s.saw.state = .running) → SawStops s1 t ∧ t.gov = s.gov ∧
    t.shed = s.shed ∧ j = s1.journal.push now .saw none 4) ∧
  ((¬closes ∨ s.saw.state = .idle ∨ s.saw.state = .stopping) → t.saw = s.saw ∧ t.gov = s.gov ∧
    t.shed = s.shed ∧ j = s1.journal)

/-- A stopping saw whose clutch release has been ordered (R149). -/
def released (s : State) (w : Saw) : Saw :=
  { w with
    rundown := none, releaseOrdered := true
    confirm := some (s.setting Setting.CLUTCH_CONFIRM * 2000000)
    order := { w.order with clutch := .release } }

end Sys2Proof.Safety
end

