-- ==== Sys2Proof/WellFormed.lean ====
section
/-! DEFINITION. Which commands are well formed: the operands that an event or a request of the part can
carry. The meanings are total and take any operand; well-formedness is what statements may assume. -/

namespace Sys2Proof

/-- An address that a frame may have as its source (Table 9-1). -/
def sourceOk (src : Byte) : Bool := decide (1 ≤ src.toNat) && decide (src.toNat ≤ 62)

/-- A sample payload (Table 9-1: at most 64 bytes). -/
def payloadOk (payload : List Byte) : Bool := decide (payload.length ≤ 64)

/-- A request payload that the Management Unit does not carry to an owner: too short for its tag, or of a
code of 0 or above 13 (R176). -/
def unknownPayload (payload : List Byte) : Bool :=
  match payload with
  | code :: _ :: _ :: _ => code == 0 || decide (13 < code.toNat)
  | _ => true

/-- The command carries operands that its event can have. -/
def Instr.wf : Instr → Bool
  | .coldReset _ => true
  | .acceptedRisingCrossingEdge _ lag => decide (lag ≤ 1008)
  | .acceptedFallingEdge _ => true
  | .lossTimerExpiry => true
  | .acceptedRisingToothEdge _ => true
  | .toothOverspeed => true
  | .toothSilenceExpiry => true
  | .millSecond => true
  | .runupAccepted => true
  | .runupTimerExpiry => true
  | .stopTimerExpiry => true
  | .signalLossTimerExpiry => true
  | .collapseTimerExpiry => true
  | .freqOverspeedTimerExpiry => true
  | .trimPulseStart => true
  | .trimPulseEnd => true
  | .gateEvaluation => true
  | .shortageEvent => true
  | .waterNodeSilenceExpiry _ => true
  | .feederSilenceExpiry slot => decide (slot < 6)
  | .recloseExpiry circuit => decide (circuit < 48)
  | .limitTrip circuit reading => decide (circuit < 48) && decide (reading ≤ 65535)
  | .breakerDisagree circuit report => decide (circuit < 48) && report != .unknown
  | .shedTimerExpiry => true
  | .restore => true
  | .reserveTimerExpiry => true
  | .sawSettleExpiry => true
  | .clutchConfirmExpiry => true
  | .rundownExpiry => true
  | .grantExpiry => true
  | .sawSilenceExpiry => true
  | .loopSilenceExpiry => true
  | .frameArrival bytes _ => decide (bytes.length = Machine.frameLen bytes + 6)
  | .fragmentDiscard => true
  | .arbiterFrameStart => true
  | .frameSent => true
  | .pondSample payload => payloadOk payload
  | .gateSample payload => payloadOk payload
  | .feederSample slot payload => decide (slot < 6) && payloadOk payload
  | .sawSample payload => payloadOk payload
  | .readEntries src _ _ _ _ => sourceOk src
  | .writeEntries src _ _ _ _ values => sourceOk src && decide (values.length ≤ 58)
  | .readStatus src _ _ => sourceOk src
  | .readConditions src _ => sourceOk src
  | .acknowledge src _ _ => sourceOk src
  | .setNotices src _ _ => sourceOk src
  | .setPlantRunup src _ => sourceOk src
  | .setPlantStopped src _ => sourceOk src
  | .setPlantTripped src _ => sourceOk src
  | .setClock src _ _ _ => sourceOk src
  | .setTimeError src _ _ => sourceOk src
  | .circuitAdminOff src _ _ => sourceOk src
  | .circuitAdminOn src _ _ => sourceOk src
  | .releaseLockout src _ _ => sourceOk src
  | .clearEnergy src _ _ => sourceOk src
  | .journalFind src _ _ _ _ => sourceOk src
  | .journalRead src _ _ => sourceOk src
  | .restart src _ => sourceOk src
  | .unknownRequest src payload => sourceOk src && payloadOk payload && unknownPayload payload
  | .lineIdleBeforeComplete => true

end Sys2Proof
end

