-- ==== Sys2Proof/Certificates/Slice0/Obligations.lean ====
section
/-! DEFINITION. The statements about the model. A statement that names a raise, a journal entry or a slot
write uses the operation of the machine for it; what those operations do is stated by their own. -/

open Sys2Proof Sys2Proof.Machine Sys2Proof.Safety

/-! ## The step -/

/-- A step takes the command at the front of the queue and runs it with the queue's rest. The queue is the
model's form of "a step is one command". -/
def Obligations.StepRunsFrontCommand : Prop :=
  ∀ (c : Instr) (rest : List Instr) (s : State),
    step { s with pending := c :: rest } = exec c { s with pending := rest }

/-- On an empty queue one timebase count passes: the model's choice (assumption 1). The counter advances
modulo 2^24, and the tables and the inputs are as they were. At a count that ends no mill second, samples no
input and at which no timer runs out, every running timer loses one count, the divider gains one, and each
running interval counter, held in counts (assumption 10), gains one up to its cap; a waiting pulse record
whose start the counter reaches begins, and a delivered one whose end it reaches ends; the frame being sent,
or the gap after it, loses one count, and at its last the frame leaves; all else is as it was. A timer that
such a count starts loses nothing in it: where the loss timer runs out in RUN, the signal-loss and collapse
timers start with their whole length. Of every count: the count passes, and then what is due takes its
command's effect, in the order of assumption 5: each timer that has run out, the end and the start of a trim
pulse, the inputs at a whole multiple of 16, the interval counters, the mill second at the divider's
2,000,000th count, and the line, where the last count of a frame is FRAME_SENT and a count after the gap is
ARBITER_FRAME_START. Of a sampled input a sample equal to the filtered level ends the run, another lengthens
it, and the one that brings it to the filter length is accepted, with the time of the first sample of the
run. An accepted rise does what its command does; an accepted fall alters the filter alone. -/
def Obligations.IdleStepPassesOneCount : Prop :=
  ∀ s : State, s.pending = [] →
    let now : Count := s.edge.timebase + 1
    let less (x : Option Nat) : Option Nat := x.map fun n => n - 1
    let counted (x : Feeder) : Feeder := { x with interval := x.interval.map fun n => min 10000000 (n + 1) }
    let passed : State := { s with
      edge := { s.edge with
        timebase := now
        lossTimer := less s.edge.lossTimer, toothSilence := less s.edge.toothSilence }
      plant := { s.plant with
        signalLoss := less s.plant.signalLoss, collapse := less s.plant.collapse
        freqOverspeed := less s.plant.freqOverspeed }
      saw := { s.saw with
        reserve := less s.saw.reserve, settle := less s.saw.settle
        confirm := less s.saw.confirm, rundown := less s.saw.rundown }
      loop := { s.loop with silence := less s.loop.silence } }
    let start (f : InputFilter) : Count := if f.run = 0 then now else f.runStart
    let accepts (pin : Bool) (length : Nat) (f : InputFilter) : Bool :=
      pin != f.level && decide (length ≤ f.run + 1)
    let after (pin : Bool) (length : Nat) (f : InputFilter) : InputFilter :=
      if pin = f.level then { f with run := 0 }
      else if length ≤ f.run + 1 then ⟨pin, 0, start f⟩
      else ⟨f.level, f.run + 1, start f⟩
    let doing (due : Bool) (c : Instr) (x : State) : Host.Outcome State Fault Refusal :=
      if due then exec c x else .next x
    let first (stage : PulseStage) (x : State) : Option Pulse :=
      x.firing.pulses.find? fun p => p.stage == stage
    let work : List (State → Host.Outcome State Fault Refusal) := [
      fun x => doing (x.edge.lossTimer == some 0) .lossTimerExpiry x,
      fun x => doing (x.edge.toothSilence == some 0) .toothSilenceExpiry x,
      fun x => doing (x.plant.signalLoss == some 0) .signalLossTimerExpiry x,
      fun x => doing (x.plant.collapse == some 0) .collapseTimerExpiry x,
      fun x => doing (x.plant.freqOverspeed == some 0) .freqOverspeedTimerExpiry x,
      fun x => doing (x.saw.reserve == some 0) .reserveTimerExpiry x,
      fun x => doing (x.saw.settle == some 0) .sawSettleExpiry x,
      fun x => doing (x.saw.confirm == some 0) .clutchConfirmExpiry x,
      fun x => doing (x.saw.rundown == some 0) .rundownExpiry x,
      fun x => doing (x.loop.silence == some 0) .loopSilenceExpiry x,
      fun x => doing ((first .delivering x).any fun p => p.stop == now) .trimPulseEnd x,
      fun x => doing ((first .waiting x).any fun p => p.start == now) .trimPulseStart x,
      fun x => if now.toNat % 16 = 0 then
          doing (x.pins.xing && accepts x.pins.xing (x.setting Setting.CROSS_FILTER) x.edge.xing)
            (.acceptedRisingCrossingEdge (start x.edge.xing) (now - start x.edge.xing).toNat)
            { x with edge := { x.edge with
              xing := after x.pins.xing (x.setting Setting.CROSS_FILTER) x.edge.xing } }
        else .next x,
      fun x => if now.toNat % 16 = 0 then
          doing (x.pins.tooth && accepts x.pins.tooth (x.setting Setting.TOOTH_FILTER) x.edge.tooth)
            (.acceptedRisingToothEdge (start x.edge.tooth))
            { x with edge := { x.edge with
              tooth := after x.pins.tooth (x.setting Setting.TOOTH_FILTER) x.edge.tooth } }
        else .next x,
      fun x => .next { x with hamlet := { x.hamlet with feeders := x.hamlet.feeders.map counted } },
      fun x => if x.time.divider + 1 < 2000000 then
          .next { x with time := { x.time with divider := x.time.divider + 1 } }
        else exec .millSecond x,
      fun x => match x.loop.sending with
        | some f => if f.left ≤ 1 then exec .frameSent x
          else .next { x with loop := { x.loop with sending := some { f with left := f.left - 1 } } }
        | none => if x.loop.gap ≤ 1 then exec .arbiterFrameStart x
          else .next { x with loop := { x.loop with gap := x.loop.gap - 1 } }]
    ∃ t, step s = .next t ∧ work.foldl andThen (.next passed) = .next t ∧
      t.edge.timebase = now ∧ t.pending = [] ∧ t.tables = s.tables ∧ t.pins = s.pins ∧
      (now.toNat % 16 ≠ 0 → s.time.divider + 1 < 2000000 →
        ((∀ x ∈ [s.edge.lossTimer, s.edge.toothSilence, s.plant.signalLoss, s.plant.collapse,
            s.plant.freqOverspeed, s.saw.reserve, s.saw.settle, s.saw.confirm, s.saw.rundown,
            s.loop.silence], x ≠ some 0 ∧ x ≠ some 1) →
          t.edge = passed.edge ∧ t.plant = passed.plant ∧ t.saw = passed.saw ∧
          t.time = { s.time with divider := s.time.divider + 1 } ∧
          t.hamlet = { s.hamlet with feeders := s.hamlet.feeders.map counted } ∧
          KeptBut [.edge, .plant, .saw, .time, .hamlet, .firing, .loop] s t ∧
          ((∀ x ∈ s.firing.pulses, (x.stage = .delivering → x.stop ≠ now) ∧
            (x.stage = .waiting → x.start ≠ now)) → t.firing = s.firing) ∧
          (∀ (before rest : List Pulse) (b : Count),
            s.firing.pulses = before ++ ⟨now, b, .waiting⟩ :: rest →
            (∀ x ∈ before, x.stage = .delivering) →
            (∀ x ∈ before ++ rest, x.stage = .delivering → x.stop ≠ now) →
            t.firing = { s.firing with
              pulses := before ++ ⟨now, b, .delivering⟩ :: rest, trimGate := true }) ∧
          (∀ (before rest : List Pulse) (a : Count),
            s.firing.pulses = before ++ ⟨a, now, .delivering⟩ :: rest →
            (∀ x ∈ before ++ rest, x.stage = .waiting ∧ x.start ≠ now) →
            t.firing = { s.firing with pulses := before ++ rest, trimGate := false }) ∧
          t.loop.silence = less s.loop.silence ∧
          (∀ x, s.loop.sending = some x →
            (2 ≤ x.left → t.loop = { passed.loop with sending := some { x with left := x.left - 1 } }) ∧
            (x.left ≤ 1 → t.loop = { passed.loop with
              forward := if x.from_ = some .forward then s.loop.forward.drop 1 else s.loop.forward
              answers := if x.from_ = some .answers then s.loop.answers.drop 1 else s.loop.answers
              sending := none, gap := 240 })) ∧
          (s.loop.sending = none → 2 ≤ s.loop.gap →
            t.loop = { passed.loop with gap := s.loop.gap - 1 })) ∧
        (s.edge.lossTimer = some 1 → s.edge.signal = .present → s.plant.state = .run →
          s.plant.collapse = none → 1 ≤ s.setting Setting.SIGNAL_LOSS_TIME →
          1 ≤ s.setting Setting.COLLAPSE_TIME →
          t.edge.signal = .lost ∧ t.edge.lossTimer = none ∧
          t.plant = { s.plant with
            freqOverspeed := none
            signalLoss := some (s.setting Setting.SIGNAL_LOSS_TIME * 2000)
            collapse := some (s.setting Setting.COLLAPSE_TIME * 2000000) }))

/-! ## Reset -/

/-- COLD_RESET puts every block into its cold reset values, the Table Store's whole contents among them. The
levels at the pins, the model's draws and its queue are kept (assumption 17), and the time of a filter run's
first sample is 0, which the manual does not state (assumption 3). -/
def Obligations.ColdResetValues : Prop :=
  ∀ (straps : BitVec 6) (s : State), ∃ t, exec (.coldReset straps) s = .next t ∧
    t.plant = ⟨.stopped, .powerOn, 0, none, none, none, none, none⟩ ∧
    t.gov = ⟨0, 0, 0, .normal, none, false⟩ ∧
    t.firing = ⟨false, false, false, [], false, 0⟩ ∧
    t.edge = ⟨0, ⟨false, 0, 0⟩, ⟨false, 0, 0⟩, none, none, none, .lost, none, none, none, none, true,
      false, 0⟩ ∧
    t.time = ⟨0, 0, none, 0, .zero, false, false, false⟩ ∧
    t.water = ⟨none, none, none, 0, none, none, 0, 0, none, 0, none, none, false, false⟩ ∧
    t.hamlet.entries = List.replicate 48 ⟨false, 0, 0, 0, 0, 0, .absent, 0, 0, none, none, 0,
      .unknown, 0, 0, 0⟩ ∧
    t.hamlet.feeders = List.replicate 6 ⟨none, false, none⟩ ∧
    t.shed = ⟨[], none, 0, none⟩ ∧
    t.saw = ⟨.idle, none, none, none, none, none, none, false, false, ⟨.release, 0, .dark, 0, .none⟩,
      .unknown, .unknown, none, false⟩ ∧
    t.conds = List.replicate 25 ⟨false, false, false, none⟩ ∧
    t.journal = ⟨[], 1⟩ ∧
    t.tables = {
      nodeMap := ⟨List.replicate 9 0, List.replicate 9 false⟩
      settings := ⟨[50, 12, 4, 60, 1739, 1000, 512, 64, 768, 96, 16000, 400, 200, 200, 64, 20, 250, 25, 50,
        120, 180, 7500, 300, 2, 4000, 5000, 2, 300, 10, 3, 3, 60, 120, 10, 10, 20, 150, 400, 1200, 2600,
        200, 40, 256, 3072, 15, 6000, 2, 60, 5, 10, 60, 3, 30, 8, 0, 200, 6], List.replicate 57 false⟩
      firingMap := ⟨List.replicate 65 0, List.replicate 65 false⟩
      weir := ⟨List.replicate 33 0, List.replicate 33 false⟩
      pondCurve := ⟨List.replicate 17 0, List.replicate 17 false⟩
      feedCurve := ⟨List.replicate 17 0, List.replicate 17 false⟩
      windows := [(1080, 1380), (1380, 360), (480, 1020)]
      windowMarks := List.replicate 3 false
      circuitMarks := List.replicate 48 false } ∧
    t.loop = ⟨if straps.toNat = 0 ∨ straps.toNat = 63 then 1 else straps.toNat, .waiting, [], [], false,
      List.replicate 8 ⟨none, false⟩, .answers, 7, none, 0, some 400000, false⟩ ∧
    t.pins = s.pins ∧ t.draws = s.draws ∧ t.pending = s.pending

/-- Every law that the next statements call kept by each step holds right after reset. -/
def Obligations.ResetMeetsEveryLaw : Prop :=
  demandLaw .reset = true ∧ timerLaw .reset = true ∧ gateLaw .reset = true ∧
    settingsLaw .reset = true ∧ nodeMapLaw .reset = true ∧ shedLaw .reset = true ∧
    sawLaw .reset = true ∧ firingLaw .reset = true ∧ timeLaw .reset = true ∧
    journalLaw .reset = true ∧ loopLaw .reset = true ∧ signalLaw .reset = true ∧
    toothLaw .reset = true

/-! ## The laws that every step keeps -/

/-- The demand stays within 0..4096, is 0 in STOPPED and 4096 in TRIPPED, and the flag is clear there. -/
def Obligations.StepKeepsDemandLaw : Prop :=
  ∀ s t : State, demandLaw s = true → step s = .next t → demandLaw t = true

/-- Each protection timer runs in its own plant states only, the time error stays in its range, and no
correction stands outside RUN. A frequency is present exactly while the signal is, which its loss timer then
watches. The tooth silence timer runs exactly while the tooth input is not marked silent, and a silent input
has no tooth period. -/
def Obligations.StepKeepsTimerAndTimeLaw : Prop :=
  ∀ s t : State, step s = .next t →
    (timerLaw s = true → timerLaw t = true) ∧ (timeLaw s = true → timeLaw t = true) ∧
      (signalLaw s = true → signalLaw t = true) ∧ (toothLaw s = true → toothLaw t = true)

/-- The gate target obeys its law while the settings lie in their ranges. -/
def Obligations.StepKeepsGateLaw : Prop :=
  ∀ s t : State, gateLaw s = true → settingsLaw s = true → step s = .next t → gateLaw t = true

/-- Every setting stays in its range and every pair in order. -/
def Obligations.StepKeepsSettingsLaw : Prop :=
  ∀ s t : State, settingsLaw s = true → step s = .next t → settingsLaw t = true

/-- No two roles come to hold one non-zero address, and none the own address. -/
def Obligations.StepKeepsNodeMapLaw : Prop :=
  ∀ s t : State, nodeMapLaw s = true → step s = .next t → nodeMapLaw t = true

/-- A circuit is SHED exactly when it is listed, once, no strike count passes 9, and outside RUN nothing is
listed or supplied. -/
def Obligations.StepKeepsShedLaw : Prop :=
  ∀ s t : State, shedLaw s = true → step s = .next t → shedLaw t = true

/-- The clutch is ordered ENGAGE only in ENGAGING, RUNNING and STOPPING before the release, a grant and a
feed exist only in RUNNING, and the saw leaves IDLE only with the plant in RUN. -/
def Obligations.StepKeepsSawLaw : Prop :=
  ∀ s t : State, sawLaw s = true → step s = .next t → sawLaw t = true

/-- There are at most two trim pulse records, and the gate is HIGH exactly while one is delivered. -/
def Obligations.StepKeepsFiringLaw : Prop :=
  ∀ s t : State, firingLaw s = true → step s = .next t → firingLaw t = true

/-- The journal stays within 128 entries of consecutive sequence numbers. -/
def Obligations.StepKeepsJournalLaw : Prop :=
  ∀ s t : State, journalLaw s = true → step s = .next t → journalLaw t = true

/-- The forward buffer and the answer queue stay within their capacities. -/
def Obligations.StepKeepsLoopLaw : Prop :=
  ∀ s t : State, loopLaw s = true → step s = .next t → loopLaw t = true

/-! ## Frames -/

/-- A frame that is built passes the check of an arrival, and reads back as it was built. -/
def Obligations.BuiltFramePassesCheck : Prop :=
  ∀ (dst src kind : Nat) (payload : List Byte),
    dst ≤ 63 → 1 ≤ src → src ≤ 62 → kind ≤ 255 → payload.length ≤ 64 →
    let f := buildFrame dst src kind payload
    frameOk f = true ∧ crc f = 0 ∧ frameDst f = dst ∧ frameSrc f = src ∧ frameKind f = kind ∧
      framePayload f = payload ∧ f.length = payload.length + 6

/-- The arrival of the REQUEST frame that carries a request command does what the command does, after the
arrival's own effect on the loop silence: no parameter of Table 10-3 is lost or misplaced. That the arrival
restarts its timer first is the model's choice (assumption 26). Bytes after the parameters that the command
needs are ignored; those of WRITE ENTRIES stand in its own statement. A REQUEST of a known code that carries
no command, with a place in the answer queue: parameters shorter than the code needs are BAD_VALUE; a target
of RUN or STOPPING is WRONG_STATE and one above 4 BAD_VALUE, and every answer to SET PLANT carries state and
cause; an action of CIRCUIT ADMIN above 3 is BAD_VALUE, after the check of the index. None of these changes
anything but the answer queue. With the queue full any REQUEST is discarded with LOOP_OVERRUN. That a WRITE
ENTRIES without its three-byte header is BAD_VALUE, and a SET PLANT with no target carries state and cause,
is the model's reading (assumption 15). -/
def Obligations.FrameCarriesRequest : Prop :=
  (∀ (i : Instr) (src : Byte) (payload f : List Byte) (s : State),
    i.wf = true → i.request = some (src, payload) → i.requestFrame s.loop.ownAddress = some f →
    1 ≤ s.loop.ownAddress → s.loop.ownAddress ≤ 62 → src.toNat ≠ s.loop.ownAddress →
    exec (.frameArrival f false) s = exec i (arrival .afterFrame s)) ∧
  (∀ (src : Byte) (tag : Word16) (extra : List Byte) (s : State),
    1 ≤ src.toNat → src.toNat ≤ 62 → src.toNat ≠ s.loop.ownAddress →
    1 ≤ s.loop.ownAddress → s.loop.ownAddress ≤ 62 →
    let a := arrival .afterFrame s
    let arrives (payload : List Byte) : Host.Outcome State Fault Refusal :=
      exec (.frameArrival (buildFrame s.loop.ownAddress src.toNat 0x30 payload) false) s
    let request (code : Nat) (params : List Byte) : List Byte :=
      [byteOf code] ++ be16 tag.toNat ++ params
    let answers (code : Nat) (params : List Byte) (o : ReqOutcome) (data : List Byte) : Prop :=
      arrives (request code params) = .next (answered src tag code o data a)
    let now := [byteOf s.plant.state.code, byteOf s.plant.cause.code]
    let needs (code : Nat) : Nat := [0, 3, 3, 1, 0, 4, 4, 1, 6, 2, 2, 6, 4, 0].getD code 0
    (∀ (i : Instr) (payload : List Byte), i.wf = true → i.request = some (src, payload) →
      payload.head? ≠ some 2 → 3 ≤ payload.length → (payload ++ extra).length ≤ 64 →
      arrives (payload ++ extra) = exec i a) ∧
    (extra.length ≤ 64 → s.answerRoom = false → arrives extra = .next (raise .loopOverrun none a)) ∧
    (s.answerRoom = true →
      (∀ code : Nat, 1 ≤ code → code ≤ 13 → extra.length < needs code →
        answers code extra .badValue (if code = 7 then now else [])) ∧
      (∀ target : Byte, extra.length ≤ 60 →
        ((target = 2 ∨ target = 3) → answers 7 ([target] ++ extra) .wrongState now) ∧
        (4 < target.toNat → answers 7 ([target] ++ extra) .badValue now)) ∧
      (∀ i action : Byte, extra.length ≤ 59 → 3 < action.toNat →
        ((47 < i.toNat ∨ (s.circuit i.toNat).state = .absent) →
          answers 10 ([i, action] ++ extra) .outOfRange []) ∧
        (i.toNat ≤ 47 → (s.circuit i.toNat).state ≠ .absent →
          answers 10 ([i, action] ++ extra) .badValue []))))

/-- What an arrival does by itself: the loop silence timer restarts, the mark clears, and a set mark's
cause ends. A failed frame, a fragment and an incomplete frame do this and raise LOOP_CHECK. The timer's
expiry sets the mark, stops the timer and raises LOOP_BROKEN. That frames, fragments and incomplete
frames are whole commands is the model's choice (assumption 17), and that an expiry command asserts its
moment too (assumption 4). -/
def Obligations.ArrivalsAndLoopSilence : Prop :=
  ∀ (s : State) (bytes : List Byte) (low : Bool),
    (∀ r : Receive, arrival r s =
      (let s1 := { s with loop := { s.loop with
        receive := r, silence := some (s.setting 55 * 2000), broken := false } }
       if s.loop.broken then causeEnd .loopBroken s1 else s1)) ∧
    (frameOk bytes = false ∨ low = true →
      exec (.frameArrival bytes low) s = .next (raise .loopCheck none (arrival .afterFrame s))) ∧
    exec .fragmentDiscard s = .next (raise .loopCheck none (arrival .waiting s)) ∧
    exec .lineIdleBeforeComplete s = .next (raise .loopCheck none (arrival .waiting s)) ∧
    (∀ n, s.loop.silence = some n → exec .loopSilenceExpiry s = .next
      (raise .loopBroken none { s with loop := { s.loop with silence := none, broken := true } })) ∧
    (s.loop.silence = none → exec .loopSilenceExpiry s = .next s)

/-- A frame that passes its check: one of the own address as source is removed; one for the part of a kind
other than REQUEST is discarded; any other that is not a broadcast sample is forwarded, or discarded with
LOOP_OVERRUN where four frames are held; a broadcast sample of a source that no role has is forwarded. -/
def Obligations.FrameForwarding : Prop :=
  ∀ (f : List Byte) (s : State), frameOk f = true →
    let a := arrival .afterFrame s
    (frameSrc f = s.loop.ownAddress → exec (.frameArrival f false) s = .next a) ∧
    (frameSrc f ≠ s.loop.ownAddress → frameDst f = s.loop.ownAddress → frameKind f ≠ 0x30 →
      exec (.frameArrival f false) s = .next a) ∧
    (frameSrc f ≠ s.loop.ownAddress → frameDst f ≠ s.loop.ownAddress →
      (frameDst f ≠ 63 ∨ frameKind f ≠ 0x10 ∨ (∀ r < 9, s.address r ≠ frameSrc f)) →
      (s.loop.forward.length < 4 → exec (.frameArrival f false) s = .next
        { a with loop := { a.loop with forward := s.loop.forward ++ [f] } }) ∧
      (4 ≤ s.loop.forward.length →
        exec (.frameArrival f false) s = .next (raise .loopOverrun none a)))

/-- A broadcast sample of a mapped node is handed to the block of its role, and then forwarded. -/
def Obligations.SampleDispatch : Prop :=
  ∀ (f : List Byte) (r : Nat) (s : State), frameOk f = true → nodeMapLaw s = true →
    frameDst f = 63 → frameKind f = 0x10 → r < 9 → s.address r = frameSrc f →
    ∃ u, exec (if r = 0 then .pondSample (framePayload f) else if r = 1 then .gateSample (framePayload f)
        else if r = 2 then .sawSample (framePayload f) else .feederSample (r - 3) (framePayload f))
        (arrival .afterFrame s) = .next u ∧
      exec (.frameArrival f false) s = .next (if u.loop.forward.length < 4 then
        { u with loop := { u.loop with forward := u.loop.forward ++ [f] } }
        else raise .loopOverrun none u)

/-- The arbiter serves the next waiting source after the one served last, in the cycle forward buffer,
command slots, answer queue: a source that does not wait is passed over, and where none waits nothing
starts. Of the slots it serves the next pending one of a mapped role after the slot served last. A frame that
is sent frees its place and leaves a gap of 240 counts. That the start command asserts the idle gap has passed
is the model's choice (assumption 4). -/
def Obligations.OutputArbiter : Prop :=
  ∀ (s : State),
    let ready (k : Nat) : Prop :=
      (s.loop.slots.getD k ⟨none, false⟩).pending = true ∧ s.address (k + 1) ≠ 0
    let noSlot : Prop := ∀ k < 8, ¬ready k
    (∀ f rest, s.loop.sending = none → s.loop.forward = f :: rest →
      (s.loop.lastSource = .answers ∨ (s.loop.lastSource = .slots ∧ s.loop.answers = []) ∨
        (s.loop.lastSource = .forward ∧ noSlot ∧ s.loop.answers = [])) →
      exec .arbiterFrameStart s = .next { s with loop := { s.loop with
        sending := some ⟨f, some .forward, 80 * f.length⟩, lastSource := .forward, gap := 0 } }) ∧
    (∀ f rest, s.loop.sending = none → s.loop.answers = f :: rest →
      (s.loop.lastSource = .slots ∨ (s.loop.lastSource = .forward ∧ noSlot) ∨
        (s.loop.lastSource = .answers ∧ s.loop.forward = [] ∧ noSlot)) →
      exec .arbiterFrameStart s = .next { s with loop := { s.loop with
        sending := some ⟨f, some .answers, 80 * f.length⟩, lastSource := .answers, gap := 0 } }) ∧
    (∀ i o, s.loop.sending = none → i < 8 → s.loop.lastSlot < 8 →
      (s.loop.lastSource = .forward ∨ (s.loop.lastSource = .answers ∧ s.loop.forward = []) ∨
        (s.loop.lastSource = .slots ∧ s.loop.answers = [] ∧ s.loop.forward = [])) →
      s.loop.slots[i]? = some ⟨some o, true⟩ → s.address (i + 1) ≠ 0 →
      (∀ k < 8, (k + 7 - s.loop.lastSlot) % 8 < (i + 7 - s.loop.lastSlot) % 8 → ¬ready k) →
      exec .arbiterFrameStart s = .next { s with loop := { s.loop with
        slots := s.loop.slots.set i ⟨some o, false⟩
        sending := some ⟨buildFrame (s.address (i + 1)) s.loop.ownAddress 0x20 o.payload, some .slots,
          80 * (o.payload.length + 6)⟩
        lastSource := .slots, lastSlot := i, gap := 0 } }) ∧
    (s.loop.sending = none → s.loop.forward = [] → s.loop.answers = [] → noSlot →
      exec .arbiterFrameStart s = .next s) ∧
    (s.loop.sending.isSome → exec .arbiterFrameStart s = .next s) ∧
    (∀ x, s.loop.sending = some x → exec .frameSent s = .next { s with loop := { s.loop with
      forward := if x.from_ = some .forward then s.loop.forward.drop 1 else s.loop.forward
      answers := if x.from_ = some .answers then s.loop.answers.drop 1 else s.loop.answers
      sending := none, gap := 240 } }) ∧
    (s.loop.sending = none → exec .frameSent s = .next s)

/-! ## Crossings and the demand update -/

/-- A short edge is discarded; a gap edge sets `t_prev`, restarts the loss timer, which runs from the edge's
own time, removes every trim pulse record and clears the acceptance count in RUNUP. The filtered level is
HIGH after either. A falling edge alters the filtered level of its input and nothing else. While LOST, an
edge is taken as a valid period only from a gap edge whose loss timer still runs, which is the model's
reading (assumption 9). -/
def Obligations.EdgesWithoutPeriod : Prop :=
  ∀ (t : Count) (lag : Nat) (s : State),
    (∀ prev, s.edge.signal = .present → s.edge.tPrev = some prev → (t - prev).toNat < 30770 →
      exec (.acceptedRisingCrossingEdge t lag) s = .next
        { s with edge := { s.edge with xing := { s.edge.xing with level := true, run := 0 } } }) ∧
    ((s.edge.tPrev = none ∨ (s.edge.signal = .lost ∧ s.edge.lossTimer = none) ∨
        (∃ prev, s.edge.tPrev = some prev ∧ 57142 < (t - prev).toNat) ∨
        (∃ prev, s.edge.signal = .lost ∧ s.edge.tPrev = some prev ∧ (t - prev).toNat < 30770)) →
      exec (.acceptedRisingCrossingEdge t lag) s = .next
        { s with
          edge := { s.edge with
            xing := { s.edge.xing with level := true, run := 0 }
            tPrev := some t
            lossTimer := some (200000 - lag) }
          firing := { s.firing with pulses := [], trimGate := false, scheduled := 0 }
          plant := { s.plant with
            accept := if s.plant.state = .runup then 0 else s.plant.accept } }) ∧
    exec (.acceptedFallingEdge .xing) s = .next
      { s with edge := { s.edge with xing := { s.edge.xing with level := false, run := 0 } } } ∧
    exec (.acceptedFallingEdge .tooth) s = .next
      { s with edge := { s.edge with tooth := { s.edge.tooth with level := false, run := 0 } } }

/-- An accepted valid period sets P, the frequency and t_prev, restarts the loss timer from the edge's own
time, makes the signal PRESENT, counts a cycle, and lets a pending gain set become active; in RUN it adds the
new demand to the demand sum. The Plant State Controller counts the acceptance in RUNUP, entering RUN at
RUNUP_ACCEPT, and starts, keeps or stops its frequency-overspeed and collapse timers. At the entry to PRESENT
with a silent tooth input SHAFT_SENSOR is raised, and then TIME_ERROR_LIMIT is raised at a limit of the time
error and its cause ends inside the range. These raises, with the GAIN entry of a switch and the SAW entry of
a reservation that becomes ENGAGING, are the whole record where the plant is not in RUN after the period; in
RUN they are it where nothing is shed or restored. That they come in this order, before the plant and the
Governor take the period, is the model's choice (assumption 5). -/
def Obligations.ValidPeriod : Prop :=
  ∀ (t : Count) (lag p : Nat) (s : State), ValidEdge t p s →
    let f : Int := (2000000000 / p : Nat)
    let fast := if s.nominal + s.setting Setting.FREQ_OVERSPEED < f then
      some (s.plant.freqOverspeed.getD 2000000) else none
    let slow := if f < s.nominal - s.setting Setting.COLLAPSE_DROP then
      some (s.plant.collapse.getD (s.setting Setting.COLLAPSE_TIME * 2000000)) else none
    let inBand := s.nominal - 1000 ≤ f ∧ f ≤ s.nominal + 1000
    ∃ u, exec (.acceptedRisingCrossingEdge t lag) s = .next u ∧
      u.edge = { s.edge with
        xing := { s.edge.xing with level := true, run := 0 }
        tPrev := some t
        period := some p
        freq := some (2000000000 / p)
        lossTimer := some (200000 - lag)
        signal := .present
        shaftCause := s.edge.shaftCause || (s.edge.signal == .lost && s.edge.toothSilent) } ∧
      u.time = { s.time with te := max (-30000) (min 30000 (s.time.te + 1)) } ∧
      u.gov.active = s.gov.pendingSet.getD s.gov.active ∧
      (s.plant.state = .run → u.water = { s.water with
        demandSum := s.water.demandSum + u.gov.d
        demandCount := s.water.demandCount + 1 }) ∧
      (s.plant.state ≠ .runup → u.plant = { s.plant with
        signalLoss := if s.edge.signal = .lost then none else s.plant.signalLoss
        freqOverspeed := if s.plant.state = .tripped then s.plant.freqOverspeed else fast
        collapse := if s.plant.state = .run then slow else s.plant.collapse }) ∧
      (s.plant.state = .runup → u.plant.freqOverspeed = fast ∧
        (¬inBand → u.plant.state = .runup ∧ u.plant.accept = 0) ∧
        (inBand → s.plant.accept + 1 < s.setting Setting.RUNUP_ACCEPT →
          u.plant.state = .runup ∧ u.plant.accept = s.plant.accept + 1) ∧
        (inBand → s.setting Setting.RUNUP_ACCEPT ≤ s.plant.accept + 1 →
          u.plant.state = .run ∧ u.plant.cause = .runupDone ∧
            u.plant.accept = s.plant.accept + 1 ∧ u.plant.runupTimer = none)) ∧
      u.cond .timeErrorLimit = (periodRecord s).cond .timeErrorLimit ∧
      u.cond .shaftSensor = (periodRecord s).cond .shaftSensor ∧
      (s.plant.state ≠ .run → u.plant.state ≠ .run →
        SameRecord (if s.saw.state = .reserving ∧ s.setting Setting.SAW_RESERVE_W ≤
          u.gov.d * s.setting Setting.BALLAST_W / 4096 then sawNoted 2 (periodRecord s)
          else periodRecord s) u) ∧
      (s.plant.state = .run → s.saw.state ≠ .reserving → s.shed.list = [] →
        s.nominal - s.setting Setting.EMERGENCY_DROP ≤ f → s.shed.shedTimer = none →
        1 ≤ s.setting Setting.SHED_DELAY → SameRecord (periodRecord s) u) ∧
      u.draws = s.draws + 1 ∧ u.tables = s.tables ∧ u.pins = s.pins ∧ u.pending = s.pending

/-- The PI law at a demand update with the engaged flag set, in its four steps: with the gains of the set
active after any switch, from the clamped error; and the bounds that the rule gives for `N` and the
residue. -/
def Obligations.PiLaw : Prop :=
  ∀ (t : Count) (lag p : Nat) (s : State), ValidEdge t p s → s.gov.engaged = true →
    let kp : Int := match s.gov.pendingSet.getD s.gov.active with
      | .normal => s.setting Setting.KP_NORMAL
      | .saw => s.setting Setting.KP_SAW
    let ki : Int := match s.gov.pendingSet.getD s.gov.active with
      | .normal => s.setting Setting.KI_NORMAL
      | .saw => s.setting Setting.KI_SAW
    let e : Int := max (-5000) (min 5000 ((2000000000 / p : Nat) - s.fSet))
    let n : Int := kp * (e - s.gov.ePrev) + ki * e + s.gov.residue
    let d' : Int := s.gov.d + n / 256
    ∃ u, exec (.acceptedRisingCrossingEdge t lag) s = .next u ∧
      u.gov.ePrev = e ∧ u.gov.engaged = true ∧
      (d' < 0 → u.gov.d = 0 ∧ u.gov.residue = 0) ∧
      (4096 < d' → u.gov.d = 4096 ∧ u.gov.residue = 0) ∧
      (0 ≤ d' → d' ≤ 4096 → (u.gov.d : Int) = d' ∧ (u.gov.residue : Int) = n - 256 * (n / 256)) ∧
      0 ≤ n - 256 * (n / 256) ∧ n - 256 * (n / 256) ≤ 255 ∧
      (kp ≤ 4095 → ki ≤ 4095 → -5000 ≤ s.gov.ePrev → s.gov.ePrev ≤ 5000 → s.gov.residue ≤ 255 →
        -61425255 ≤ n ∧ n ≤ 61425255)

/-- With the engaged flag clear: in RUNUP it is set at a frequency of at least nominal less 1,000 mHz, in
RUN and STOPPING at once, in STOPPED and TRIPPED never; while it stays clear the demand is kept. At the
update that sets it the law starts from the present error: `e_prev` is `e` and the residue 0, so `N` is
`Ki` times `e`, with the gain of the set active after any switch. -/
def Obligations.Engagement : Prop :=
  ∀ (t : Count) (lag p : Nat) (s : State), ValidEdge t p s → s.gov.engaged = false →
    let f : Int := (2000000000 / p : Nat)
    let ki : Int := match s.gov.pendingSet.getD s.gov.active with
      | .normal => s.setting Setting.KI_NORMAL
      | .saw => s.setting Setting.KI_SAW
    let e : Int := max (-5000) (min 5000 (f - s.fSet))
    let n : Int := ki * e
    let d' : Int := s.gov.d + n / 256
    ∃ u, exec (.acceptedRisingCrossingEdge t lag) s = .next u ∧
      (s.plant.state = .runup → (u.gov.engaged = true ↔ s.nominal - 1000 ≤ f)) ∧
      (s.plant.state = .run ∨ s.plant.state = .stopping → u.gov.engaged = true) ∧
      (s.plant.state = .stopped ∨ s.plant.state = .tripped → u.gov.engaged = false) ∧
      (u.gov.engaged = false → u.gov.d = s.gov.d) ∧
      (u.gov.engaged = true → u.gov.ePrev = e ∧
        (d' < 0 → u.gov.d = 0 ∧ u.gov.residue = 0) ∧
        (4096 < d' → u.gov.d = 4096 ∧ u.gov.residue = 0) ∧
        (0 ≤ d' → d' ≤ 4096 → (u.gov.d : Int) = d' ∧ (u.gov.residue : Int) = n - 256 * (n / 256)))

/-- The split of the new demand into step banks and the trim pulses of the cycle, with the three guards in
their order; a pulse whose start is past when it is made begins at once, one whose end is past is not
delivered. That the command carries its acceptance lag is the model's choice (assumption 8). That a demand
of 0 gives no pulse, whatever entry 0 of the map holds, is its reading of the rules (assumption 20). -/
def Obligations.BallastFiring : Prop :=
  ∀ (t : Count) (lag p : Nat) (s : State), ValidEdge t p s → lag ≤ 1008 →
    ∃ u, exec (.acceptedRisingCrossingEdge t lag) s = .next u ∧
      let steps := min 3 (u.gov.d / 1024)
      let c := s.conduction (u.gov.d - 1024 * steps)
      let h := p / 2
      let o := max ((4096 - c) * h / 4096) (s.setting Setting.EARLY_GUARD)
      let w := s.setting Setting.TRIM_PULSE
      let second : Pulse :=
        ⟨t + BitVec.ofNat 24 (h + o), t + BitVec.ofNat 24 (h + o + w), .waiting⟩
      u.firing.step1 = decide (1 ≤ steps) ∧ u.firing.step2 = decide (2 ≤ steps) ∧
        u.firing.step3 = decide (3 ≤ steps) ∧
        (u.gov.d = 0 ∨ c ≤ s.setting Setting.MIN_CONDUCTION ∨ h < o + w + s.setting Setting.END_GUARD →
          u.firing.pulses = [] ∧ u.firing.scheduled = 0 ∧ u.firing.trimGate = false) ∧
        (u.gov.d ≠ 0 → s.setting Setting.MIN_CONDUCTION < c → o + w + s.setting Setting.END_GUARD ≤ h →
          u.firing.scheduled = 2 ∧
          (lag < o → u.firing.trimGate = false ∧ u.firing.pulses =
            [⟨t + BitVec.ofNat 24 o, t + BitVec.ofNat 24 (o + w), .waiting⟩, second]) ∧
          (o ≤ lag → lag < o + w → u.firing.trimGate = true ∧ u.firing.pulses =
            [⟨t + BitVec.ofNat 24 o, t + BitVec.ofNat 24 (o + w), .delivering⟩, second]) ∧
          (o + w ≤ lag → u.firing.trimGate = false ∧ u.firing.pulses = [second]))

/-- The loss timer's expiry: nothing but the timer while LOST; else the signal is LOST, the frequency
absent, the trim pulses removed, the overspeed timer stopped, and in RUN the signal-loss and collapse
timers run. The case of STOPPING is that of a stop not yet complete. That an expiry command asserts its
moment is the model's choice (assumption 4). -/
def Obligations.LossTimerExpiry : Prop :=
  ∀ s : State,
    (s.edge.signal = .lost →
      exec .lossTimerExpiry s = .next { s with edge := { s.edge with lossTimer := none } }) ∧
    (s.edge.signal = .present →
      (s.plant.state ≠ .stopping ∨ ∀ g, s.water.gatePos = some g → 5 < g) →
      exec .lossTimerExpiry s = .next
        { s with
          edge := { s.edge with lossTimer := none, signal := .lost, freq := none }
          firing := { s.firing with pulses := [], trimGate := false, scheduled := 0 }
          plant := { s.plant with
            freqOverspeed := none
            accept := if s.plant.state = .runup then 0 else s.plant.accept
            signalLoss := if s.plant.state = .run then some (s.setting 5 * 2000)
              else s.plant.signalLoss
            collapse := if s.plant.state = .run then
              some (s.plant.collapse.getD (s.setting 26 * 2000000)) else s.plant.collapse } })

/-- A tooth edge that gives no period, after silence or as the first; one that gives a period and leaves the
overspeed count below 3; and one that leaves it at 3, which trips the plant. The tooth silence timer's expiry
marks the input silent; with the signal PRESENT it raises SHAFT_SENSOR and its cause begins. That an expiry
command asserts its moment is the model's choice (assumption 4), and that the silence runs from the
acceptance of the edge its reading (assumption 25). -/
def Obligations.ToothInput : Prop :=
  ∀ (t : Count) (s : State),
    let e1 : EdgeCapture := { s.edge with
      tooth := { s.edge.tooth with level := true, run := 0 }
      lastTooth := some t, toothSilence := some 1000000, toothSilent := false, shaftCause := false }
    let base : State := if s.edge.shaftCause then causeEnd .shaftSensor s else s
    let e2 : EdgeCapture :=
      { s.edge with toothSilence := none, toothSilent := true, toothPeriod := none }
    (s.edge.toothSilent = true ∨ s.edge.lastTooth = none →
      exec (.acceptedRisingToothEdge t) s = .next { base with edge := { e1 with overspeed := 0 } }) ∧
    (∀ prev, s.edge.toothSilent = false → s.edge.lastTooth = some prev →
      let p := (t - prev).toNat
      let n := if p < s.setting 4 then min 3 (s.edge.overspeed + 1) else 0
      let after : State := { base with edge := { e1 with toothPeriod := some p, overspeed := n } }
      (n < 3 → exec (.acceptedRisingToothEdge t) s = .next after) ∧
      (n = 3 → s.plant.state = .tripped → exec (.acceptedRisingToothEdge t) s = .next after) ∧
      (n = 3 → s.plant.state ≠ .tripped →
        ∃ u, exec (.acceptedRisingToothEdge t) s = .next u ∧ Tripped .overspeed .overspeed after u)) ∧
    (s.edge.toothSilence.isSome → s.edge.signal = .lost →
      exec .toothSilenceExpiry s = .next { s with edge := e2 }) ∧
    (s.edge.toothSilence.isSome → s.edge.signal = .present → exec .toothSilenceExpiry s = .next
      (raise .shaftSensor none { s with edge := { e2 with shaftCause := true } })) ∧
    (s.edge.toothSilence = none → exec .toothSilenceExpiry s = .next s)

/-! ## Mill time -/

/-- The mill second: count, divider, day clock with its roll, the charge of the time error, the direction of
the correction, the windows at a whole minute, and the second-based timers of the other blocks: silence,
run-up, stop, evaluation, reclose and grant. TIME_ERROR_LIMIT is raised at a limit of the time error, and its
cause ends inside the range; where no second-based timer comes to its end, that is the whole record, after
the entries of a SAW window that closes. That the Mill Time Unit acts first is the model's choice (assumption
5). -/
def Obligations.MillSecond : Prop :=
  ∀ s : State, ∃ t, exec .millSecond s = .next t ∧
    t.time.count = s.time.count + 1 ∧ t.time.divider = 0 ∧
    t.time.te = max (-30000) (min 30000 (s.time.te - s.setting Setting.NOMINAL_HZ)) ∧
    (s.time.clock = none → t.time.clock = none) ∧
    (∀ d, s.time.clock = some ⟨d, 86399⟩ → t.time.clock = some ⟨d + 1, 0⟩) ∧
    (∀ d x, s.time.clock = some ⟨d, x⟩ → x < 86399 → t.time.clock = some ⟨d, x + 1⟩) ∧
    t.time.direction = (if t.plant.state = .run then
      if (s.setting Setting.CORR_START : Int) ≤ t.time.te then .minus
      else if t.time.te ≤ -(s.setting Setting.CORR_START : Int) then .plus
      else if -(s.setting Setting.CORR_STOP : Int) ≤ t.time.te ∧
          t.time.te ≤ (s.setting Setting.CORR_STOP : Int) then .zero
      else s.time.direction
      else .zero) ∧
    (∀ c, t.time.clock = some c → c.sec % 60 = 0 →
      t.time.eveningOpen = inWindow (s.tables.windows.getD 0 (0, 0)) (c.sec / 60) ∧
      t.time.nightOpen = inWindow (s.tables.windows.getD 1 (0, 0)) (c.sec / 60) ∧
      t.time.sawOpen = inWindow (s.tables.windows.getD 2 (0, 0)) (c.sec / 60)) ∧
    ((t.time.clock.map fun c => c.sec % 60) ≠ some 0 → t.time.eveningOpen = s.time.eveningOpen ∧
      t.time.nightOpen = s.time.nightOpen ∧ t.time.sawOpen = s.time.sawOpen) ∧
    (let limit := s.setting Setting.NODE_SILENCE_S
     (t.water.pondSilence, t.water.pondSilent) = (match s.water.pondSilence with
       | none => (none, s.water.pondSilent)
       | some n => if limit ≤ n + 1 then (none, true) else (some (n + 1), s.water.pondSilent)) ∧
     (t.water.gateSilence, t.water.gateSilent) = (match s.water.gateSilence with
       | none => (none, s.water.gateSilent)
       | some n => if limit ≤ n + 1 then (none, true) else (some (n + 1), s.water.gateSilent)) ∧
     (t.saw.silence, t.saw.silent) = (match s.saw.silence with
       | none => (none, s.saw.silent)
       | some n => if limit ≤ n + 1 then (none, true) else (some (n + 1), s.saw.silent)) ∧
     (s.hamlet.feeders.length = 6 → ∀ k < 6, t.feeder k = (match (s.feeder k).silence with
       | none => s.feeder k
       | some n => if limit ≤ n + 1 then ⟨none, true, none⟩
         else { s.feeder k with silence := some (n + 1) }))) ∧
    (∀ n, s.plant.runupTimer = some n → s.plant.state = .runup →
      (n + 1 < s.setting Setting.RUNUP_TIMEOUT → t.plant = { s.plant with runupTimer := some (n + 1) }) ∧
      (s.setting Setting.RUNUP_TIMEOUT ≤ n + 1 →
        t.plant = ⟨.tripped, .runupTimeout, 0, none, none, none, none, none⟩)) ∧
    (∀ n, s.plant.stopTimer = some n → s.plant.state = .stopping →
      (n + 1 < s.setting Setting.STOP_TIMEOUT → t.plant = { s.plant with stopTimer := some (n + 1) }) ∧
      (s.setting Setting.STOP_TIMEOUT ≤ n + 1 →
        t.plant.state = .stopped ∧ t.plant.cause = .stopTimeout ∧ t.plant.stopTimer = none)) ∧
    (∀ n, s.water.evalTimer = some n → s.plant.state = .run →
      (n + 1 < s.setting Setting.GATE_INTERVAL → t.plant = s.plant ∧
        t.water.evalTimer = some (n + 1) ∧ t.water.gate = s.water.gate ∧
        t.water.shortage = s.water.shortage ∧ t.water.demandSum = s.water.demandSum ∧
        t.water.demandCount = s.water.demandCount) ∧
      (s.setting Setting.GATE_INTERVAL ≤ n + 1 → t.water.demandSum = 0 ∧ t.water.demandCount = 0 ∧
        (t.plant.state = .run → t.water.evalTimer = some 0))) ∧
    (s.hamlet.entries.length = 48 → t.plant.state = s.plant.state →
      ∀ i < 48, (s.circuit i).state = .limitOpen → ∀ n, (s.circuit i).reclose = some n →
        (2 ≤ n → t.circuit i = { s.circuit i with reclose := some (n - 1) }) ∧
        (n ≤ 1 → ((s.circuit i).tier = 0 ∨ s.shed.list = []) →
          t.circuit i = { s.circuit i with state := .closed, reclose := none, disagree := 0 }) ∧
        (n ≤ 1 → 1 ≤ (s.circuit i).tier → s.shed.list ≠ [] → s.plant.state = .run →
          s.listed i = false → t.circuit i = { s.circuit i with state := .shed, reclose := none })) ∧
    (∀ g, s.saw.grant = some g → s.saw.state = .running →
      (2 ≤ g → t.saw.state = .running → t.saw.grant = some (g - 1)) ∧
      (g ≤ 1 → t.plant.state = .run → t.saw.state = .stopping ∧ t.saw.grant = none)) ∧
    t.cond .timeErrorLimit = (timeErrorRecord t.time.te s).cond .timeErrorLimit ∧
    (let limit := s.setting Setting.NODE_SILENCE_S
     let before (x : Option Nat) (n : Nat) : Prop := ∀ k, x = some k → k + 1 < n
     let closes := s.time.sawOpen = true ∧ t.time.sawOpen = false
     let now : State := { s with time := t.time }
     let base : State :=
       if closes ∧ s.saw.state = .reserving then
         sawNoted 0 { now with journal := s.journal.push t.time.clock .sawDenied none 1 }
       else if closes ∧ (s.saw.state = .engaging ∨ s.saw.state = .running) then sawNoted 4 now
       else now
     before s.plant.runupTimer (s.setting Setting.RUNUP_TIMEOUT) →
       before s.plant.stopTimer (s.setting Setting.STOP_TIMEOUT) →
       before s.water.evalTimer (s.setting Setting.GATE_INTERVAL) →
       before s.water.pondSilence limit → before s.water.gateSilence limit →
       before s.saw.silence limit → (∀ x ∈ s.hamlet.feeders, before x.silence limit) →
       (∀ c ∈ s.hamlet.entries, c.state = .limitOpen → ∀ n, c.reclose = some n → 2 ≤ n) →
       (∀ g, s.saw.grant = some g → s.saw.state = .running → 2 ≤ g) →
       SameRecord (timeErrorRecord t.time.te base) t ∧ SlotsFollow [] s t) ∧
    t.edge = s.edge ∧ t.tables = s.tables ∧ t.pins = s.pins ∧ t.draws = s.draws ∧
    t.pending = s.pending

/-- A window contains a minute from its start up to but not with its end, wrapping past midnight where the
start is above the end; with start and end equal it contains none, and from 0 to 1440 the whole day. -/
def Obligations.WindowContainment : Prop :=
  ∀ a b m : Nat, a ≤ 1439 → b ≤ 1440 →
    (inWindow (a, b) m = true ↔ (a < b ∧ a ≤ m ∧ m < b) ∨ (b < a ∧ (a ≤ m ∨ m < b))) ∧
    (a = b → inWindow (a, b) m = false) ∧ inWindow (a, b) b = false ∧
    (m ≤ 1439 → inWindow (0, 1440) m = true)

/-- SET CLOCK and SET TIME ERROR with a place in the answer queue: refused out of range; else the clock or
the time error takes the value, and the journal its entry, of SET CLOCK with the previous second or -1. SET
CLOCK evaluates the windows at once; a SAW window that closes ends a reservation and stops a running or
engaging saw, whose entries stand before CLOCK_SET. The time error's condition is raised at a limit, and its
cause ends inside the range. -/
def Obligations.ClockAndTimeError : Prop :=
  ∀ (src : Byte) (tag day te : Word16) (sec : Word32) (s : State), s.answerRoom = true →
    (86399 < sec.toNat → exec (.setClock src tag day sec) s =
      .next (answered src tag 8 .badValue [] s)) ∧
    (sec.toNat ≤ 86399 →
      let now : Option DayClock := some ⟨day, sec.toNat⟩
      let previous : Int := match s.time.clock with
        | some c => c.sec
        | none => -1
      let opens (k : Nat) : Bool := inWindow (s.tables.windows.getD k (0, 0)) (sec.toNat / 60)
      let s1 : State := { s with time := { s.time with
        clock := now, eveningOpen := opens 0, nightOpen := opens 1, sawOpen := opens 2 } }
      let closes := s.time.sawOpen = true ∧ opens 2 = false
      let j := if closes ∧ s.saw.state = .reserving then
          (s.journal.push now .sawDenied none 1).push now .saw none 0
        else if closes ∧ (s.saw.state = .engaging ∨ s.saw.state = .running) then
          s.journal.push now .saw none 4
        else s.journal
      ∃ m, exec (.setClock src tag day sec) s = .next (answered src tag 8 .done [] m) ∧
        m.time = s1.time ∧ m.journal = j.push now .clockSet none previous ∧ WindowFollows s s1 m j ∧
        SameQueue (holding s) m ∧ SlotsFollow [] s m ∧
        KeptBut [.time, .saw, .gov, .shed, .journal, .loop] s m) ∧
    ((te.toInt < -30000 ∨ 30000 < te.toInt) → exec (.setTimeError src tag te) s =
      .next (answered src tag 9 .badValue [] s)) ∧
    (-30000 < te.toInt → te.toInt < 30000 → exec (.setTimeError src tag te) s = .next
      (answered src tag 9 .done [] (causeEnd .timeErrorLimit
        (journalAppend .timeErrorSet none s.time.te
          { s with time := { s.time with te := te.toInt } })))) ∧
    ((te.toInt = -30000 ∨ te.toInt = 30000) → exec (.setTimeError src tag te) s = .next
      (answered src tag 9 .done [] (raise .timeErrorLimit none
        (journalAppend .timeErrorSet none s.time.te
          (holding { s with time := { s.time with te := te.toInt } })))))

/-! ## The plant -/

/-- The trips of the protection, each in the state that lets it be taken, with the condition that goes with
its cause, and none of them in TRIPPED. The signal-loss and collapse timers' expiries trip in RUN alone; in
any other plant state they do nothing but stop the timer. That an expiry command acts whenever its timer runs
is the model's choice (assumption 4). -/
def Obligations.Trips : Prop :=
  ∀ s : State,
    (s.plant.state ≠ .tripped →
      ∃ t, exec .toothOverspeed s = .next t ∧ Tripped .overspeed .overspeed s t) ∧
    (s.plant.state = .tripped → exec .toothOverspeed s = .next s) ∧
    (s.plant.state = .runup → s.plant.runupTimer.isSome →
      ∃ t, exec .runupTimerExpiry s = .next t ∧ Tripped .runupTimeout .runupTimeout s t) ∧
    (s.plant.state ≠ .runup → exec .runupTimerExpiry s = .next s) ∧
    (s.plant.state = .run → s.plant.signalLoss.isSome →
      ∃ t, exec .signalLossTimerExpiry s = .next t ∧ Tripped .signalLoss .signalLoss s t) ∧
    (s.plant.state ≠ .run → exec .signalLossTimerExpiry s =
      .next { s with plant := { s.plant with signalLoss := none } }) ∧
    (s.plant.state = .run → s.plant.collapse.isSome →
      ∃ t, exec .collapseTimerExpiry s = .next t ∧ Tripped .underfrequency .underfrequency s t) ∧
    (s.plant.state ≠ .run → exec .collapseTimerExpiry s =
      .next { s with plant := { s.plant with collapse := none } }) ∧
    (s.plant.state ≠ .tripped → s.plant.freqOverspeed.isSome →
      ∃ t, exec .freqOverspeedTimerExpiry s = .next t ∧ Tripped .overspeed .overspeed s t) ∧
    (s.plant.state = .tripped → exec .freqOverspeedTimerExpiry s =
      .next { s with plant := { s.plant with freqOverspeed := none } }) ∧
    (s.plant.signalLoss = none → exec .signalLossTimerExpiry s = .next s) ∧
    (s.plant.collapse = none → exec .collapseTimerExpiry s = .next s) ∧
    (s.plant.freqOverspeed = none → exec .freqOverspeedTimerExpiry s = .next s)

/-- The stop timer's expiry, and the loss of the signal in STOPPING with the gate last seen closed, both
end in STOPPED. The shortage event: in RUN the plant enters STOPPING with cause WATER_SHORT, and STOPPED
after it where the stop is complete at once, and then WATER_SHORT is raised; in any other plant state it is
raised alone. That an expiry command acts whenever its timer runs is the model's choice (assumption 4). -/
def Obligations.StopEndsAndShortage : Prop :=
  ∀ s : State,
    (s.plant.state = .stopping → s.plant.stopTimer.isSome →
      ∃ t, exec .stopTimerExpiry s = .next t ∧ Stopped .stopTimeout s t ∧
        SameRecord (entryRecord .stopped .stopTimeout (some .stopTimeout) s) t) ∧
    (s.plant.state ≠ .stopping ∨ s.plant.stopTimer = none → exec .stopTimerExpiry s = .next s) ∧
    (∀ g, s.plant.state = .stopping → s.edge.signal = .present → s.water.gatePos = some g → g ≤ 5 →
      ∃ t, exec .lossTimerExpiry s = .next t ∧
        Stopped .stopDone { s with
          edge := { s.edge with lossTimer := none, signal := .lost, freq := none }
          plant := { s.plant with freqOverspeed := none } } t ∧
        SameRecord (entryRecord .stopped .stopDone none s) t) ∧
    (s.plant.state = .run → StopIncomplete s → ∃ t, exec .shortageEvent s = .next t ∧
      Stopping .waterShort s t ∧
      SameRecord (raise .waterShort none (entryRecord .stopping .waterShort none s)) t) ∧
    (s.plant.state = .run → StopReady s → ∃ u, StoppedAtOnce .waterShort s u ∧
      exec .shortageEvent s = .next (raise .waterShort none u)) ∧
    (s.plant.state ≠ .run → exec .shortageEvent s = .next (raise .waterShort none s))

/-- Entry to RUN: the count has reached RUNUP_ACCEPT in RUNUP. With the shed list's law holding and every
tier at most 3, each DARK circuit of tier 0 closes, each other DARK circuit is shed with cause RUNUP, and the
list is in falling order of tier and then of index. The PLANT entry and PLANT_CHANGED record the entry, and
after them each circuit shed has its SHED entry in the order of the list, the first with SHED_ACTIVE. That
the command asserts the count is the model's choice (assumption 17). -/
def Obligations.EntryToRun : Prop :=
  ∀ s : State, s.plant.state = .runup → shedLaw s = true →
    (∀ i < 48, (s.circuit i).tier ≤ 3) →
    ∃ t, exec .runupAccepted s = .next t ∧
      t.plant = { s.plant with
        state := .run, cause := .runupDone, runupTimer := none, stopTimer := none, signalLoss := none
        collapse := none, accept := max s.plant.accept (s.setting Setting.RUNUP_ACCEPT) } ∧
      t.water = { s.water with
        gate := max (s.setting Setting.GATE_START) (s.setting Setting.GATE_RUN_MIN)
        evalTimer := some 0, demandSum := 0, demandCount := 0, shortage := 0 } ∧
      (∀ i < 48, t.circuit i =
        if (s.circuit i).state ≠ .dark then s.circuit i
        else if (s.circuit i).tier = 0 then
          { s.circuit i with state := .closed, disagree := 0, reclose := none }
        else { s.circuit i with state := .shed, reclose := none }) ∧
      (∀ i < 48, t.listed i = ((s.circuit i).state == .dark && (s.circuit i).tier != 0)) ∧
      (t.shed.list.all fun x => x.cause == .runup) = true ∧
      (t.shed.list.map fun x => x.circuit).Pairwise (fun a b =>
        (s.circuit b).tier < (s.circuit a).tier ∨
          (s.circuit a).tier = (s.circuit b).tier ∧ b < a) ∧
      (let record := t.shed.list.foldl (fun r e => appended e.circuit .runup r)
         (recorded .run .runupDone none s)
       t.shed = record.shed ∧ SameRecord record t) ∧
      SlotsFollow [] s t ∧ KeptBut [.plant, .water, .hamlet, .shed, .conds, .journal, .loop] s t

/-- SET PLANT RUNUP with a place in the answer queue: its checks in their order, and the entry. -/
def Obligations.SetPlantRunup : Prop :=
  ∀ (src : Byte) (tag : Word16) (s : State), s.answerRoom = true →
    let now := [byteOf s.plant.state.code, byteOf s.plant.cause.code]
    (s.plant.state ≠ .stopped →
      exec (.setPlantRunup src tag) s = .next (answered src tag 7 .wrongState now s)) ∧
    (s.plant.state = .stopped → s.tripSet = true →
      exec (.setPlantRunup src tag) s = .next (answered src tag 7 .wrongState now s)) ∧
    (s.plant.state = .stopped → s.tripSet = false → s.runupReady = false →
      exec (.setPlantRunup src tag) s = .next (answered src tag 7 .notReady now s)) ∧
    (s.plant.state = .stopped → s.tripSet = false → s.runupReady = true →
      ∃ m, exec (.setPlantRunup src tag) s = .next (answered src tag 7 .done [1, 2] m) ∧
        m.plant = { s.plant with
          state := .runup, cause := .host, accept := 0, runupTimer := some 0, stopTimer := none
          signalLoss := none, collapse := none } ∧
        m.gov = { s.gov with d := 0, residue := 0, engaged := false } ∧
        m.time = { s.time with direction := .zero } ∧
        m.water = { s.water with gate := s.setting 37, evalTimer := none, shortage := 0 } ∧
        SameRecord (recorded .runup .host none (holding s)) m ∧ SlotsFollow [] s m ∧
        KeptBut [.plant, .gov, .time, .water, .conds, .journal, .loop] s m)

/-- SET PLANT STOPPED with a place in the answer queue, by the rows of Table 3-5; from RUNUP and RUN a stop
that is complete at once ends in STOPPED, which the answer says. -/
def Obligations.SetPlantStopped : Prop :=
  ∀ (src : Byte) (tag : Word16) (s : State), s.answerRoom = true →
    let now := [byteOf s.plant.state.code, byteOf s.plant.cause.code]
    ((s.plant.state = .runup ∨ s.plant.state = .run) → StopIncomplete s →
      ∃ m, exec (.setPlantStopped src tag) s = .next (answered src tag 7 .done [3, 2] m) ∧
        Stopping .host (holding s) m ∧ SameRecord (entryRecord .stopping .host none (holding s)) m) ∧
    ((s.plant.state = .runup ∨ s.plant.state = .run) → StopReady s →
      ∃ m, exec (.setPlantStopped src tag) s = .next (answered src tag 7 .done [0, 5] m) ∧
        StoppedAtOnce .host (holding s) m) ∧
    ((s.plant.state = .stopping ∨ s.plant.state = .stopped) →
      exec (.setPlantStopped src tag) s = .next (answered src tag 7 .done now s)) ∧
    (s.plant.state = .tripped → s.tripSet = false → s.edge.signal = .lost →
      ∃ m, exec (.setPlantStopped src tag) s = .next (answered src tag 7 .done [0, 2] m) ∧
        Stopped .host (holding s) m ∧ SameRecord (entryRecord .stopped .host none (holding s)) m) ∧
    (s.plant.state = .tripped → (s.tripSet = true ∨ s.edge.signal = .present) →
      exec (.setPlantStopped src tag) s = .next (answered src tag 7 .wrongState now s))

/-- SET PLANT TRIPPED with a place in the answer queue: a trip with cause HOST, or in TRIPPED a raise of
HOST_TRIP alone; the answer is DONE. -/
def Obligations.SetPlantTripped : Prop :=
  ∀ (src : Byte) (tag : Word16) (s : State), s.answerRoom = true →
    (s.plant.state ≠ .tripped →
      ∃ m, exec (.setPlantTripped src tag) s = .next (answered src tag 7 .done [4, 2] m) ∧
        Tripped .host .hostTrip (holding s) m) ∧
    (s.plant.state = .tripped → exec (.setPlantTripped src tag) s = .next
      (answered src tag 7 .done [4, byteOf s.plant.cause.code] (raise .hostTrip none (holding s))))

/-! ## Firing events -/

/-- The first waiting record begins and the first delivered one ends, wherever it stands; without such a
record nothing changes. That the commands assert the counter's value is the model's choice (assumption 4). -/
def Obligations.TrimPulses : Prop :=
  ∀ (s : State) (before : List Pulse) (a b : Count) (rest : List Pulse),
    ((∀ p ∈ before, p.stage = .delivering) → s.firing.pulses = before ++ ⟨a, b, .waiting⟩ :: rest →
      exec .trimPulseStart s = .next { s with firing := { s.firing with
        pulses := before ++ ⟨a, b, .delivering⟩ :: rest, trimGate := true } }) ∧
    ((∀ p ∈ s.firing.pulses, p.stage = .delivering) → exec .trimPulseStart s = .next s) ∧
    ((∀ p ∈ before, p.stage = .waiting) → s.firing.pulses = before ++ ⟨a, b, .delivering⟩ :: rest →
      exec .trimPulseEnd s = .next { s with firing := { s.firing with
        pulses := before ++ rest, trimGate := rest.any fun p => p.stage == .delivering } }) ∧
    ((∀ p ∈ s.firing.pulses, p.stage = .waiting) → exec .trimPulseEnd s = .next s)

/-! ## Water -/

/-- Interpolation in a table that does not fall, as the weir table, the pond curve and the firing map are
read, and in one that does not rise, as the feed curve is. -/
def Obligations.TableInterpolation : Prop :=
  ∀ (table : List Nat) (step last x : Nat), 0 < step → table.length = last + 1 →
    (last ≤ x / step → interpUp table step last x = table.getD last 0 ∧
      interpDown table step last x = table.getD last 0) ∧
    (x / step < last →
      (table.Pairwise (· ≤ ·) → interpUp table step last x =
        table.getD (x / step) 0 +
          (table.getD (x / step + 1) 0 - table.getD (x / step) 0) * (x % step) / step) ∧
      (table.Pairwise (· ≥ ·) → interpDown table step last x =
        table.getD (x / step) 0 -
          (table.getD (x / step) 0 - table.getD (x / step + 1) 0) * (x % step) / step))

/-- A fresh pond sample stores level and head, clamped, and the flow; the silence timer restarts while the
role is mapped, and a set mark's cause ends. A payload shorter than four bytes changes nothing. -/
def Obligations.PondSample : Prop :=
  ∀ (a b c d : Byte) (rest : List Byte) (s : State),
    let level := (max 0 (min 4000 (BitVec.toInt (a ++ b)))).toNat
    let head := (max 0 (min 800 (BitVec.toInt (c ++ d)))).toNat
    let s1 : State := { s with water := { s.water with
      level := some level, head := some head, flow := some (s.weirFlow head)
      pondSilence := if s.address 0 = 0 then none else some 0, pondSilent := false } }
    exec (.pondSample (a :: b :: c :: d :: rest)) s = .next
      (if s.water.pondSilent then causeEnd .pondSilent s1 else s1) ∧
    (∀ payload : List Byte, payload.length < 4 → exec (.pondSample payload) s = .next s)

/-- A fresh gate sample: its position and status are stored; a FAULT trips the plant in RUNUP, RUN and
STOPPING; an OK or MOVING at 5 or less in STOPPING with the signal LOST ends the stop; an OK far from the
target rewrites the order. That the position compared is the clamped one is the model's choice (assumption
21). -/
def Obligations.GateSample : Prop :=
  ∀ (a b c : Byte) (rest : List Byte) (s : State),
    let pos := min (a.toNat * 256 + b.toNat) 1000
    let st : GateStatus := if c = 0 then .ok else if c = 1 then .moving else .fault
    let s1 : State := { s with water := { s.water with
      gatePos := some pos, gateStatus := some st
      gateSilence := if s.address 1 = 0 then none else some 0, gateSilent := false } }
    let s2 := if s.water.gateSilent then causeEnd .gateSilent s1 else s1
    (((st ≠ .fault ∧ (s.plant.state ≠ .stopping ∨ s.edge.signal = .present ∨ 5 < pos)) ∨
        s.plant.state = .stopped ∨ s.plant.state = .tripped) →
      exec (.gateSample (a :: b :: c :: rest)) s = .next
        (if st = .ok ∧ (s.water.gate + 5 < pos ∨ pos + 5 < s.water.gate) then
          { s2 with loop := { s2.loop with
            slots := s2.loop.slots.set 0 ⟨some (.gate s.water.gate), true⟩ } } else s2)) ∧
    (st = .fault → (s.plant.state = .runup ∨ s.plant.state = .run ∨ s.plant.state = .stopping) →
      ∃ t, exec (.gateSample (a :: b :: c :: rest)) s = .next t ∧ Tripped .gateFault .gateFault s2 t) ∧
    (st ≠ .fault → s.plant.state = .stopping → s.edge.signal = .lost → pos ≤ 5 →
      ∃ t, exec (.gateSample (a :: b :: c :: rest)) s = .next t ∧ Stopped .stopDone s2 t ∧
        SameRecord (entryRecord .stopped .stopDone none s2) t) ∧
    (∀ payload : List Byte, payload.length < 3 → exec (.gateSample payload) s = .next s)

/-- A node whose running silence timer expires: its mark is set, its timer stops, its condition is
raised; a feeder's interval counter stops too. That an expiry command acts whenever its timer runs is
the model's choice (assumption 4). -/
def Obligations.NodeSilence : Prop :=
  ∀ (s : State),
    (s.water.pondSilence.isSome → exec (.waterNodeSilenceExpiry .pond) s = .next
      (raise .pondSilent none
        { s with water := { s.water with pondSilence := none, pondSilent := true } })) ∧
    (s.water.gateSilence.isSome → exec (.waterNodeSilenceExpiry .gate) s = .next
      (raise .gateSilent none
        { s with water := { s.water with gateSilence := none, gateSilent := true } })) ∧
    (∀ k, (s.feeder k).silence.isSome → exec (.feederSilenceExpiry k) s = .next
      (raise .feederSilent none { s with hamlet := { s.hamlet with
        feeders := s.hamlet.feeders.set k ⟨none, true, none⟩ } }))

/-- A skipped evaluation: the target, the shortage timer, the condition and the slot are as they were;
the demand sum, its count and the evaluation timer start from 0. That the command asserts the interval
has passed is the model's choice (assumption 4). -/
def Obligations.GateEvaluationSkipped : Prop :=
  ∀ (s : State) (n : Nat), s.plant.state = .run → s.water.evalTimer = some n →
    (s.water.pondSilent = true ∨ s.water.level = none) →
    exec .gateEvaluation s = .next { s with water := { s.water with
      evalTimer := some 0, demandSum := 0, demandCount := 0 } }

/-- An evaluation that is made: the move, the limit, and a sufficient or a short settlement. A short
settlement that brings the shortage timer to its grace makes the plant enter STOPPING, and STOPPED after it
where the stop is complete at once, and raises WATER_SHORT. That the command asserts the interval has passed
is the model's choice (assumption 4). -/
def Obligations.GateEvaluationMade : Prop :=
  ∀ (s : State) (n l : Nat), s.plant.state = .run → s.water.evalTimer = some n →
    s.water.level = some l → s.water.pondSilent = false →
    let flowLow := (s.water.flow.map fun q => decide (q < s.setting Setting.RESIDUAL_MIN)).getD false
    let avg : Option Nat := if s.water.demandCount = 0 then none
      else some (s.water.demandSum / s.water.demandCount)
    let g := s.water.gate
    let moved :=
      if flowLow = true ∨ l < s.setting Setting.LEVEL_LOW then g - s.setting Setting.CLOSE_STEP
      else if (∃ a, avg = some a ∧ a < s.setting Setting.DEMAND_LOW) ∧
          s.setting Setting.LEVEL_LOW + s.setting Setting.LEVEL_BAND ≤ l then
        min 1000 (g + s.setting Setting.OPEN_STEP)
      else if (∃ a, avg = some a ∧ s.setting Setting.DEMAND_HIGH < a) ∧
          l < s.setting Setting.LEVEL_HIGH then g - s.setting Setting.CLOSE_STEP
      else g
    let want := min moved (interpUp s.tables.pondCurve.vals 250 16 l)
    let base := if flowLow then raise .residualLow none s else s
    let after (gate shortage : Nat) : State := { base with
      water := { s.water with gate := gate, shortage := shortage, evalTimer := some 0,
                              demandSum := 0, demandCount := 0 }
      loop := { base.loop with slots := base.loop.slots.set 0 ⟨some (.gate gate), true⟩ } }
    (s.setting Setting.GATE_RUN_MIN ≤ want → exec .gateEvaluation s = .next (after want 0)) ∧
    (want < s.setting Setting.GATE_RUN_MIN →
      s.water.shortage + n < s.setting Setting.SHORTAGE_GRACE * 60 →
      exec .gateEvaluation s = .next
        (after (s.setting Setting.GATE_RUN_MIN) (s.water.shortage + n))) ∧
    (want < s.setting Setting.GATE_RUN_MIN →
      s.setting Setting.SHORTAGE_GRACE * 60 ≤ s.water.shortage + n →
      let short := after (s.setting Setting.GATE_RUN_MIN) (s.water.shortage + n)
      (StopIncomplete s → ∃ t, exec .gateEvaluation s = .next t ∧ Stopping .waterShort short t ∧
        SameRecord (raise .waterShort none (entryRecord .stopping .waterShort none short)) t) ∧
      (StopReady s → ∃ u, StoppedAtOnce .waterShort short u ∧
        exec .gateEvaluation s = .next (raise .waterShort none u)))

/-! ## Circuits -/

/-- A fresh sample of up to eight records, each of its own circuit: the feeder is heard, and each named
circuit that is present takes its reading and report, its energy while the breaker is reported CLOSED, its
agreement count, and the limiter's test; circuits that are not named, and ABSENT ones, are as they were. The
conditions and the journal take the record of each in turn, with ENERGY_LIMIT, BREAKER_DISAGREE, LIMIT_TRIP
and LOCKOUT, after the end of FEEDER_SILENT's cause where no other feeder is silent. The feeder's slot is
written where a circuit opens or a record disagrees with the position wanted after it. A payload that is no
fresh sample changes nothing: none at all, a count above 8, too few bytes, a circuit number above 7, or one
named twice. That the interval is held in timebase counts is the model's choice (assumption 10), and that a
strike count stops at 9 after a trip inside its window (assumption 22). -/
def Obligations.FeederSample : Prop :=
  ∀ (k : Nat) (s : State),
    (∀ (rs : List (Byte × Byte × Byte × Byte)) (extra : List Byte), k < 6 → rs.length ≤ 8 →
      s.hamlet.entries.length = 48 → s.hamlet.feeders.length = 6 →
      let payload := byteOf rs.length :: rs.flatMap (fun r => [r.1, r.2.1, r.2.2.1, r.2.2.2]) ++ extra
      let dt := match (s.feeder k).interval with
        | some counts => min 5000 (counts / 2000)
        | none => 0
      let code (r : Byte × Byte × Byte × Byte) : BreakerReport :=
        if r.2.2.2 = 0 then .opened else if r.2.2.2 = 1 then .closed else .failed
      let heard := if (s.feeder k).silent && (List.range 6).all fun j => j == k || !(s.feeder j).silent then
        causeEnd .feederSilent s else s
      let record := rs.foldl (fun x r => sampleRecord s dt (k * 8 + r.1.toNat)
        (r.2.1.toNat * 256 + r.2.2.1.toNat) (code r) x) heard
      let good := (∀ r ∈ rs, r.1.toNat ≤ 7) ∧ (rs.map fun r => r.1).Nodup
      (¬good → exec (.feederSample k payload) s = .next s) ∧
      (good → ∃ t, exec (.feederSample k payload) s = .next t ∧
        t.feeder k = ⟨if s.address (3 + k) = 0 then none else some 0, false, some 0⟩ ∧
        (∀ j < 6, j ≠ k → t.feeder j = s.feeder j) ∧
        (∀ r ∈ rs,
          let i := k * 8 + r.1.toNat
          t.circuit i = if (s.circuit i).state = .absent then s.circuit i
            else sampled s dt (r.2.1.toNat * 256 + r.2.2.1.toNat) (code r) (s.circuit i)) ∧
        (∀ j < 48, (∀ r ∈ rs, j ≠ k * 8 + r.1.toNat) → t.circuit j = s.circuit j) ∧
        SameRecord record t ∧
        SlotsFollow (if ∃ r ∈ rs, (s.circuit (k * 8 + r.1.toNat)).state ≠ .absent ∧
            (code r = .failed ∨
              (code r = .closed) ≠ ((t.circuit (k * 8 + r.1.toNat)).state = .closed))
          then [k + 2] else []) s t ∧
        KeptBut [.hamlet, .conds, .journal, .loop] s t)) ∧
    exec (.feederSample k []) s = .next s ∧
    (∀ (count : Byte) (rest : List Byte), (8 < count.toNat ∨ rest.length < 4 * count.toNat) →
      exec (.feederSample k (count :: rest)) s = .next s)

/-- A limiter trip of a CLOSED circuit: the strike, and LOCKED or LIMIT_OPEN with its journal entry, and the
new position in the feeder's slot; in any other state nothing. That a trip inside the window adds a strike up
to 9, after OFF from LOCKED and ON too, is the model's choice (assumption 22). -/
def Obligations.LimitTrip : Prop :=
  ∀ (i reading : Nat) (s : State), i < 48 → s.hamlet.entries.length = 48 →
    let c := s.circuit i
    let fresh := c.strikes = 0 ∨ ∃ w, c.windowStart = some w ∧
      s.setting Setting.STRIKE_WINDOW * 60 ≤ (s.time.count - w).toNat
    (c.state ≠ .closed → exec (.limitTrip i reading) s = .next s) ∧
    (c.state = .closed → (c.strikes = 0 ↔ c.windowStart = none) →
      ∃ t n w, exec (.limitTrip i reading) s = .next t ∧
        (fresh → n = 1 ∧ w = some s.time.count) ∧
        (¬fresh → n = min 9 (c.strikes + 1) ∧ w = c.windowStart) ∧
        t.circuit i = { c with
          strikes := n, windowStart := w, overCount := 0, disagree := 0
          state := if s.setting Setting.STRIKE_LIMIT ≤ n then .locked else .limitOpen
          reclose := if s.setting Setting.STRIKE_LIMIT ≤ n then none
            else some (s.setting Setting.RECLOSE_DELAY) } ∧
        (∀ j < 48, j ≠ i → t.circuit j = s.circuit j) ∧
        SameRecord (if s.setting Setting.STRIKE_LIMIT ≤ n then
            raise .lockout none { s with
              journal := s.journal.push s.time.clock .lockout (some i) n }
          else { s with journal := s.journal.push s.time.clock .limitTrip (some i) reading }) t ∧
        SlotsFollow [] s t ∧ KeptBut [.hamlet, .conds, .journal, .loop] s t)

/-- A reclose: closed at tier 0 or with the list empty, else appended to the list in RUN; in any state other
than LIMIT_OPEN nothing. That an expiry command asserts its moment is the model's choice (assumption 4). -/
def Obligations.Reclose : Prop :=
  ∀ (i : Nat) (s : State), i < 48 → s.hamlet.entries.length = 48 →
    let c := s.circuit i
    (c.state ≠ .limitOpen → exec (.recloseExpiry i) s = .next s) ∧
    (c.state = .limitOpen → (c.tier = 0 ∨ s.shed.list = []) →
      ∃ t, exec (.recloseExpiry i) s = .next t ∧
        t.circuit i = { c with state := .closed, reclose := none, disagree := 0 } ∧
        (∀ j < 48, j ≠ i → t.circuit j = s.circuit j) ∧
        SameRecord { s with journal := s.journal.push s.time.clock .reclose (some i) 2 } t ∧
        SlotsFollow [] s t ∧ KeptBut [.hamlet, .journal, .loop] s t) ∧
    (c.state = .limitOpen → 1 ≤ c.tier → s.shed.list ≠ [] → s.plant.state = .run →
      s.listed i = false →
      ∃ t, exec (.recloseExpiry i) s = .next t ∧
        t.circuit i = { c with state := .shed, reclose := none } ∧
        t.shed = { s.shed with
          list := s.shed.list ++ [⟨i, .frequency, c.reading, s.secondOfDay⟩], restoreTimer := none } ∧
        t.journal = (s.journal.push s.time.clock .reclose (some i) 4).push s.time.clock .shed (some i) 1 ∧
        (∀ j < 48, j ≠ i → t.circuit j = s.circuit j) ∧
        KeptBut [.hamlet, .shed, .journal] s t)

/-- The agreement check of a report: FAILED stands at 3 and raises; agreement gives 0; a differing
report counts, and raises at 3; an ABSENT entry is left alone. That the command carries the report and
is the whole check is the model's choice (assumption 17). -/
def Obligations.BreakerAgreement : Prop :=
  ∀ (i : Nat) (s : State), i < 48 → s.hamlet.entries.length = 48 →
    let c := s.circuit i
    let with_ (n : Nat) : State := { s with hamlet := { s.hamlet with
      entries := s.hamlet.entries.set i { c with disagree := n } } }
    let wanted : BreakerReport := if c.state = .closed then .closed else .opened
    let other : BreakerReport := if c.state = .closed then .opened else .closed
    (c.state = .absent → ∀ r, exec (.breakerDisagree i r) s = .next s) ∧
    (c.state ≠ .absent →
      exec (.breakerDisagree i .failed) s = .next (raise .breakerDisagree (some i) (with_ 3)) ∧
      exec (.breakerDisagree i wanted) s = .next (with_ 0) ∧
      (c.disagree < 2 → exec (.breakerDisagree i other) s = .next (with_ (c.disagree + 1))) ∧
      (c.disagree = 2 → exec (.breakerDisagree i other) s = .next
        (raise .breakerDisagree (some i) (with_ 3))) ∧
      (3 ≤ c.disagree → exec (.breakerDisagree i other) s = .next s))

/-- CIRCUIT ADMIN with a place in the answer queue: an index above 47 or an ABSENT entry is refused; OFF
makes any present circuit OFF, and takes a SHED one out of the list, which stops the restore timer; ON is
refused outside OFF; RELEASE LOCKOUT outside LOCKED; outside RUN both place the circuit DARK. In RUN, ON
closes a circuit of tier 0 and sheds one of tier 1 or more, and RELEASE LOCKOUT closes a circuit of tier 0,
or any where the shed list is empty, and sheds the others. CLEAR ENERGY clears energy and residue and nothing
else. Each action that is taken has its CIRCUIT_ADMIN entry, before the SHED entry that it leads to, and each
change of a position is in the feeder's slot. -/
def Obligations.CircuitAdmin : Prop :=
  ∀ (src : Byte) (tag : Word16) (i : Byte) (s : State), s.answerRoom = true →
    s.hamlet.entries.length = 48 →
    let c := s.circuit i.toNat
    let put (action : Nat) (c' : Circuit) : State :=
      journalAppend .circuitAdmin (some i.toNat) action
        { s with hamlet := { s.hamlet with entries := s.hamlet.entries.set i.toNat c' } }
    let others (t : State) : Prop := ∀ j < 48, j ≠ i.toNat → t.circuit j = s.circuit j
    let admin (action : Nat) : State :=
      { holding s with journal := s.journal.push s.time.clock .circuitAdmin (some i.toNat) action }
    let listed (action : Nat) : State := appended i.toNat .frequency (admin action)
    let freed : Circuit := { c with strikes := 0, windowStart := none, reclose := none }
    ((47 < i.toNat ∨ c.state = .absent) →
      exec (.circuitAdminOff src tag i) s = .next (answered src tag 10 .outOfRange [] s) ∧
      exec (.circuitAdminOn src tag i) s = .next (answered src tag 10 .outOfRange [] s) ∧
      exec (.releaseLockout src tag i) s = .next (answered src tag 10 .outOfRange [] s) ∧
      exec (.clearEnergy src tag i) s = .next (answered src tag 10 .outOfRange [] s)) ∧
    (i.toNat ≤ 47 → c.state ≠ .absent →
      (∃ m, exec (.circuitAdminOff src tag i) s = .next (answered src tag 10 .done [6] m) ∧
        m.circuit i.toNat = { c with
          state := .off, reclose := none
          overCount := if c.state = .closed then 0 else c.overCount
          disagree := if c.state = .closed then 0 else c.disagree } ∧
        m.shed = (if c.state = .shed then { s.shed with
          list := s.shed.list.filter fun e => e.circuit != i.toNat, restoreTimer := none }
          else s.shed) ∧
        others m ∧ SameRecord (admin 0) m ∧ SlotsFollow [] s m ∧
        KeptBut [.hamlet, .shed, .journal, .loop] s m) ∧
      (c.state ≠ .off →
        exec (.circuitAdminOn src tag i) s = .next (answered src tag 10 .wrongState [] s)) ∧
      (c.state = .off → s.plant.state ≠ .run → exec (.circuitAdminOn src tag i) s = .next
        (answered src tag 10 .done [1] (put 1 { c with state := .dark, reclose := none }))) ∧
      (c.state = .off → s.plant.state = .run → c.tier = 0 →
        ∃ m, exec (.circuitAdminOn src tag i) s = .next (answered src tag 10 .done [2] m) ∧
          m.circuit i.toNat = { c with state := .closed, disagree := 0, reclose := none } ∧
          others m ∧ SameRecord (admin 1) m ∧ SlotsFollow [] s m ∧
          KeptBut [.hamlet, .journal, .loop] s m) ∧
      (c.state = .off → s.plant.state = .run → 1 ≤ c.tier → s.listed i.toNat = false →
        ∃ m, exec (.circuitAdminOn src tag i) s = .next (answered src tag 10 .done [4] m) ∧
          m.circuit i.toNat = { c with state := .shed, reclose := none } ∧ m.shed = (listed 1).shed ∧
          others m ∧ SameRecord (listed 1) m ∧ SlotsFollow [] s m ∧
          KeptBut [.hamlet, .shed, .conds, .journal, .loop] s m) ∧
      (c.state ≠ .locked →
        exec (.releaseLockout src tag i) s = .next (answered src tag 10 .wrongState [] s)) ∧
      (c.state = .locked → s.plant.state ≠ .run → exec (.releaseLockout src tag i) s = .next
        (answered src tag 10 .done [1] (put 2 { freed with state := .dark }))) ∧
      (c.state = .locked → s.plant.state = .run → (c.tier = 0 ∨ s.shed.list = []) →
        ∃ m, exec (.releaseLockout src tag i) s = .next (answered src tag 10 .done [2] m) ∧
          m.circuit i.toNat = { freed with state := .closed, disagree := 0 } ∧
          others m ∧ SameRecord (admin 2) m ∧ SlotsFollow [] s m ∧
          KeptBut [.hamlet, .journal, .loop] s m) ∧
      (c.state = .locked → s.plant.state = .run → 1 ≤ c.tier → s.shed.list ≠ [] →
        s.listed i.toNat = false →
        ∃ m, exec (.releaseLockout src tag i) s = .next (answered src tag 10 .done [4] m) ∧
          m.circuit i.toNat = { freed with state := .shed } ∧ m.shed = (listed 2).shed ∧
          others m ∧ SameRecord (listed 2) m ∧ SlotsFollow [] s m ∧
          KeptBut [.hamlet, .shed, .journal, .loop] s m) ∧
      exec (.clearEnergy src tag i) s = .next (answered src tag 10 .done [byteOf c.state.code]
        (put 3 { c with energy := 0, residue := 0 })))

/-! ## Shedding -/

/-- The shed candidate: a CLOSED circuit of tier at least `floor`, of the highest tier and then of the
highest index; none exactly when there is no such circuit. -/
def Obligations.ShedCandidate : Prop :=
  ∀ (cs : List Circuit) (floor : Nat),
    (shedCandidate floor cs = none ↔ ∀ c ∈ cs, ¬(c.state = .closed ∧ floor ≤ c.tier)) ∧
    (∀ i, shedCandidate floor cs = some i →
      ∃ c, cs[i]? = some c ∧ c.state = .closed ∧ floor ≤ c.tier ∧
        ∀ j x, cs[j]? = some x → x.state = .closed → floor ≤ x.tier →
          x.tier < c.tier ∨ (x.tier = c.tier ∧ j ≤ i))

/-- The running shed timer reaches its length in RUN: the candidate is shed with cause FREQUENCY, or
NOTHING_TO_SHED is raised; the timer restarts. Otherwise nothing changes. That an expiry command acts
whenever its timer runs is the model's choice (assumption 4). At a demand update in RUN, in every saw state:
the lockout, the emergency shed, the shed timer with its shed, and the restore timer with its restore. The
restore candidate is the newest entry while the saw is at rest, and else the newest whose cause is not SAW;
while the saw is ENGAGING nothing is timed and nothing restored. The list, the restore timer, the circuits
and the record of the update are stated where the saw makes no shed request of its own at the update. Where a
reservation becomes ENGAGING at the same update, the saw state read may be either one, and the SAW entry then
stands before the others where that is ENGAGING and after them where it is RESERVING. That the raises of the
period itself come first is the model's choice (assumption 5). That the shed timer still gains P after an
emergency shed restarts it is the model's reading (assumption 11), and that an emergency shed with no
candidate restarts it too is its choice (assumption 27). -/
def Obligations.ShedTimerExpiry : Prop :=
  ∀ (s : State), s.hamlet.entries.length = 48 →
    let candidate := shedCandidate 1 s.hamlet.entries
    let shedAt (i : Nat) (t : State) : Prop :=
      t.circuit i = { s.circuit i with state := .shed, overCount := 0, disagree := 0, reclose := none } ∧
        ∀ j < 48, j ≠ i → t.circuit j = s.circuit j
    (s.plant.state = .run → s.shed.shedTimer.isSome →
      (candidate = none → exec .shedTimerExpiry s = .next
        (raise .nothingToShed none { s with shed := { s.shed with shedTimer := some 0 } })) ∧
      (∀ i, candidate = some i → s.listed i = false →
        ∃ t, exec .shedTimerExpiry s = .next t ∧ shedAt i t ∧
          t.shed = { (appended i .frequency s).shed with shedTimer := some 0 } ∧
          SameRecord (appended i .frequency s) t ∧ SlotsFollow [] s t ∧
          KeptBut [.hamlet, .shed, .conds, .journal, .loop] s t)) ∧
    ((s.plant.state ≠ .run ∨ s.shed.shedTimer = none) → exec .shedTimerExpiry s = .next s) ∧
    (∀ (t : Count) (lag p : Nat), ValidEdge t p s → s.plant.state = .run →
      1 ≤ s.setting Setting.SHED_DELAY → 1 ≤ s.setting Setting.RESTORE_DELAY →
      let f : Int := (2000000000 / p : Nat)
      let e : Int := max (-5000) (min 5000 (f - s.fSet))
      let emergency := f < s.nominal - s.setting Setting.EMERGENCY_DROP ∧ s.shed.lockout ≤ 1
      let held := if emergency then s.shed.shedTimer.map (fun _ => 0) else s.shed.shedTimer
      let x := match held with
        | none => 0
        | some y => y + p
      let delay := s.setting Setting.SHED_DELAY * 2000000
      let restore := if s.saw.state = .idle then s.shed.list.getLast?
        else (s.shed.list.filter fun y => y.cause != .saw).getLast?
      ∃ u, exec (.acceptedRisingCrossingEdge t lag) s = .next u ∧
        let surplus := u.gov.d * s.setting Setting.BALLAST_W / 4096
        let short := u.gov.d = 0 ∧ e ≤ -(s.setting Setting.SHED_BAND : Int)
        let sheds := emergency ∨ (short ∧ delay ≤ x)
        let enough := s.setting Setting.SAW_RESERVE_W ≤ surplus
        let sawRead : List SawState :=
          if s.saw.state = .reserving ∧ enough then [.reserving, .engaging] else [s.saw.state]
        let quiet := s.saw.state ≠ .reserving ∨ s.saw.settle.isSome = true ∨ enough
        u.shed.lockout = (if emergency then 10 else s.shed.lockout - 1) ∧
        u.shed.shedTimer = (if short then some (if delay ≤ x then 0 else x) else none) ∧
        (candidate = none → sheds → s.conds.length = 25 → (u.cond .nothingToShed).flag = true) ∧
        (s.loop.slots.length = 8 → quiet → SlotsFollow [] s u) ∧
        (quiet → ∃ w ∈ sawRead,
          let room (load : Nat) : Prop :=
            w ≠ .engaging ∧ load + s.setting Setting.RESTORE_MARGIN ≤ surplus
          let start := if s.saw.state = .reserving ∧ w = .engaging then sawNoted 2 (periodRecord s)
            else periodRecord s
          let close (r : State) : State := if w = .reserving ∧ enough then sawNoted 2 r else r
          let base := if sheds then raise .nothingToShed none start else start
          (∀ i, candidate = some i → sheds → s.listed i = false → shedAt i u ∧
            u.shed.list = (appended i .frequency s).shed.list ∧
            SameRecord (close (appended i .frequency start)) u ∧
            (room (s.circuit i).reading → u.shed.restoreTimer = some ⟨i, 0⟩) ∧
            (¬room (s.circuit i).reading → u.shed.restoreTimer = none)) ∧
          (restore = none → (¬sheds ∨ candidate = none) →
            u.shed.list = s.shed.list ∧ u.shed.restoreTimer = none ∧ u.hamlet = s.hamlet ∧
              SameRecord (close base) u) ∧
          (∀ c, restore = some c → (¬sheds ∨ candidate = none) →
            let passed := match s.shed.restoreTimer with
              | some r => if r.circuit = c.circuit then r.elapsed + p else 0
              | none => 0
            let due := s.setting Setting.RESTORE_DELAY * 2000000 ≤ passed
            (room c.load → due → c.circuit < 48 → (s.circuit c.circuit).state = .shed →
              u.shed.list = (s.shed.list.filter fun y => y.circuit != c.circuit) ∧
              u.shed.restoreTimer = none ∧
              u.circuit c.circuit = { s.circuit c.circuit with
                state := .closed, disagree := 0, reclose := none } ∧
              (∀ j < 48, j ≠ c.circuit → u.circuit j = s.circuit j) ∧
              SameRecord (close (restored c.circuit surplus base)) u) ∧
            (room c.load → ¬due → u.shed.list = s.shed.list ∧
              u.shed.restoreTimer = some ⟨c.circuit, passed⟩ ∧ u.hamlet = s.hamlet ∧
              SameRecord (close base) u) ∧
            (¬room c.load → u.shed.list = s.shed.list ∧ u.shed.restoreTimer = none ∧
              u.hamlet = s.hamlet ∧ SameRecord (close base) u))))

/-- The restore of the candidate being timed, in every saw state: its entry leaves the list, its circuit
closes, its feeder's order follows, and the surplus is journalled. The candidate is the newest entry while
the saw is at rest, and else the newest whose cause is not SAW. Outside RUN, with no candidate, with none
timed or another circuit timed, while the saw is ENGAGING, or with too small a surplus, nothing changes. That
the command asserts the restore delay has passed is the model's choice (assumption 4). -/
def Obligations.Restore : Prop :=
  ∀ (s : State) (e : Nat),
    let candidate := if s.saw.state = .idle then s.shed.list.getLast?
      else (s.shed.list.filter fun y => y.cause != .saw).getLast?
    let surplus := s.gov.d * s.setting Setting.BALLAST_W / 4096
    let room (x : ShedEntry) : Prop :=
      s.saw.state ≠ .engaging ∧ x.load + s.setting Setting.RESTORE_MARGIN ≤ surplus
    (∀ x, candidate = some x → s.plant.state = .run → s.shed.restoreTimer = some ⟨x.circuit, e⟩ →
      room x → s.hamlet.entries.length = 48 → x.circuit < 48 → (s.circuit x.circuit).state = .shed →
      ∃ t, exec .restore s = .next t ∧
        t.shed = { s.shed with
          list := s.shed.list.filter fun y => y.circuit != x.circuit, restoreTimer := none } ∧
        t.circuit x.circuit = { s.circuit x.circuit with
          state := .closed, disagree := 0, reclose := none } ∧
        (∀ j < 48, j ≠ x.circuit → t.circuit j = s.circuit j) ∧
        SameRecord (restored x.circuit surplus s) t ∧
        SlotsFollow [] s t ∧ KeptBut [.shed, .hamlet, .journal, .loop] s t) ∧
    ((s.plant.state ≠ .run ∨ candidate = none ∨ s.shed.restoreTimer = none) →
      exec .restore s = .next s) ∧
    (∀ x, candidate = some x →
      (¬room x ∨ (s.shed.restoreTimer.map fun r => r.circuit) ≠ some x.circuit) →
      exec .restore s = .next s)

/-! ## The saw -/

/-- A START in IDLE, with its three checks in order. A sample whose number is that of the last one carries no
request; with no number known the sample's is adopted without action; a sample of fewer than four bytes
changes nothing. A request with a new number is taken by the saw state then standing, by the rows of Table
7-3: the clauses are for a sample whose reports (ENGAGED, MOVING) the state does not act on. The reports of a
sample with no new request: in ENGAGING, RUNNING and STOPPING the clutch report and, once the saw is
stopping, the carriage report act; in IDLE and RESERVING they are stored alone. The saw's slot follows its
order, and is written again where the clutch report differs from the clutch order. Each entry to a saw state
and each denial has its entry in the journal, after the end of SAW_SILENT's cause where the mark was set and
after the raise of CLUTCH_FAULT where a clutch report fails. -/
def Obligations.SawSample : Prop :=
  ∀ (num old req clutch carriage : Byte) (s : State),
    let clutchReport : ClutchReport :=
      if clutch = 0 then .opened else if clutch = 1 then .engaged else .fault
    let carriageReport : CarriageReport := if carriage = 0 then .stopped else .moving
    let heard (c : ClutchReport) (m : CarriageReport) : Saw := { s.saw with
      silence := if s.address 2 = 0 then none else some 0, silent := false
      clutchReport := c, carriageReport := m }
    let s0 := if s.saw.silent then causeEnd .sawSilent s else s
    let taken (v : Verdict) : Saw := { heard .engaged .moving with
      lastNumber := some num.toNat
      order := { s.saw.order with echo := num.toNat, verdict := v } }
    let again (c : ClutchReport) (t : State) : List Nat :=
      if (t.saw.order.clutch = .engage ∧ c ≠ .engaged) ∨ (t.saw.order.clutch = .release ∧ c ≠ .opened)
      then [1] else []
    let lit (l : Lamp) (w : Saw) : Saw := { w with order := { w.order with lamp := l } }
    (s.saw.lastNumber = some old.toNat → num ≠ old →
      (s.saw.state = .engaging → s.saw.engagedSeen = true) →
      ∃ t, exec (.sawSample [num, req, 1, 1]) s = .next t ∧
        SlotsFollow (again .engaged t) s t ∧
        KeptBut [.saw, .gov, .shed, .journal, .loop, .conds] s t ∧
        ((req ≠ 2 ∨ s.saw.state ≠ .reserving) → t.gov = s.gov ∧ t.shed = s.shed) ∧
        (3 < req.toNat → t.saw = taken .refused ∧ SameRecord s0 t) ∧
        (req = 0 → SameRecord s0 t ∧
          t.saw = if s.saw.state = .idle then lit .dark (taken .none) else taken .none) ∧
        (req = 1 → s.saw.state = .idle →
          (s.plant.state = .run → s.time.sawOpen = true → s.tables.feedCurve.ready = true →
            t.saw = { lit .wait (taken .accepted) with
              state := .reserving
              reserve := some (s.setting Setting.RESERVE_TIMEOUT * 2000000) } ∧
            SameRecord (sawNoted 1 s0) t) ∧
          (∀ reason : Nat,
            (reason = 0 ∧ s.plant.state ≠ .run ∨
              reason = 1 ∧ s.plant.state = .run ∧ s.time.sawOpen = false ∨
              reason = 2 ∧ s.plant.state = .run ∧ s.time.sawOpen = true ∧
                s.tables.feedCurve.ready = false) →
            t.saw = lit .stop (taken .refused) ∧
            SameRecord { s0 with journal := s.journal.push s.time.clock .sawDenied none reason } t)) ∧
        (req = 1 → s.saw.state ≠ .idle → SameRecord s0 t ∧
          t.saw = taken (if s.saw.state = .stopping then .refused else .accepted)) ∧
        (req = 2 →
          (s.saw.state = .idle → t.saw = lit .dark (taken .none) ∧ SameRecord s0 t) ∧
          (s.saw.state = .reserving →
            SawAtRest .dark { s with saw := taken .accepted } t ∧ SameRecord (sawNoted 0 s0) t) ∧
          (s.saw.state = .engaging ∨ s.saw.state = .running →
            SawStops { s with saw := taken .accepted } t ∧ SameRecord (sawNoted 4 s0) t) ∧
          (s.saw.state = .stopping → t.saw = taken .accepted ∧ SameRecord s0 t)) ∧
        (req = 3 → SameRecord s0 t ∧
          (s.saw.state = .idle → t.saw = lit .dark (taken .none)) ∧
          (s.saw.state = .reserving ∨ s.saw.state = .engaging → t.saw = taken .none) ∧
          (s.saw.state = .stopping → t.saw = taken .refused) ∧
          (∀ g, s.saw.grant = some g → s.saw.state = .running →
            t.saw = if s.setting Setting.EXTEND_MIN_LEFT * 60 ≤ g then
              { taken .accepted with
                grant := some (min (g + s.setting Setting.EXTEND_LENGTH * 60) 14400) }
              else taken .refused))) ∧
    (s.saw.lastNumber = some num.toNat ∨ s.saw.lastNumber = none →
      let w : Saw := { heard clutchReport carriageReport with
        lastNumber := some num.toNat
        order := if s.saw.lastNumber = none then
          { s.saw.order with echo := num.toNat, verdict := .none } else s.saw.order }
      let s1 : State := { s with saw := w }
      let stops : Saw := { w with
        state := .stopping, grant := none, reserve := none, settle := none, confirm := none
        rundown := some (s.setting Setting.RUNDOWN * 2000000), releaseOrdered := false
        order := { w.order with feed := 0, lamp := .stop } }
      let byCarriage (x : Saw) : Saw := if carriage = 0 then released s x else x
      let loses := clutch = 0 ∧
        ((s.saw.state = .engaging ∧ s.saw.engagedSeen = true) ∨ s.saw.state = .running)
      let faults := (2 ≤ clutch.toNat ∧ s.saw.state ≠ .idle ∧ s.saw.state ≠ .reserving) ∨ loses
      let rests := s.saw.state = .stopping ∧ s.saw.releaseOrdered = true ∧ clutch ≠ 1
      let r := if faults then raise .clutchFault none s0 else s0
      ∃ t, exec (.sawSample [num, req, clutch, carriage]) s = .next t ∧
        SlotsFollow (again clutchReport t) s t ∧
        KeptBut [.saw, .gov, .shed, .journal, .loop, .conds] s t ∧
        SameRecord (if rests then sawNoted 0 r
          else if faults ∧ s.saw.state ≠ .stopping then sawNoted 4 r else r) t ∧
        (¬rests → t.gov = s.gov ∧ t.shed = s.shed) ∧
        ((s.saw.state = .idle ∨ s.saw.state = .reserving) → t.saw = w) ∧
        (s.saw.state = .engaging → s.saw.engagedSeen = false →
          (clutch = 0 → t.saw = w) ∧
          (clutch = 1 → t.saw = { w with
            confirm := none, engagedSeen := true
            settle := some (s.setting Setting.ENGAGE_SETTLE * 2000000) }) ∧
          (2 ≤ clutch.toNat → t.saw = byCarriage stops)) ∧
        ((s.saw.state = .engaging ∧ s.saw.engagedSeen = true) ∨ s.saw.state = .running →
          (clutch = 1 → t.saw = w) ∧ (clutch ≠ 1 → t.saw = byCarriage stops)) ∧
        (s.saw.state = .stopping → s.saw.releaseOrdered = false → t.saw = byCarriage w) ∧
        (s.saw.state = .stopping → s.saw.releaseOrdered = true →
          (clutch = 0 → SawAtRest .dark s1 t) ∧ (clutch = 1 → t.saw = w) ∧
          (2 ≤ clutch.toNat → SawAtRest .stop s1 t))) ∧
    (∀ payload : List Byte, payload.length < 4 → exec (.sawSample payload) s = .next s)

/-- The timers of a cut, each in the saw states in which it runs. Each entry to a saw state has its SAW
entry, after the denial that leads to it or the raise of CLUTCH_FAULT; an expiry of a stopped timer changes
nothing, and one of a timer that the saw state does not use does no more than stop it. The record of a demand
update starts with the raises of its period, in the model's order (assumption 5). The saw node falls silent:
the mark is set and SAW_SILENT raised; a reservation is denied with reason SILENT, an engaging or running saw
stops, and at rest or stopping nothing else follows. That an expiry command acts whenever its timer runs is
the model's choice (assumption 4), and the place of the CONDITION entry of a silence that denies a
reservation its reading (assumption 24). At a demand update: a reservation enters ENGAGING on a sufficient
surplus, and else sheds one circuit of tier SAW_FLOOR or above for each settle time; a running saw's feed
follows the deficit; in the other saw states nothing changes. In each case the command slots follow the
orders. -/
def Obligations.SawTimersAndSilence : Prop :=
  ∀ (s : State),
    let denied (reason : Nat) (r : State) : State :=
      sawNoted 0 { r with journal := r.journal.push s.time.clock .sawDenied none reason }
    (s.saw.state = .reserving → s.saw.reserve.isSome →
      ∃ t, exec .reserveTimerExpiry s = .next t ∧ SawAtRest .stop s t ∧ SameRecord (denied 3 s) t ∧
        SlotsFollow [] s t ∧ KeptBut [.saw, .gov, .shed, .journal, .loop] s t) ∧
    ((s.saw.state ≠ .reserving ∨ s.saw.reserve = none) → exec .reserveTimerExpiry s = .next s) ∧
    (s.saw.state ≠ .engaging → s.saw.settle.isSome →
      exec .sawSettleExpiry s = .next { s with saw := { s.saw with settle := none } }) ∧
    (s.saw.settle = none → exec .sawSettleExpiry s = .next s) ∧
    (s.saw.state = .engaging → s.saw.settle.isSome →
      ∃ t, exec .sawSettleExpiry s = .next t ∧
        t.saw = { s.saw with
          state := .running, settle := none
          grant := some (s.setting Setting.GRANT_LENGTH * 60)
          order := { s.saw.order with lamp := .go } } ∧ SameRecord (sawNoted 3 s) t ∧
        SlotsFollow [] s t ∧ KeptBut [.saw, .journal, .loop] s t) ∧
    (s.saw.state = .engaging → s.saw.confirm.isSome →
      ∃ t, exec .clutchConfirmExpiry s = .next t ∧ SawStops s t ∧
        SameRecord (sawNoted 4 (raise .clutchFault none s)) t ∧
        SlotsFollow [] s t ∧ KeptBut [.saw, .conds, .journal, .loop] s t) ∧
    (s.saw.state = .stopping → s.saw.confirm.isSome →
      ∃ t, exec .clutchConfirmExpiry s = .next t ∧ SawAtRest .stop s t ∧
        SameRecord (sawNoted 0 (raise .clutchFault none s)) t ∧
        SlotsFollow [] s t ∧ KeptBut [.saw, .gov, .shed, .conds, .journal, .loop] s t) ∧
    (s.saw.state ≠ .engaging → s.saw.state ≠ .stopping → s.saw.confirm.isSome →
      exec .clutchConfirmExpiry s = .next { s with saw := { s.saw with confirm := none } }) ∧
    (s.saw.confirm = none → exec .clutchConfirmExpiry s = .next s) ∧
    (s.saw.state = .stopping → s.saw.rundown.isSome →
      ∃ t, exec .rundownExpiry s = .next t ∧ t.saw = released s s.saw ∧ SameRecord s t ∧
        SlotsFollow [] s t ∧ KeptBut [.saw, .loop] s t) ∧
    ((s.saw.state ≠ .stopping ∨ s.saw.rundown = none) → exec .rundownExpiry s = .next s) ∧
    (s.saw.state = .running → ∃ t, exec .grantExpiry s = .next t ∧ SawStops s t ∧
      SameRecord (sawNoted 4 s) t ∧ SlotsFollow [] s t ∧ KeptBut [.saw, .journal, .loop] s t) ∧
    (s.saw.state ≠ .running → exec .grantExpiry s = .next s) ∧
    (let s1 : State := { s with saw := { s.saw with silence := none, silent := true } }
     (s.saw.silence.isSome → (s.saw.state = .idle ∨ s.saw.state = .stopping) →
        exec .sawSilenceExpiry s = .next (raise .sawSilent none s1)) ∧
     (s.saw.silence.isSome → s.saw.state = .reserving →
        ∃ t, exec .sawSilenceExpiry s = .next t ∧ SawAtRest .stop s1 t ∧
          SameRecord (raise .sawSilent none (denied 4 s1)) t ∧
          SlotsFollow [] s t ∧ KeptBut [.saw, .gov, .shed, .conds, .journal, .loop] s t) ∧
     (s.saw.silence.isSome → (s.saw.state = .engaging ∨ s.saw.state = .running) →
        ∃ t, exec .sawSilenceExpiry s = .next t ∧ SawStops s1 t ∧
          SameRecord (sawNoted 4 (raise .sawSilent none s1)) t ∧
          SlotsFollow [] s t ∧ KeptBut [.saw, .conds, .journal, .loop] s t) ∧
     (s.saw.silence = none → exec .sawSilenceExpiry s = .next s)) ∧
    (∀ (t : Count) (lag p : Nat), ValidEdge t p s →
      let f : Int := (2000000000 / p : Nat)
      ∃ u, exec (.acceptedRisingCrossingEdge t lag) s = .next u ∧
        let surplus := u.gov.d * s.setting Setting.BALLAST_W / 4096
        let enough := s.setting Setting.SAW_RESERVE_W ≤ surplus
        let alone := s.saw.state ≠ .reserving ∨ enough ∨ s.saw.settle.isSome = true
        let held := s.saw.order.feed
        let feed := interpDown s.tables.feedCurve.vals 100 16 (s.fSet - f).toNat
        let feed' := if held + 10 ≤ feed ∨ feed + 10 ≤ held ∨ (feed ≠ held ∧ (feed = 0 ∨ feed = 1000))
          then feed else held
        (s.loop.slots.length = 8 → 1 ≤ s.setting Setting.RESTORE_DELAY → alone →
          SlotsFollow [] s u) ∧
        ((s.saw.state = .idle ∨ s.saw.state = .engaging ∨ s.saw.state = .stopping) → u.saw = s.saw) ∧
        (s.saw.state = .running → u.saw = { s.saw with order := { s.saw.order with feed := feed' } }) ∧
        (s.saw.state = .reserving → enough →
          u.saw = { s.saw with
            state := .engaging, reserve := none, settle := none, engagedSeen := false
            confirm := some (s.setting Setting.CLUTCH_CONFIRM * 2000000)
            order := { s.saw.order with clutch := .engage, feed := 0, lamp := .wait } } ∧
          u.gov.pendingSet = if u.gov.active = .saw then none else some .saw) ∧
        (s.saw.state = .reserving → ¬enough → s.saw.settle.isSome → u.saw = s.saw) ∧
        (s.saw.state = .reserving → ¬enough → s.saw.settle = none → s.plant.state = .run →
          s.hamlet.entries.length = 48 → s.nominal - s.setting Setting.EMERGENCY_DROP ≤ f →
          0 < u.gov.d →
          (∀ x ∈ s.shed.list, x.cause ≠ .saw → surplus < x.load + s.setting Setting.RESTORE_MARGIN) →
          let candidate := shedCandidate (s.setting Setting.SAW_FLOOR) s.hamlet.entries
          (candidate = none → u.saw = s.saw ∧ u.shed.list = s.shed.list ∧ u.hamlet = s.hamlet ∧
            SameRecord (periodRecord s) u ∧ SlotsFollow [] s u) ∧
          (∀ i, candidate = some i → s.listed i = false → 1 ≤ (s.circuit i).tier →
            u.saw = { s.saw with settle := some (s.setting Setting.SHED_DELAY * 2000000) } ∧
            u.shed.list = s.shed.list ++ [⟨i, .saw, (s.circuit i).reading, s.secondOfDay⟩] ∧
            u.circuit i = { s.circuit i with
              state := .shed, overCount := 0, disagree := 0, reclose := none } ∧
            (∀ j < 48, j ≠ i → u.circuit j = s.circuit j) ∧
            SameRecord (appended i .saw (periodRecord s)) u ∧ SlotsFollow [] s u)))

/-! ## Requests -/

/-- A request that finds the answer queue full is discarded with LOOP_OVERRUN. The requests that only read,
with a place in the answer queue: nothing changes but the answer. READ ENTRIES of each of the ten tables
answers the current entries of the span in the bytes of their layout, or BAD_SPAN for a count of 0, a span
past the end or of more than 58 bytes; a table of another number gives BAD_TABLE. READ STATUS answers the
fields of its section and READ CONDITIONS the three sets and the subjects; a section above 3 and a code above
13 are refused; a payload too short for its tag is discarded. That the speed is computed as it is read, with
the value for a tooth period of 0 free, and that the answer queue's depth is reported without the held place
are the model's choices (assumptions 19, 7, 16), and so is that no more of the slots' contents is reported
than these fields (assumption 23). -/
def Obligations.ReadingRequests : Prop :=
  ∀ (src : Byte) (tag : Word16) (s : State),
    let set (l : List Bool) : Byte := byteOf (bitsOf l.length fun k => l.getD k false)
    let flag (b : Bool) : Byte := if b then 1 else 0
    let ms (x : Option Nat) : List Byte := be32 (match x with
      | some counts => counts / 2000
      | none => 4294967295)
    let cell (n : Nat) : CondCell := s.conds.getD n ⟨false, false, false, none⟩
    let seconds := match s.plant.state with
      | .runup => s.plant.runupTimer.getD 0
      | .stopping => s.plant.stopTimer.getD 0
      | _ => 0
    let speed := match s.edge.toothPeriod with
      | none => 65535
      | some 0 => min 65534 (Config.speedOfZeroPeriod (s.setting Setting.TEETH))
      | some p => min 65534 (120000000 / (p * s.setting Setting.TEETH))
    let banks := [s.firing.step1, s.firing.step2, s.firing.step3].countP fun b => b
    let plant : List Byte :=
      [byteOf s.plant.state.code, byteOf s.plant.cause.code] ++ be16 s.plant.accept ++ be16 seconds ++
        [flag (s.edge.signal == .present)] ++ be16 (s.edge.freq.getD 0) ++ be16 speed ++
        be16 s.gov.d ++ be16 (s.gov.d * s.setting Setting.BALLAST_W / 4096) ++
        [byteOf s.gov.active.code, byteOf ((s.gov.pendingSet.map GainSet.code).getD 255),
          flag s.gov.engaged, byteOf banks, byteOf s.firing.scheduled] ++
        sbe16 s.time.te ++ sbe16 s.offset ++ be16 s.fSet.toNat ++
        be16 (match s.time.clock with
          | some c => c.day.toNat
          | none => 0) ++
        be32 (s.secondOfDay.getD 4294967295) ++
        [set [s.time.eveningOpen, s.time.nightOpen, s.time.sawOpen]]
    let average := if s.water.demandCount = 0 then 0 else s.water.demandSum / s.water.demandCount
    let water : List Byte :=
      [set [s.water.level.isSome, s.water.gatePos.isSome, s.water.demandCount != 0]] ++
        be16 (s.water.level.getD 0) ++ be16 (s.water.head.getD 0) ++ be16 (s.water.flow.getD 0) ++
        be16 s.water.gate ++ be16 (s.water.gatePos.getD 0) ++
        [byteOf ((s.water.gateStatus.map GateStatus.code).getD 0),
          set [s.water.pondSilent, s.water.gateSilent]] ++ be16 average ++ be16 s.water.shortage
    let hamlet : List Byte :=
      [set (s.hamlet.feeders.map fun x => x.silent), byteOf s.shed.list.length] ++
        ms s.shed.shedTimer ++ ms (s.shed.restoreTimer.map fun r => r.elapsed) ++
        [byteOf ((s.shed.restoreTimer.map fun r => r.circuit).getD 255), byteOf s.shed.lockout]
    let saw : List Byte :=
      [byteOf s.saw.state.code] ++ be16 (s.saw.lastNumber.getD 65535) ++
        [byteOf s.saw.order.echo, byteOf s.saw.order.verdict.code] ++ be16 (s.saw.grant.getD 65535) ++
        [byteOf s.saw.order.clutch.code] ++ be16 s.saw.order.feed ++
        [byteOf s.saw.order.lamp.code, byteOf s.saw.order.echo, byteOf s.saw.order.verdict.code,
          byteOf s.saw.clutchReport.code, byteOf s.saw.carriageReport.code, flag s.saw.silent,
          set [s.saw.reserve.isSome, s.saw.settle.isSome, s.saw.confirm.isSome, s.saw.rundown.isSome],
          byteOf s.journal.entries.length] ++ be32 s.journal.next ++
        [byteOf s.loop.ownAddress, flag s.loop.broken, byteOf s.loop.forward.length,
          byteOf s.loop.answers.length, set (s.loop.slots.map fun x => x.pending)]
    let circuit (k : Nat) : List Byte :=
      let c := s.circuit k
      [flag c.present] ++ be16 c.label ++ [byteOf c.tier] ++ be16 c.dayAllow ++ be16 c.eveningAllow ++
        be16 c.nightAllow ++ [byteOf c.state.code, byteOf c.overCount, byteOf c.strikes] ++
        be16 (c.reclose.getD 0) ++ be16 c.reading ++
        [match c.report with
          | .opened => 0
          | .closed => 1
          | .failed => 2
          | .unknown => 3, byteOf c.disagree] ++
        be32 c.energy ++ [flag (s.feeder (k / 8)).silent]
    let shed (x : ShedEntry) : List Byte :=
      [byteOf x.circuit, byteOf x.cause.code] ++ be16 x.load ++ be32 (x.time.getD 4294967295)
    let marks (t : Table) : List Byte :=
      [byteOf (t.marks.countP fun b => b), flag (t.marks.all fun b => b)]
    let directory : List (List Byte) := [
      [1, 9, byteOf (s.tables.nodeMap.marks.countP fun b => b), 1],
      [2, 57, byteOf (s.tables.settings.marks.countP fun b => b), 1],
      [3, 65] ++ marks s.tables.firingMap, [4, 33] ++ marks s.tables.weir,
      [5, 17] ++ marks s.tables.pondCurve, [6, 17] ++ marks s.tables.feedCurve,
      [7, 3, byteOf (s.tables.windowMarks.countP fun b => b), 1],
      [8, 48, byteOf (s.tables.circuitMarks.countP fun b => b), 1],
      [9, byteOf s.shed.list.length, 0, 1], [10, 10, 0, 1]]
    let reads (table : Byte) (size width : Nat) (image : Nat → List Byte) : Prop :=
      ∀ first count : Byte,
        ((count = 0 ∨ size < first.toNat + count.toNat ∨ 58 < count.toNat * width) →
          exec (.readEntries src tag table first count) s =
            .next (answered src tag 1 .badSpan [] s)) ∧
        (1 ≤ count.toNat → first.toNat + count.toNat ≤ size → count.toNat * width ≤ 58 →
          exec (.readEntries src tag table first count) s = .next (answered src tag 1 .done
            ((List.range count.toNat).flatMap fun k => image (first.toNat + k)) s))
    (∀ (i : Instr) (x : Byte × List Byte), i.request = some x → s.answerRoom = false →
      exec i s = .next (raise .loopOverrun none s)) ∧
    (s.answerRoom = true →
      (∀ table first count : Byte, (table = 0 ∨ 10 < table.toNat) →
        exec (.readEntries src tag table first count) s = .next (answered src tag 1 .badTable [] s)) ∧
      reads 1 9 1 (fun k => [byteOf (s.address k)]) ∧
      reads 2 57 2 (fun k => be16 (s.setting k)) ∧
      reads 3 65 2 (fun k => be16 (s.tables.firingMap.vals.getD k 0)) ∧
      reads 4 33 2 (fun k => be16 (s.tables.weir.vals.getD k 0)) ∧
      reads 5 17 2 (fun k => be16 (s.tables.pondCurve.vals.getD k 0)) ∧
      reads 6 17 2 (fun k => be16 (s.tables.feedCurve.vals.getD k 0)) ∧
      reads 7 3 4 (fun k =>
        be16 (s.tables.windows.getD k (0, 0)).1 ++ be16 (s.tables.windows.getD k (0, 0)).2) ∧
      reads 8 48 24 circuit ∧
      reads 9 s.shed.list.length 8 (fun k => ((s.shed.list[k]?).map shed).getD []) ∧
      reads 10 10 4 (fun k => directory.getD k []) ∧
      exec (.readStatus src tag 0) s = .next (answered src tag 3 .done plant s) ∧
      exec (.readStatus src tag 1) s = .next (answered src tag 3 .done water s) ∧
      (s.hamlet.feeders.length = 6 →
        exec (.readStatus src tag 2) s = .next (answered src tag 3 .done hamlet s)) ∧
      (s.loop.slots.length = 8 →
        exec (.readStatus src tag 3) s = .next (answered src tag 3 .done saw s)) ∧
      plant.length = 33 ∧ water.length = 17 ∧ hamlet.length = 12 ∧ saw.length = 27 ∧
      (∀ n : Byte, 3 < n.toNat →
        exec (.readStatus src tag n) s = .next (answered src tag 3 .badValue [] s)) ∧
      (s.conds.length = 25 → exec (.readConditions src tag) s = .next (answered src tag 4 .done
        (be32 (bitsOf 25 fun n => (cell n).flag) ++ be32 (bitsOf 25 fun n => (cell n).notice) ++
          be32 (bitsOf 25 fun n => (cell n).cause) ++ (List.range 25).map fun n =>
            if (cell n).flag then byteOf ((cell n).subject.getD 255) else 255) s)) ∧
      (∀ (code t1 t0 : Byte) (params : List Byte), (code = 0 ∨ 13 < code.toNat) →
        exec (.unknownRequest src (code :: t1 :: t0 :: params)) s =
          .next (answered src (t1 ++ t0) code.toNat .unknownRequest [] s)) ∧
      (∀ payload : List Byte, payload.length < 3 →
        ∃ t, exec (.unknownRequest src payload) s = .next t ∧ t.loop.answers = s.loop.answers ∧
          (s.loop.held = false → t = s)))

/-- WRITE ENTRIES of a span, with a place in the answer queue. Its checks in their order: the table; the
span, with tables 9 and 10 not written; the plant state, which must be STOPPED for the node map and for a
span with NOMINAL_HZ or TEETH; the values. A span that passes is written whole and marked, and the journal
has its entry. Settings: ranges, and the pairs that the span includes; GATE_START in RUNUP and a raised
GATE_RUN_MIN in RUN move the gate target. The firing map, the weir table, the pond curve and the feed curve:
ranges and neighbours, and the flow follows the weir table. The node map: addresses and roles as they would
stand; each role whose address changes takes its silence, its slot and its marks anew. Windows, with the
evaluation that follows. Circuits: ranges and use, the first failing entry deciding, and the placing or
removal of each entry whose present field changes, in index order. Bytes beyond the values are ignored. That
GATE_START rewrites the slot where the value is the same is the model's reading (assumption 14). -/
def Obligations.WriteEntries : Prop :=
  ∀ (src : Byte) (tag : Word16) (first : Byte) (extra : List Byte) (s : State), s.answerRoom = true →
    let n := first.toNat
    let refused (o : ReqOutcome) : State := answered src tag 2 o [] s
    let done (t : State) : State := answered src tag 2 .done [] t
    let stored (table : Nat) (u : TableStore) : State :=
      journalAppend .tableWrite none table { s with tables := u }
    let overTable (t : Table) (new : List Nat) : Table :=
      ⟨overwritten t.vals n new, overwritten t.marks n (new.map fun _ => true)⟩
    let marked (marks : List Bool) (count : Nat) : List Bool :=
      overwritten marks n (List.replicate count true)
    (∀ (table count : Byte) (bytes : List Byte),
      let width := [0, 1, 2, 2, 2, 2, 2, 4, 10].getD table.toNat 0
      let size := [0, 9, 57, 65, 33, 17, 17, 3, 48].getD table.toNat 0
      ((table = 0 ∨ 10 < table.toNat) →
        exec (.writeEntries src tag table first count bytes) s = .next (refused .badTable)) ∧
      (1 ≤ table.toNat → table.toNat ≤ 10 →
        (9 ≤ table.toNat ∨ count = 0 ∨ size < n + count.toNat ∨ 56 < count.toNat * width ∨
          bytes.length < count.toNat * width) →
        exec (.writeEntries src tag table first count bytes) s = .next (refused .badSpan))) ∧
    (∀ words : List Word16, 1 ≤ words.length → words.length ≤ 28 →
      let new := words.map fun w => w.toNat
      let write (table : Byte) : Instr :=
        .writeEntries src tag table first (byteOf words.length) (new.flatMap be16 ++ extra)
      let within (i : Nat) : Prop := n ≤ i ∧ i < n + words.length
      let map' := overTable s.tables.settings new
      let fixed := (within 0 ∨ within 3) ∧ s.plant.state ≠ .stopped
      let paired := ∀ p ∈ settingPairs, within p.1 ∨ within p.2 →
        map'.vals.getD p.1 0 < map'.vals.getD p.2 0
      let inRange := ∀ k < words.length, settingInRange (n + k) (new.getD k 0) = true
      let w := stored 2 { s.tables with settings := map' }
      let moved (g : Nat) : State := { w with
        water := { s.water with gate := g }
        loop := { s.loop with slots := s.loop.slots.set 0 ⟨some (.gate g), true⟩ } }
      let start := map'.vals.getD Setting.GATE_START 0
      let least := map'.vals.getD Setting.GATE_RUN_MIN 0
      let up (a b : Nat) : Bool := decide (a ≤ b)
      let down (a b : Nat) : Bool := decide (b ≤ a)
      let ordered (table : Byte) (size greatest : Nat) (le : Nat → Nat → Bool) (old : Table)
          (after : State) : Prop :=
        old.vals.length = size → old.marks.length = size → n + words.length ≤ size →
        let fault := spanFault le greatest (overTable old new).vals n words.length
        exec (write table) s = .next (if fault = .done then done after else refused fault)
      (s.tables.settings.vals.length = 57 → s.tables.settings.marks.length = 57 →
        n + words.length ≤ 57 →
        (fixed → exec (write 2) s = .next (refused .wrongState)) ∧
        (¬fixed → (¬inRange ∨ ¬paired) → exec (write 2) s = .next (refused .badValue)) ∧
        (¬fixed → inRange → paired → exec (write 2) s = .next (done
          (if within Setting.GATE_START ∧ s.plant.state = .runup then moved start
          else if within Setting.GATE_RUN_MIN ∧ s.plant.state = .run ∧ s.water.gate < least then
            moved least
          else w)))) ∧
      ordered 3 65 4096 up s.tables.firingMap
        (stored 3 { s.tables with firingMap := overTable s.tables.firingMap new }) ∧
      ordered 4 33 65535 up s.tables.weir
        { stored 4 { s.tables with weir := overTable s.tables.weir new } with
          water := { s.water with
            flow := s.water.head.map (interpUp (overTable s.tables.weir new).vals 25 32) } } ∧
      ordered 5 17 1000 up s.tables.pondCurve
        (stored 5 { s.tables with pondCurve := overTable s.tables.pondCurve new }) ∧
      ordered 6 17 1000 down s.tables.feedCurve
        (stored 6 { s.tables with feedCurve := overTable s.tables.feedCurve new })) ∧
    (∀ addresses : List Byte, 1 ≤ addresses.length → n + addresses.length ≤ 9 →
      s.tables.nodeMap.vals.length = 9 → s.tables.nodeMap.marks.length = 9 →
      let write : Instr :=
        .writeEntries src tag 1 first (byteOf addresses.length) (addresses ++ extra)
      let map' := overTable s.tables.nodeMap (addresses.map fun a => a.toNat)
      let addressOf (r : Nat) : Nat := map'.vals.getD r 0
      let bad := (∃ r < 9, 62 < addressOf r ∨ addressOf r = s.loop.ownAddress) ∨
        ∃ r < 9, ∃ q < r, addressOf r = addressOf q ∧ addressOf r ≠ 0
      let changed (r : Nat) : Bool := decide (r < 9) && addressOf r != s.address r
      let timer (r : Nat) : Option Nat := if addressOf r = 0 then none else some 0
      let feeders := s.hamlet.feeders.mapIdx fun k x =>
        if changed (3 + k) then ⟨timer (3 + k), false, none⟩ else x
      let heard := (List.range 6).any (fun k => changed (3 + k)) && feeders.all fun x => !x.silent
      let ends := (if changed 0 then [Condition.pondSilent] else []) ++
        (if changed 1 then [.gateSilent] else []) ++ (if changed 2 then [.sawSilent] else []) ++
        if heard then [.feederSilent] else []
      let slots := s.loop.slots.mapIdx fun k x =>
        if changed (k + 1) = false then x
        else if addressOf (k + 1) = 0 then ⟨none, false⟩
        else if k = 0 then x
        else if k = 1 then ⟨some (.saw s.saw.order), true⟩
        else ⟨some (.feeder (positions s (k - 2))), true⟩
      let w := stored 1 { s.tables with nodeMap := map' }
      let after : State := { ends.foldl (fun x c => causeEnd c x) w with
        water := { s.water with
          pondSilence := if changed 0 then timer 0 else s.water.pondSilence
          pondSilent := !changed 0 && s.water.pondSilent
          gateSilence := if changed 1 then timer 1 else s.water.gateSilence
          gateSilent := !changed 1 && s.water.gateSilent }
        saw := if changed 2 then { s.saw with
          lastNumber := none, silence := timer 2, silent := false
          clutchReport := .unknown, carriageReport := .unknown } else s.saw
        hamlet := { s.hamlet with feeders := feeders }
        loop := { s.loop with slots := slots } }
      (s.plant.state ≠ .stopped → exec write s = .next (refused .wrongState)) ∧
      (s.plant.state = .stopped → bad → exec write s = .next (refused .badValue)) ∧
      (s.plant.state = .stopped → ¬bad → exec write s = .next (done after))) ∧
    (∀ spans : List (Word16 × Word16), 1 ≤ spans.length → n + spans.length ≤ 3 →
      s.tables.windows.length = 3 → s.tables.windowMarks.length = 3 →
      let new := spans.map fun x => (x.1.toNat, x.2.toNat)
      let write : Instr := .writeEntries src tag 7 first (byteOf spans.length)
        (new.flatMap (fun x => be16 x.1 ++ be16 x.2) ++ extra)
      let bad := ∃ x ∈ new, 1439 < x.1 ∨ 1440 < x.2
      let windows' := overwritten s.tables.windows n new
      let w := stored 7 { s.tables with
        windows := windows', windowMarks := marked s.tables.windowMarks spans.length }
      let opens (k : Nat) : Bool := match s.time.clock with
        | some c => inWindow (windows'.getD k (0, 0)) (c.sec / 60)
        | none => false
      let s1 : State := { w with time := { s.time with
        eveningOpen := opens 0, nightOpen := opens 1, sawOpen := opens 2 } }
      (bad → exec write s = .next (refused .badValue)) ∧
      (¬bad → ∃ m, exec write s = .next (done m) ∧ m.tables = s1.tables ∧ m.time = s1.time ∧
        WindowFollows s s1 m m.journal ∧ SameQueue (holding s) m ∧ SlotsFollow [] s m ∧
        KeptBut [.tables, .time, .saw, .gov, .shed, .journal, .loop] s m)) ∧
    (∀ fields : List CircuitFields, 1 ≤ fields.length → fields.length ≤ 5 →
      n + fields.length ≤ 48 → s.hamlet.entries.length = 48 → s.tables.circuitMarks.length = 48 →
      (∀ x ∈ fields, x.present ≤ 255 ∧ x.label ≤ 65535 ∧ x.tier ≤ 255 ∧ x.dayAllow ≤ 65535 ∧
        x.eveningAllow ≤ 65535 ∧ x.nightAllow ≤ 65535) →
      let write : Instr := .writeEntries src tag 8 first (byteOf fields.length)
        ((fields.flatMap fun x => [byteOf x.present] ++ be16 x.label ++ [byteOf x.tier] ++
          be16 x.dayAllow ++ be16 x.eveningAllow ++ be16 x.nightAllow) ++ extra)
      let old (k : Nat) : Circuit := s.circuit (n + k)
      let new (k : Nat) : CircuitFields := fields.getD k ⟨0, 0, 0, 0, 0, 0⟩
      let bad (k : Nat) : Prop := 1 < (new k).present ∨ 999 < (new k).label ∨ 3 < (new k).tier ∨
        ((new k).present = 1 ∧ (new k).label = 0)
      let inUse (k : Nat) : Prop :=
        ((old k).state = .closed ∨ (old k).state = .limitOpen ∨ (old k).state = .shed ∨
          (old k).state = .locked) ∧
        (decide ((new k).present = 1) ≠ (old k).present ∨ (new k).label ≠ (old k).label ∨
          (new k).tier ≠ (old k).tier)
      let after (k : Nat) : Circuit := { old k with
        present := decide ((new k).present = 1), label := (new k).label, tier := (new k).tier
        dayAllow := (new k).dayAllow, eveningAllow := (new k).eveningAllow
        nightAllow := (new k).nightAllow }
      let comes (k : Nat) : Bool :=
        s.inPlant .run && !(old k).present && (new k).present == 1 && (new k).tier != 0
      let w := stored 8 { s.tables with circuitMarks := marked s.tables.circuitMarks fields.length }
      let record := ((List.range fields.length).filter comes).foldl
        (fun r k => appended (n + k) .frequency r) (holding w)
      (∀ k < fields.length, (∀ j < k, ¬bad j ∧ ¬inUse j) →
        (bad k → exec write s = .next (refused .badValue)) ∧
        (¬bad k → inUse k → exec write s = .next (refused .inUse))) ∧
      ((∀ k < fields.length, ¬bad k ∧ ¬inUse k) →
        (∀ k < fields.length, comes k = true → s.listed (n + k) = false) →
        ∃ m, exec write s = .next (done m) ∧ m.tables = w.tables ∧
          (∀ j < 48, (j < n ∨ n + fields.length ≤ j) → m.circuit j = s.circuit j) ∧
          (∀ k < fields.length,
            ((after k).present = (old k).present → m.circuit (n + k) = after k) ∧
            ((old k).present = true → (after k).present = false → m.circuit (n + k) = { after k with
              state := .absent, overCount := 0, disagree := 0, report := .unknown }) ∧
            ((old k).present = false → (after k).present = true →
              (s.plant.state ≠ .run →
                m.circuit (n + k) = { after k with state := .dark, reclose := none }) ∧
              (s.plant.state = .run → (new k).tier = 0 →
                m.circuit (n + k) = { after k with state := .closed, disagree := 0, reclose := none }) ∧
              (comes k = true →
                m.circuit (n + k) = { after k with state := .shed, reclose := none }))) ∧
          m.shed = record.shed ∧ SameRecord record m ∧ SlotsFollow [] s m ∧
          KeptBut [.tables, .hamlet, .shed, .conds, .journal, .loop] s m))

/-- ACKNOWLEDGE and SET NOTICES with a place in the answer queue: a number above 24 refuses the set; else
each named flag clears but that of a persistent condition whose cause holds, and the notice enables become
the set. The answer to ACKNOWLEDGE carries the named conditions that stay active, and all the flags after
it. -/
def Obligations.AcknowledgeAndNotices : Prop :=
  ∀ (src : Byte) (tag : Word16) (set : Word32) (s : State), s.answerRoom = true →
    s.conds.length = 25 →
    let cell (n : Nat) : CondCell := s.conds.getD n ⟨false, false, false, none⟩
    let active (n : Nat) : Bool :=
      (cell n).flag && decide (6 ≤ n) && decide (n ≤ 12) && (cell n).cause
    (2 ^ 25 ≤ set.toNat →
      exec (.acknowledge src tag set) s = .next (answered src tag 5 .badValue [] s) ∧
      exec (.setNotices src tag set) s = .next (answered src tag 6 .badValue [] s)) ∧
    (set.toNat < 2 ^ 25 →
      exec (.acknowledge src tag set) s = .next (answered src tag 5 .done
        (be32 (bitsOf 25 fun n => set.getLsbD n && active n) ++
          be32 (bitsOf 25 fun n => (cell n).flag && (!set.getLsbD n || active n)))
        { s with conds := (List.range 25).map fun n =>
          if set.getLsbD n && (cell n).flag && !active n then
            { cell n with flag := false, subject := none } else cell n }) ∧
      exec (.setNotices src tag set) s = .next (answered src tag 6 .done []
        { s with conds := (List.range 25).map fun n => { cell n with notice := set.getLsbD n } }))

/-- JOURNAL READ with a place in the answer queue: FOUND with the entry while it is held, OUT_OF_RANGE for
a sequence above the newest, NONE otherwise. It changes nothing but the answer queue. -/
def Obligations.JournalRead : Prop :=
  ∀ (src : Byte) (tag : Word16) (s : State) (seq : Word32), s.answerRoom = true →
    journalLaw s = true →
    (∀ e ∈ s.journal.entries, e.seq = seq.toNat →
      exec (.journalRead src tag seq) s = .next (answered src tag 12 .found e.bytes s)) ∧
    (s.journal.next ≤ seq.toNat →
      exec (.journalRead src tag seq) s = .next (answered src tag 12 .outOfRange [] s)) ∧
    (seq.toNat < s.journal.next → (∀ e ∈ s.journal.entries, e.seq ≠ seq.toNat) →
      exec (.journalRead src tag seq) s = .next (answered src tag 12 .none [] s))

/-- An append to the journal, in the four steps of R163. JOURNAL FIND with a place in the answer queue: a
filter out of range and a start above the newest sequence plus one are refused. Else the entries held from
the start on are examined in their order, at most 32 of them: the first that matches both filters is FOUND,
with the resume sequence one above it; without a match the answer is NONE with the next sequence where no
more than 32 stand there, and PARTIAL with the sequence after the 32nd where more do. START_LOST marks a
start below the oldest held, or below the next sequence where the journal is empty. -/
def Obligations.JournalAppendAndFind : Prop :=
  (∀ (time : Option DayClock) (kind : JournalKind) (subject : Option Nat) (value : Int) (j : Journal),
    let held := if j.next = 4294967295 then [] else j.entries
    let seq := if j.next = 4294967295 then 1 else j.next
    (j.push time kind subject value).entries =
      (if 128 ≤ held.length then held.tail else held) ++ [⟨seq, time, kind, subject, value⟩] ∧
    (j.push time kind subject value).next = seq + 1) ∧
  (∀ (src : Byte) (tag : Word16) (s : State) (start : Word32) (kind subject : Byte),
    s.answerRoom = true → journalLaw s = true →
    let find : Instr := .journalFind src tag start kind subject
    let bad := (14 < kind.toNat ∧ kind ≠ 255) ∨ (47 < subject.toNat ∧ subject ≠ 255)
    let lost : Byte := match s.journal.entries with
      | e :: _ => if start.toNat < e.seq then 1 else 0
      | [] => if start.toNat < s.journal.next then 1 else 0
    let hit (e : JournalEntry) : Prop := (kind = 255 ∨ e.kind.code = kind.toNat) ∧
      (subject = 255 ∨ e.subject = some subject.toNat)
    let image (e : JournalEntry) : List Byte :=
      be32 e.seq ++ be16 ((e.time.map fun c => c.day.toNat).getD 0) ++
        be32 ((e.time.map fun c => c.sec).getD 4294967295) ++
        [byteOf e.kind.code, byteOf (e.subject.getD 255)] ++ sbe32 e.value
    let pool := s.journal.entries.filter fun e => decide (start.toNat ≤ e.seq)
    let seen := pool.take 32
    (bad → exec find s = .next (answered src tag 11 .badValue [] s)) ∧
    (¬bad → s.journal.next < start.toNat →
      exec find s = .next (answered src tag 11 .outOfRange [] s)) ∧
    (¬bad → start.toNat ≤ s.journal.next →
      (∀ (before after : List JournalEntry) (e : JournalEntry),
        seen = before ++ e :: after → (∀ x ∈ before, ¬hit x) → hit e →
        exec find s =
          .next (answered src tag 11 .found ([lost] ++ be32 (e.seq + 1) ++ image e) s)) ∧
      ((∀ x ∈ seen, ¬hit x) →
        (pool.length ≤ 32 → exec find s =
          .next (answered src tag 11 .none ([lost] ++ be32 s.journal.next) s)) ∧
        (∀ e, pool[31]? = some e → 33 ≤ pool.length → exec find s =
          .next (answered src tag 11 .partial_ ([lost] ++ be32 (e.seq + 1)) s)))))

/-- RESTART with a place in the answer queue: refused in RUNUP, RUN and STOPPING; in STOPPED and TRIPPED the
plant is STOPPED with cause RESTART, every block takes its warm reset values, the tables, the clock, the
energy and the edge input are kept, the queues and slots are emptied, a frame being sent goes on but is held
no longer, the flags are cleared, and each persistent condition whose cause still holds is raised again after
the RESTART entry; the answer queue then holds the notices of these raises, and the answer last. That the
raises come in the order in which the rule names the blocks is the model's choice (assumption 5). -/
def Obligations.Restart : Prop :=
  ∀ (src : Byte) (tag : Word16) (s : State), s.answerRoom = true →
    ((s.plant.state = .runup ∨ s.plant.state = .run ∨ s.plant.state = .stopping) →
      exec (.restart src tag) s = .next (answered src tag 13 .wrongState [] s)) ∧
    ((s.plant.state = .stopped ∨ s.plant.state = .tripped) → s.conds.length = 25 →
      let shaft := s.edge.shaftCause || (s.edge.toothSilent && s.edge.signal == .present)
      let limit := s.time.te == -30000 || s.time.te == 30000
      let holding : List Condition :=
        (if shaft then [.shaftSensor] else []) ++ (if limit then [.timeErrorLimit] else []) ++
          (if s.water.pondSilent then [.pondSilent] else []) ++
          (if s.water.gateSilent then [.gateSilent] else []) ++
          (if s.hamlet.feeders.any fun x => x.silent then [.feederSilent] else []) ++
          (if s.saw.silent then [.sawSilent] else []) ++
          (if s.loop.broken then [.loopBroken] else [])
      ∃ t, exec (.restart src tag) s = .next t ∧
        t.plant = ⟨.stopped, .restart, 0, none, none, none, none, none⟩ ∧
        t.gov = ⟨0, s.gov.ePrev, 0, .normal, none, false⟩ ∧
        t.firing = ⟨false, false, false, [], false, 0⟩ ∧
        t.time = { s.time with direction := .zero } ∧
        t.water = { s.water with
          gate := 0, demandSum := 0, demandCount := 0, evalTimer := none, shortage := 0 } ∧
        t.hamlet = { s.hamlet with entries := s.hamlet.entries.map fun c =>
          if c.state = .dark then { c with overCount := 0, disagree := 0 } else c } ∧
        t.shed = ⟨[], none, 0, none⟩ ∧
        t.saw = { s.saw with
          state := .idle, lastNumber := none, grant := none, reserve := none, settle := none
          confirm := none, rundown := none, releaseOrdered := false, engagedSeen := false
          order := ⟨.release, 0, .dark, 0, .none⟩ } ∧
        t.edge = { s.edge with shaftCause := shaft } ∧
        (∀ c : Condition, t.cond c =
          ⟨holding.contains c, (s.cond c).notice, holding.contains c, none⟩) ∧
        t.journal = holding.foldl (fun j c => j.push s.time.clock .condition none c.num)
          (s.journal.push s.time.clock .restart none
            (s.plant.state.code * 256 + s.plant.cause.code)) ∧
        SameRecord (answered src tag 13 .done [] (holding.foldl (fun r c => raise c none r) { s with
          conds := s.conds.map fun c => ⟨false, c.notice, false, none⟩
          journal := s.journal.push s.time.clock .restart none
            (s.plant.state.code * 256 + s.plant.cause.code)
          loop := { s.loop with answers := [], held := true } })) t ∧
        t.loop = { s.loop with
          forward := [], answers := t.loop.answers, held := false
          slots := List.replicate 8 ⟨none, false⟩, lastSource := .answers, lastSlot := 7
          sending := s.loop.sending.map fun x => { x with from_ := none } } ∧
        KeptBut [.edge, .time, .gov, .firing, .plant, .water, .hamlet, .shed, .saw, .conds, .journal,
          .loop] s t)

/-! ## Conditions and the journal -/

/-- A raise: the flag is set; a persistent condition carries its cause mark; the first raise since the last
acknowledgement takes the subject, appends the CONDITION entry and, with the enable on, NOTICE_ADDRESS not 0
and a place free, queues its notice with that entry's sequence; a later one leaves all of these; no other
condition changes. A cause end clears the cause mark alone. -/
def Obligations.RaiseAndCauseEnd : Prop :=
  ∀ (c : Condition) (subject : Option Nat) (s : State), s.conds.length = 25 →
    ((raise c subject s).cond c = { s.cond c with
      flag := true
      cause := (decide (6 ≤ c.num) && decide (c.num ≤ 12)) || (s.cond c).cause
      subject := if (s.cond c).flag then (s.cond c).subject else subject }) ∧
    (∀ d, d ≠ c → (raise c subject s).cond d = s.cond d) ∧
    (raise c subject s).journal = (if (s.cond c).flag then s.journal
      else s.journal.push s.time.clock .condition subject c.num) ∧
    (let offered := (s.cond c).flag = false ∧ (s.cond c).notice = true ∧
       s.setting Setting.NOTICE_ADDRESS ≠ 0 ∧ s.answerRoom = true
     let seq := if s.journal.next = 4294967295 then 1 else s.journal.next
     let classOf := if c.num ≤ 5 then 0 else if c.num ≤ 22 then 1 else 2
     let notice := buildFrame (s.setting Setting.NOTICE_ADDRESS) s.loop.ownAddress 0x32
       ([byteOf c.num, byteOf classOf, byteOf (subject.getD 255)] ++ be32 seq)
     (offered → (raise c subject s).loop =
       { s.loop with answers := s.loop.answers ++ [notice] }) ∧
     (¬offered → (raise c subject s).loop = s.loop)) ∧
    KeptBut [.conds, .journal, .loop] s (raise c subject s) ∧
    (causeEnd c s).cond c = { s.cond c with cause := false } ∧
    (∀ d, d ≠ c → (causeEnd c s).cond d = s.cond d) ∧
    KeptBut [.conds] s (causeEnd c s)
end

