-- ==== Sys2Proof/Laws/State.lean ====
section
/-! SUPPORT. What each update of a block leaves as it was and what it changes: one lemma for each field and
update, and one for each shared read that the update does not touch. -/

namespace Sys2Proof.Machine

section Edge

variable (f : EdgeCapture → EdgeCapture) (s : State)

@[simp] theorem State.mapEdge_edge : (s.mapEdge f).edge = f s.edge := rfl
@[simp] theorem State.mapEdge_pins : (s.mapEdge f).pins = s.pins := rfl
@[simp] theorem State.mapEdge_time : (s.mapEdge f).time = s.time := rfl
@[simp] theorem State.mapEdge_gov : (s.mapEdge f).gov = s.gov := rfl
@[simp] theorem State.mapEdge_firing : (s.mapEdge f).firing = s.firing := rfl
@[simp] theorem State.mapEdge_plant : (s.mapEdge f).plant = s.plant := rfl
@[simp] theorem State.mapEdge_water : (s.mapEdge f).water = s.water := rfl
@[simp] theorem State.mapEdge_hamlet : (s.mapEdge f).hamlet = s.hamlet := rfl
@[simp] theorem State.mapEdge_shed : (s.mapEdge f).shed = s.shed := rfl
@[simp] theorem State.mapEdge_saw : (s.mapEdge f).saw = s.saw := rfl
@[simp] theorem State.mapEdge_conds : (s.mapEdge f).conds = s.conds := rfl
@[simp] theorem State.mapEdge_journal : (s.mapEdge f).journal = s.journal := rfl
@[simp] theorem State.mapEdge_tables : (s.mapEdge f).tables = s.tables := rfl
@[simp] theorem State.mapEdge_loop : (s.mapEdge f).loop = s.loop := rfl
@[simp] theorem State.mapEdge_draws : (s.mapEdge f).draws = s.draws := rfl
@[simp] theorem State.mapEdge_pending : (s.mapEdge f).pending = s.pending := rfl
@[simp] theorem State.mapEdge_setting (i : Nat) : (s.mapEdge f).setting i = s.setting i := rfl
@[simp] theorem State.mapEdge_circuit (i : Nat) : (s.mapEdge f).circuit i = s.circuit i := rfl
@[simp] theorem State.mapEdge_feeder (k : Nat) : (s.mapEdge f).feeder k = s.feeder k := rfl
@[simp] theorem State.mapEdge_mapped (r : Nat) : (s.mapEdge f).mapped r = s.mapped r := rfl
@[simp] theorem State.mapEdge_address (r : Nat) : (s.mapEdge f).address r = s.address r := rfl
@[simp] theorem State.mapEdge_inPlant (p : PlantState) : (s.mapEdge f).inPlant p = s.inPlant p := rfl
@[simp] theorem State.mapEdge_cond (c : Condition) : (s.mapEdge f).cond c = s.cond c := rfl

end Edge

section Pins

variable (f : Pins → Pins) (s : State)

@[simp] theorem State.mapPins_edge : (s.mapPins f).edge = s.edge := rfl
@[simp] theorem State.mapPins_pins : (s.mapPins f).pins = f s.pins := rfl
@[simp] theorem State.mapPins_time : (s.mapPins f).time = s.time := rfl
@[simp] theorem State.mapPins_gov : (s.mapPins f).gov = s.gov := rfl
@[simp] theorem State.mapPins_firing : (s.mapPins f).firing = s.firing := rfl
@[simp] theorem State.mapPins_plant : (s.mapPins f).plant = s.plant := rfl
@[simp] theorem State.mapPins_water : (s.mapPins f).water = s.water := rfl
@[simp] theorem State.mapPins_hamlet : (s.mapPins f).hamlet = s.hamlet := rfl
@[simp] theorem State.mapPins_shed : (s.mapPins f).shed = s.shed := rfl
@[simp] theorem State.mapPins_saw : (s.mapPins f).saw = s.saw := rfl
@[simp] theorem State.mapPins_conds : (s.mapPins f).conds = s.conds := rfl
@[simp] theorem State.mapPins_journal : (s.mapPins f).journal = s.journal := rfl
@[simp] theorem State.mapPins_tables : (s.mapPins f).tables = s.tables := rfl
@[simp] theorem State.mapPins_loop : (s.mapPins f).loop = s.loop := rfl
@[simp] theorem State.mapPins_draws : (s.mapPins f).draws = s.draws := rfl
@[simp] theorem State.mapPins_pending : (s.mapPins f).pending = s.pending := rfl
@[simp] theorem State.mapPins_setting (i : Nat) : (s.mapPins f).setting i = s.setting i := rfl
@[simp] theorem State.mapPins_circuit (i : Nat) : (s.mapPins f).circuit i = s.circuit i := rfl
@[simp] theorem State.mapPins_feeder (k : Nat) : (s.mapPins f).feeder k = s.feeder k := rfl
@[simp] theorem State.mapPins_mapped (r : Nat) : (s.mapPins f).mapped r = s.mapped r := rfl
@[simp] theorem State.mapPins_address (r : Nat) : (s.mapPins f).address r = s.address r := rfl
@[simp] theorem State.mapPins_inPlant (p : PlantState) : (s.mapPins f).inPlant p = s.inPlant p := rfl
@[simp] theorem State.mapPins_cond (c : Condition) : (s.mapPins f).cond c = s.cond c := rfl

end Pins

section Time

variable (f : MillTime → MillTime) (s : State)

@[simp] theorem State.mapTime_edge : (s.mapTime f).edge = s.edge := rfl
@[simp] theorem State.mapTime_pins : (s.mapTime f).pins = s.pins := rfl
@[simp] theorem State.mapTime_time : (s.mapTime f).time = f s.time := rfl
@[simp] theorem State.mapTime_gov : (s.mapTime f).gov = s.gov := rfl
@[simp] theorem State.mapTime_firing : (s.mapTime f).firing = s.firing := rfl
@[simp] theorem State.mapTime_plant : (s.mapTime f).plant = s.plant := rfl
@[simp] theorem State.mapTime_water : (s.mapTime f).water = s.water := rfl
@[simp] theorem State.mapTime_hamlet : (s.mapTime f).hamlet = s.hamlet := rfl
@[simp] theorem State.mapTime_shed : (s.mapTime f).shed = s.shed := rfl
@[simp] theorem State.mapTime_saw : (s.mapTime f).saw = s.saw := rfl
@[simp] theorem State.mapTime_conds : (s.mapTime f).conds = s.conds := rfl
@[simp] theorem State.mapTime_journal : (s.mapTime f).journal = s.journal := rfl
@[simp] theorem State.mapTime_tables : (s.mapTime f).tables = s.tables := rfl
@[simp] theorem State.mapTime_loop : (s.mapTime f).loop = s.loop := rfl
@[simp] theorem State.mapTime_draws : (s.mapTime f).draws = s.draws := rfl
@[simp] theorem State.mapTime_pending : (s.mapTime f).pending = s.pending := rfl
@[simp] theorem State.mapTime_setting (i : Nat) : (s.mapTime f).setting i = s.setting i := rfl
@[simp] theorem State.mapTime_circuit (i : Nat) : (s.mapTime f).circuit i = s.circuit i := rfl
@[simp] theorem State.mapTime_feeder (k : Nat) : (s.mapTime f).feeder k = s.feeder k := rfl
@[simp] theorem State.mapTime_mapped (r : Nat) : (s.mapTime f).mapped r = s.mapped r := rfl
@[simp] theorem State.mapTime_address (r : Nat) : (s.mapTime f).address r = s.address r := rfl
@[simp] theorem State.mapTime_inPlant (p : PlantState) : (s.mapTime f).inPlant p = s.inPlant p := rfl
@[simp] theorem State.mapTime_cond (c : Condition) : (s.mapTime f).cond c = s.cond c := rfl

end Time

section Gov

variable (f : Governor → Governor) (s : State)

@[simp] theorem State.mapGov_edge : (s.mapGov f).edge = s.edge := rfl
@[simp] theorem State.mapGov_pins : (s.mapGov f).pins = s.pins := rfl
@[simp] theorem State.mapGov_time : (s.mapGov f).time = s.time := rfl
@[simp] theorem State.mapGov_gov : (s.mapGov f).gov = f s.gov := rfl
@[simp] theorem State.mapGov_firing : (s.mapGov f).firing = s.firing := rfl
@[simp] theorem State.mapGov_plant : (s.mapGov f).plant = s.plant := rfl
@[simp] theorem State.mapGov_water : (s.mapGov f).water = s.water := rfl
@[simp] theorem State.mapGov_hamlet : (s.mapGov f).hamlet = s.hamlet := rfl
@[simp] theorem State.mapGov_shed : (s.mapGov f).shed = s.shed := rfl
@[simp] theorem State.mapGov_saw : (s.mapGov f).saw = s.saw := rfl
@[simp] theorem State.mapGov_conds : (s.mapGov f).conds = s.conds := rfl
@[simp] theorem State.mapGov_journal : (s.mapGov f).journal = s.journal := rfl
@[simp] theorem State.mapGov_tables : (s.mapGov f).tables = s.tables := rfl
@[simp] theorem State.mapGov_loop : (s.mapGov f).loop = s.loop := rfl
@[simp] theorem State.mapGov_draws : (s.mapGov f).draws = s.draws := rfl
@[simp] theorem State.mapGov_pending : (s.mapGov f).pending = s.pending := rfl
@[simp] theorem State.mapGov_setting (i : Nat) : (s.mapGov f).setting i = s.setting i := rfl
@[simp] theorem State.mapGov_circuit (i : Nat) : (s.mapGov f).circuit i = s.circuit i := rfl
@[simp] theorem State.mapGov_feeder (k : Nat) : (s.mapGov f).feeder k = s.feeder k := rfl
@[simp] theorem State.mapGov_mapped (r : Nat) : (s.mapGov f).mapped r = s.mapped r := rfl
@[simp] theorem State.mapGov_address (r : Nat) : (s.mapGov f).address r = s.address r := rfl
@[simp] theorem State.mapGov_inPlant (p : PlantState) : (s.mapGov f).inPlant p = s.inPlant p := rfl
@[simp] theorem State.mapGov_cond (c : Condition) : (s.mapGov f).cond c = s.cond c := rfl

end Gov

section Firing

variable (f : Firing → Firing) (s : State)

@[simp] theorem State.mapFiring_edge : (s.mapFiring f).edge = s.edge := rfl
@[simp] theorem State.mapFiring_pins : (s.mapFiring f).pins = s.pins := rfl
@[simp] theorem State.mapFiring_time : (s.mapFiring f).time = s.time := rfl
@[simp] theorem State.mapFiring_gov : (s.mapFiring f).gov = s.gov := rfl
@[simp] theorem State.mapFiring_firing : (s.mapFiring f).firing = f s.firing := rfl
@[simp] theorem State.mapFiring_plant : (s.mapFiring f).plant = s.plant := rfl
@[simp] theorem State.mapFiring_water : (s.mapFiring f).water = s.water := rfl
@[simp] theorem State.mapFiring_hamlet : (s.mapFiring f).hamlet = s.hamlet := rfl
@[simp] theorem State.mapFiring_shed : (s.mapFiring f).shed = s.shed := rfl
@[simp] theorem State.mapFiring_saw : (s.mapFiring f).saw = s.saw := rfl
@[simp] theorem State.mapFiring_conds : (s.mapFiring f).conds = s.conds := rfl
@[simp] theorem State.mapFiring_journal : (s.mapFiring f).journal = s.journal := rfl
@[simp] theorem State.mapFiring_tables : (s.mapFiring f).tables = s.tables := rfl
@[simp] theorem State.mapFiring_loop : (s.mapFiring f).loop = s.loop := rfl
@[simp] theorem State.mapFiring_draws : (s.mapFiring f).draws = s.draws := rfl
@[simp] theorem State.mapFiring_pending : (s.mapFiring f).pending = s.pending := rfl
@[simp] theorem State.mapFiring_setting (i : Nat) : (s.mapFiring f).setting i = s.setting i := rfl
@[simp] theorem State.mapFiring_circuit (i : Nat) : (s.mapFiring f).circuit i = s.circuit i := rfl
@[simp] theorem State.mapFiring_feeder (k : Nat) : (s.mapFiring f).feeder k = s.feeder k := rfl
@[simp] theorem State.mapFiring_mapped (r : Nat) : (s.mapFiring f).mapped r = s.mapped r := rfl
@[simp] theorem State.mapFiring_address (r : Nat) : (s.mapFiring f).address r = s.address r := rfl
@[simp] theorem State.mapFiring_inPlant (p : PlantState) : (s.mapFiring f).inPlant p = s.inPlant p := rfl
@[simp] theorem State.mapFiring_cond (c : Condition) : (s.mapFiring f).cond c = s.cond c := rfl

end Firing

section Plant

variable (f : Plant → Plant) (s : State)

@[simp] theorem State.mapPlant_edge : (s.mapPlant f).edge = s.edge := rfl
@[simp] theorem State.mapPlant_pins : (s.mapPlant f).pins = s.pins := rfl
@[simp] theorem State.mapPlant_time : (s.mapPlant f).time = s.time := rfl
@[simp] theorem State.mapPlant_gov : (s.mapPlant f).gov = s.gov := rfl
@[simp] theorem State.mapPlant_firing : (s.mapPlant f).firing = s.firing := rfl
@[simp] theorem State.mapPlant_plant : (s.mapPlant f).plant = f s.plant := rfl
@[simp] theorem State.mapPlant_water : (s.mapPlant f).water = s.water := rfl
@[simp] theorem State.mapPlant_hamlet : (s.mapPlant f).hamlet = s.hamlet := rfl
@[simp] theorem State.mapPlant_shed : (s.mapPlant f).shed = s.shed := rfl
@[simp] theorem State.mapPlant_saw : (s.mapPlant f).saw = s.saw := rfl
@[simp] theorem State.mapPlant_conds : (s.mapPlant f).conds = s.conds := rfl
@[simp] theorem State.mapPlant_journal : (s.mapPlant f).journal = s.journal := rfl
@[simp] theorem State.mapPlant_tables : (s.mapPlant f).tables = s.tables := rfl
@[simp] theorem State.mapPlant_loop : (s.mapPlant f).loop = s.loop := rfl
@[simp] theorem State.mapPlant_draws : (s.mapPlant f).draws = s.draws := rfl
@[simp] theorem State.mapPlant_pending : (s.mapPlant f).pending = s.pending := rfl
@[simp] theorem State.mapPlant_setting (i : Nat) : (s.mapPlant f).setting i = s.setting i := rfl
@[simp] theorem State.mapPlant_circuit (i : Nat) : (s.mapPlant f).circuit i = s.circuit i := rfl
@[simp] theorem State.mapPlant_feeder (k : Nat) : (s.mapPlant f).feeder k = s.feeder k := rfl
@[simp] theorem State.mapPlant_mapped (r : Nat) : (s.mapPlant f).mapped r = s.mapped r := rfl
@[simp] theorem State.mapPlant_address (r : Nat) : (s.mapPlant f).address r = s.address r := rfl
@[simp] theorem State.mapPlant_cond (c : Condition) : (s.mapPlant f).cond c = s.cond c := rfl

end Plant

section Water

variable (f : Water → Water) (s : State)

@[simp] theorem State.mapWater_edge : (s.mapWater f).edge = s.edge := rfl
@[simp] theorem State.mapWater_pins : (s.mapWater f).pins = s.pins := rfl
@[simp] theorem State.mapWater_time : (s.mapWater f).time = s.time := rfl
@[simp] theorem State.mapWater_gov : (s.mapWater f).gov = s.gov := rfl
@[simp] theorem State.mapWater_firing : (s.mapWater f).firing = s.firing := rfl
@[simp] theorem State.mapWater_plant : (s.mapWater f).plant = s.plant := rfl
@[simp] theorem State.mapWater_water : (s.mapWater f).water = f s.water := rfl
@[simp] theorem State.mapWater_hamlet : (s.mapWater f).hamlet = s.hamlet := rfl
@[simp] theorem State.mapWater_shed : (s.mapWater f).shed = s.shed := rfl
@[simp] theorem State.mapWater_saw : (s.mapWater f).saw = s.saw := rfl
@[simp] theorem State.mapWater_conds : (s.mapWater f).conds = s.conds := rfl
@[simp] theorem State.mapWater_journal : (s.mapWater f).journal = s.journal := rfl
@[simp] theorem State.mapWater_tables : (s.mapWater f).tables = s.tables := rfl
@[simp] theorem State.mapWater_loop : (s.mapWater f).loop = s.loop := rfl
@[simp] theorem State.mapWater_draws : (s.mapWater f).draws = s.draws := rfl
@[simp] theorem State.mapWater_pending : (s.mapWater f).pending = s.pending := rfl
@[simp] theorem State.mapWater_setting (i : Nat) : (s.mapWater f).setting i = s.setting i := rfl
@[simp] theorem State.mapWater_circuit (i : Nat) : (s.mapWater f).circuit i = s.circuit i := rfl
@[simp] theorem State.mapWater_feeder (k : Nat) : (s.mapWater f).feeder k = s.feeder k := rfl
@[simp] theorem State.mapWater_mapped (r : Nat) : (s.mapWater f).mapped r = s.mapped r := rfl
@[simp] theorem State.mapWater_address (r : Nat) : (s.mapWater f).address r = s.address r := rfl
@[simp] theorem State.mapWater_inPlant (p : PlantState) : (s.mapWater f).inPlant p = s.inPlant p := rfl
@[simp] theorem State.mapWater_cond (c : Condition) : (s.mapWater f).cond c = s.cond c := rfl

end Water

section Hamlet

variable (f : Hamlet → Hamlet) (s : State)

@[simp] theorem State.mapHamlet_edge : (s.mapHamlet f).edge = s.edge := rfl
@[simp] theorem State.mapHamlet_pins : (s.mapHamlet f).pins = s.pins := rfl
@[simp] theorem State.mapHamlet_time : (s.mapHamlet f).time = s.time := rfl
@[simp] theorem State.mapHamlet_gov : (s.mapHamlet f).gov = s.gov := rfl
@[simp] theorem State.mapHamlet_firing : (s.mapHamlet f).firing = s.firing := rfl
@[simp] theorem State.mapHamlet_plant : (s.mapHamlet f).plant = s.plant := rfl
@[simp] theorem State.mapHamlet_water : (s.mapHamlet f).water = s.water := rfl
@[simp] theorem State.mapHamlet_hamlet : (s.mapHamlet f).hamlet = f s.hamlet := rfl
@[simp] theorem State.mapHamlet_shed : (s.mapHamlet f).shed = s.shed := rfl
@[simp] theorem State.mapHamlet_saw : (s.mapHamlet f).saw = s.saw := rfl
@[simp] theorem State.mapHamlet_conds : (s.mapHamlet f).conds = s.conds := rfl
@[simp] theorem State.mapHamlet_journal : (s.mapHamlet f).journal = s.journal := rfl
@[simp] theorem State.mapHamlet_tables : (s.mapHamlet f).tables = s.tables := rfl
@[simp] theorem State.mapHamlet_loop : (s.mapHamlet f).loop = s.loop := rfl
@[simp] theorem State.mapHamlet_draws : (s.mapHamlet f).draws = s.draws := rfl
@[simp] theorem State.mapHamlet_pending : (s.mapHamlet f).pending = s.pending := rfl
@[simp] theorem State.mapHamlet_setting (i : Nat) : (s.mapHamlet f).setting i = s.setting i := rfl
@[simp] theorem State.mapHamlet_mapped (r : Nat) : (s.mapHamlet f).mapped r = s.mapped r := rfl
@[simp] theorem State.mapHamlet_address (r : Nat) : (s.mapHamlet f).address r = s.address r := rfl
@[simp] theorem State.mapHamlet_inPlant (p : PlantState) : (s.mapHamlet f).inPlant p = s.inPlant p := rfl
@[simp] theorem State.mapHamlet_cond (c : Condition) : (s.mapHamlet f).cond c = s.cond c := rfl

end Hamlet

section Shed

variable (f : Shedding → Shedding) (s : State)

@[simp] theorem State.mapShed_edge : (s.mapShed f).edge = s.edge := rfl
@[simp] theorem State.mapShed_pins : (s.mapShed f).pins = s.pins := rfl
@[simp] theorem State.mapShed_time : (s.mapShed f).time = s.time := rfl
@[simp] theorem State.mapShed_gov : (s.mapShed f).gov = s.gov := rfl
@[simp] theorem State.mapShed_firing : (s.mapShed f).firing = s.firing := rfl
@[simp] theorem State.mapShed_plant : (s.mapShed f).plant = s.plant := rfl
@[simp] theorem State.mapShed_water : (s.mapShed f).water = s.water := rfl
@[simp] theorem State.mapShed_hamlet : (s.mapShed f).hamlet = s.hamlet := rfl
@[simp] theorem State.mapShed_shed : (s.mapShed f).shed = f s.shed := rfl
@[simp] theorem State.mapShed_saw : (s.mapShed f).saw = s.saw := rfl
@[simp] theorem State.mapShed_conds : (s.mapShed f).conds = s.conds := rfl
@[simp] theorem State.mapShed_journal : (s.mapShed f).journal = s.journal := rfl
@[simp] theorem State.mapShed_tables : (s.mapShed f).tables = s.tables := rfl
@[simp] theorem State.mapShed_loop : (s.mapShed f).loop = s.loop := rfl
@[simp] theorem State.mapShed_draws : (s.mapShed f).draws = s.draws := rfl
@[simp] theorem State.mapShed_pending : (s.mapShed f).pending = s.pending := rfl
@[simp] theorem State.mapShed_setting (i : Nat) : (s.mapShed f).setting i = s.setting i := rfl
@[simp] theorem State.mapShed_circuit (i : Nat) : (s.mapShed f).circuit i = s.circuit i := rfl
@[simp] theorem State.mapShed_feeder (k : Nat) : (s.mapShed f).feeder k = s.feeder k := rfl
@[simp] theorem State.mapShed_mapped (r : Nat) : (s.mapShed f).mapped r = s.mapped r := rfl
@[simp] theorem State.mapShed_address (r : Nat) : (s.mapShed f).address r = s.address r := rfl
@[simp] theorem State.mapShed_inPlant (p : PlantState) : (s.mapShed f).inPlant p = s.inPlant p := rfl
@[simp] theorem State.mapShed_cond (c : Condition) : (s.mapShed f).cond c = s.cond c := rfl

end Shed

section Saw

variable (f : Saw → Saw) (s : State)

@[simp] theorem State.mapSaw_edge : (s.mapSaw f).edge = s.edge := rfl
@[simp] theorem State.mapSaw_pins : (s.mapSaw f).pins = s.pins := rfl
@[simp] theorem State.mapSaw_time : (s.mapSaw f).time = s.time := rfl
@[simp] theorem State.mapSaw_gov : (s.mapSaw f).gov = s.gov := rfl
@[simp] theorem State.mapSaw_firing : (s.mapSaw f).firing = s.firing := rfl
@[simp] theorem State.mapSaw_plant : (s.mapSaw f).plant = s.plant := rfl
@[simp] theorem State.mapSaw_water : (s.mapSaw f).water = s.water := rfl
@[simp] theorem State.mapSaw_hamlet : (s.mapSaw f).hamlet = s.hamlet := rfl
@[simp] theorem State.mapSaw_shed : (s.mapSaw f).shed = s.shed := rfl
@[simp] theorem State.mapSaw_saw : (s.mapSaw f).saw = f s.saw := rfl
@[simp] theorem State.mapSaw_conds : (s.mapSaw f).conds = s.conds := rfl
@[simp] theorem State.mapSaw_journal : (s.mapSaw f).journal = s.journal := rfl
@[simp] theorem State.mapSaw_tables : (s.mapSaw f).tables = s.tables := rfl
@[simp] theorem State.mapSaw_loop : (s.mapSaw f).loop = s.loop := rfl
@[simp] theorem State.mapSaw_draws : (s.mapSaw f).draws = s.draws := rfl
@[simp] theorem State.mapSaw_pending : (s.mapSaw f).pending = s.pending := rfl
@[simp] theorem State.mapSaw_setting (i : Nat) : (s.mapSaw f).setting i = s.setting i := rfl
@[simp] theorem State.mapSaw_circuit (i : Nat) : (s.mapSaw f).circuit i = s.circuit i := rfl
@[simp] theorem State.mapSaw_feeder (k : Nat) : (s.mapSaw f).feeder k = s.feeder k := rfl
@[simp] theorem State.mapSaw_mapped (r : Nat) : (s.mapSaw f).mapped r = s.mapped r := rfl
@[simp] theorem State.mapSaw_address (r : Nat) : (s.mapSaw f).address r = s.address r := rfl
@[simp] theorem State.mapSaw_inPlant (p : PlantState) : (s.mapSaw f).inPlant p = s.inPlant p := rfl
@[simp] theorem State.mapSaw_cond (c : Condition) : (s.mapSaw f).cond c = s.cond c := rfl

end Saw

section Conds

variable (f : List CondCell → List CondCell) (s : State)

@[simp] theorem State.mapConds_edge : (s.mapConds f).edge = s.edge := rfl
@[simp] theorem State.mapConds_pins : (s.mapConds f).pins = s.pins := rfl
@[simp] theorem State.mapConds_time : (s.mapConds f).time = s.time := rfl
@[simp] theorem State.mapConds_gov : (s.mapConds f).gov = s.gov := rfl
@[simp] theorem State.mapConds_firing : (s.mapConds f).firing = s.firing := rfl
@[simp] theorem State.mapConds_plant : (s.mapConds f).plant = s.plant := rfl
@[simp] theorem State.mapConds_water : (s.mapConds f).water = s.water := rfl
@[simp] theorem State.mapConds_hamlet : (s.mapConds f).hamlet = s.hamlet := rfl
@[simp] theorem State.mapConds_shed : (s.mapConds f).shed = s.shed := rfl
@[simp] theorem State.mapConds_saw : (s.mapConds f).saw = s.saw := rfl
@[simp] theorem State.mapConds_conds : (s.mapConds f).conds = f s.conds := rfl
@[simp] theorem State.mapConds_journal : (s.mapConds f).journal = s.journal := rfl
@[simp] theorem State.mapConds_tables : (s.mapConds f).tables = s.tables := rfl
@[simp] theorem State.mapConds_loop : (s.mapConds f).loop = s.loop := rfl
@[simp] theorem State.mapConds_draws : (s.mapConds f).draws = s.draws := rfl
@[simp] theorem State.mapConds_pending : (s.mapConds f).pending = s.pending := rfl
@[simp] theorem State.mapConds_setting (i : Nat) : (s.mapConds f).setting i = s.setting i := rfl
@[simp] theorem State.mapConds_circuit (i : Nat) : (s.mapConds f).circuit i = s.circuit i := rfl
@[simp] theorem State.mapConds_feeder (k : Nat) : (s.mapConds f).feeder k = s.feeder k := rfl
@[simp] theorem State.mapConds_mapped (r : Nat) : (s.mapConds f).mapped r = s.mapped r := rfl
@[simp] theorem State.mapConds_address (r : Nat) : (s.mapConds f).address r = s.address r := rfl
@[simp] theorem State.mapConds_inPlant (p : PlantState) : (s.mapConds f).inPlant p = s.inPlant p := rfl

end Conds

section Journal

variable (f : Journal → Journal) (s : State)

@[simp] theorem State.mapJournal_edge : (s.mapJournal f).edge = s.edge := rfl
@[simp] theorem State.mapJournal_pins : (s.mapJournal f).pins = s.pins := rfl
@[simp] theorem State.mapJournal_time : (s.mapJournal f).time = s.time := rfl
@[simp] theorem State.mapJournal_gov : (s.mapJournal f).gov = s.gov := rfl
@[simp] theorem State.mapJournal_firing : (s.mapJournal f).firing = s.firing := rfl
@[simp] theorem State.mapJournal_plant : (s.mapJournal f).plant = s.plant := rfl
@[simp] theorem State.mapJournal_water : (s.mapJournal f).water = s.water := rfl
@[simp] theorem State.mapJournal_hamlet : (s.mapJournal f).hamlet = s.hamlet := rfl
@[simp] theorem State.mapJournal_shed : (s.mapJournal f).shed = s.shed := rfl
@[simp] theorem State.mapJournal_saw : (s.mapJournal f).saw = s.saw := rfl
@[simp] theorem State.mapJournal_conds : (s.mapJournal f).conds = s.conds := rfl
@[simp] theorem State.mapJournal_journal : (s.mapJournal f).journal = f s.journal := rfl
@[simp] theorem State.mapJournal_tables : (s.mapJournal f).tables = s.tables := rfl
@[simp] theorem State.mapJournal_loop : (s.mapJournal f).loop = s.loop := rfl
@[simp] theorem State.mapJournal_draws : (s.mapJournal f).draws = s.draws := rfl
@[simp] theorem State.mapJournal_pending : (s.mapJournal f).pending = s.pending := rfl
@[simp] theorem State.mapJournal_setting (i : Nat) : (s.mapJournal f).setting i = s.setting i := rfl
@[simp] theorem State.mapJournal_circuit (i : Nat) : (s.mapJournal f).circuit i = s.circuit i := rfl
@[simp] theorem State.mapJournal_feeder (k : Nat) : (s.mapJournal f).feeder k = s.feeder k := rfl
@[simp] theorem State.mapJournal_mapped (r : Nat) : (s.mapJournal f).mapped r = s.mapped r := rfl
@[simp] theorem State.mapJournal_address (r : Nat) : (s.mapJournal f).address r = s.address r := rfl
@[simp] theorem State.mapJournal_inPlant (p : PlantState) : (s.mapJournal f).inPlant p = s.inPlant p := rfl
@[simp] theorem State.mapJournal_cond (c : Condition) : (s.mapJournal f).cond c = s.cond c := rfl

end Journal

section Tables

variable (f : TableStore → TableStore) (s : State)

@[simp] theorem State.mapTables_edge : (s.mapTables f).edge = s.edge := rfl
@[simp] theorem State.mapTables_pins : (s.mapTables f).pins = s.pins := rfl
@[simp] theorem State.mapTables_time : (s.mapTables f).time = s.time := rfl
@[simp] theorem State.mapTables_gov : (s.mapTables f).gov = s.gov := rfl
@[simp] theorem State.mapTables_firing : (s.mapTables f).firing = s.firing := rfl
@[simp] theorem State.mapTables_plant : (s.mapTables f).plant = s.plant := rfl
@[simp] theorem State.mapTables_water : (s.mapTables f).water = s.water := rfl
@[simp] theorem State.mapTables_hamlet : (s.mapTables f).hamlet = s.hamlet := rfl
@[simp] theorem State.mapTables_shed : (s.mapTables f).shed = s.shed := rfl
@[simp] theorem State.mapTables_saw : (s.mapTables f).saw = s.saw := rfl
@[simp] theorem State.mapTables_conds : (s.mapTables f).conds = s.conds := rfl
@[simp] theorem State.mapTables_journal : (s.mapTables f).journal = s.journal := rfl
@[simp] theorem State.mapTables_tables : (s.mapTables f).tables = f s.tables := rfl
@[simp] theorem State.mapTables_loop : (s.mapTables f).loop = s.loop := rfl
@[simp] theorem State.mapTables_draws : (s.mapTables f).draws = s.draws := rfl
@[simp] theorem State.mapTables_pending : (s.mapTables f).pending = s.pending := rfl
@[simp] theorem State.mapTables_circuit (i : Nat) : (s.mapTables f).circuit i = s.circuit i := rfl
@[simp] theorem State.mapTables_feeder (k : Nat) : (s.mapTables f).feeder k = s.feeder k := rfl
@[simp] theorem State.mapTables_inPlant (p : PlantState) : (s.mapTables f).inPlant p = s.inPlant p := rfl
@[simp] theorem State.mapTables_cond (c : Condition) : (s.mapTables f).cond c = s.cond c := rfl

end Tables

section Loop

variable (f : LoopPort → LoopPort) (s : State)

@[simp] theorem State.mapLoop_edge : (s.mapLoop f).edge = s.edge := rfl
@[simp] theorem State.mapLoop_pins : (s.mapLoop f).pins = s.pins := rfl
@[simp] theorem State.mapLoop_time : (s.mapLoop f).time = s.time := rfl
@[simp] theorem State.mapLoop_gov : (s.mapLoop f).gov = s.gov := rfl
@[simp] theorem State.mapLoop_firing : (s.mapLoop f).firing = s.firing := rfl
@[simp] theorem State.mapLoop_plant : (s.mapLoop f).plant = s.plant := rfl
@[simp] theorem State.mapLoop_water : (s.mapLoop f).water = s.water := rfl
@[simp] theorem State.mapLoop_hamlet : (s.mapLoop f).hamlet = s.hamlet := rfl
@[simp] theorem State.mapLoop_shed : (s.mapLoop f).shed = s.shed := rfl
@[simp] theorem State.mapLoop_saw : (s.mapLoop f).saw = s.saw := rfl
@[simp] theorem State.mapLoop_conds : (s.mapLoop f).conds = s.conds := rfl
@[simp] theorem State.mapLoop_journal : (s.mapLoop f).journal = s.journal := rfl
@[simp] theorem State.mapLoop_tables : (s.mapLoop f).tables = s.tables := rfl
@[simp] theorem State.mapLoop_loop : (s.mapLoop f).loop = f s.loop := rfl
@[simp] theorem State.mapLoop_draws : (s.mapLoop f).draws = s.draws := rfl
@[simp] theorem State.mapLoop_pending : (s.mapLoop f).pending = s.pending := rfl
@[simp] theorem State.mapLoop_setting (i : Nat) : (s.mapLoop f).setting i = s.setting i := rfl
@[simp] theorem State.mapLoop_circuit (i : Nat) : (s.mapLoop f).circuit i = s.circuit i := rfl
@[simp] theorem State.mapLoop_feeder (k : Nat) : (s.mapLoop f).feeder k = s.feeder k := rfl
@[simp] theorem State.mapLoop_mapped (r : Nat) : (s.mapLoop f).mapped r = s.mapped r := rfl
@[simp] theorem State.mapLoop_address (r : Nat) : (s.mapLoop f).address r = s.address r := rfl
@[simp] theorem State.mapLoop_inPlant (p : PlantState) : (s.mapLoop f).inPlant p = s.inPlant p := rfl
@[simp] theorem State.mapLoop_cond (c : Condition) : (s.mapLoop f).cond c = s.cond c := rfl

end Loop

end Sys2Proof.Machine
end

