-- ==== Sys2Proof/Laws/Frames.lean ====
section
/-! SUPPORT. The frame of each operation: the blocks of the state that it leaves as they were, whatever the
state and the operands. Each frame is one conjunction that `simp` uses. -/

namespace Sys2Proof.Machine

/-- What every step of a fold keeps, the fold keeps. -/
theorem foldl_keeps {α β γ : Type} (g : α → γ) (f : α → β → α) (h : ∀ t x, g (f t x) = g t) :
    ∀ (l : List β) (s : α), g (l.foldl f s) = g s
  | [], _ => rfl
  | x :: l, s => by rw [List.foldl_cons, foldl_keeps g f h l, h]

/-! ## Flags -/

@[simp] theorem journalAppend_frame (kind : JournalKind) (subject : Option Nat) (value : Int) (s : State) :
    (journalAppend kind subject value s).edge = s.edge ∧
      (journalAppend kind subject value s).pins = s.pins ∧
      (journalAppend kind subject value s).time = s.time ∧
      (journalAppend kind subject value s).gov = s.gov ∧
      (journalAppend kind subject value s).firing = s.firing ∧
      (journalAppend kind subject value s).plant = s.plant ∧
      (journalAppend kind subject value s).water = s.water ∧
      (journalAppend kind subject value s).hamlet = s.hamlet ∧
      (journalAppend kind subject value s).shed = s.shed ∧
      (journalAppend kind subject value s).saw = s.saw ∧
      (journalAppend kind subject value s).conds = s.conds ∧
      (journalAppend kind subject value s).tables = s.tables ∧
      (journalAppend kind subject value s).loop = s.loop ∧
      (journalAppend kind subject value s).draws = s.draws ∧
      (journalAppend kind subject value s).pending = s.pending := by
  unfold journalAppend; and_intros <;> simp

@[simp] theorem offerNotice_frame (c : Condition) (subject : Option Nat) (s : State) :
    (offerNotice c subject s).edge = s.edge ∧ (offerNotice c subject s).pins = s.pins ∧
      (offerNotice c subject s).time = s.time ∧ (offerNotice c subject s).gov = s.gov ∧
      (offerNotice c subject s).firing = s.firing ∧ (offerNotice c subject s).plant = s.plant ∧
      (offerNotice c subject s).water = s.water ∧ (offerNotice c subject s).hamlet = s.hamlet ∧
      (offerNotice c subject s).shed = s.shed ∧ (offerNotice c subject s).saw = s.saw ∧
      (offerNotice c subject s).conds = s.conds ∧ (offerNotice c subject s).journal = s.journal ∧
      (offerNotice c subject s).tables = s.tables ∧ (offerNotice c subject s).draws = s.draws ∧
      (offerNotice c subject s).pending = s.pending := by
  unfold offerNotice; and_intros <;> (repeat' split) <;> simp

@[simp] theorem markCause_frame (c : Condition) (s : State) :
    (markCause c s).edge = s.edge ∧ (markCause c s).pins = s.pins ∧
      (markCause c s).time = s.time ∧ (markCause c s).gov = s.gov ∧
      (markCause c s).firing = s.firing ∧ (markCause c s).plant = s.plant ∧
      (markCause c s).water = s.water ∧ (markCause c s).hamlet = s.hamlet ∧
      (markCause c s).shed = s.shed ∧ (markCause c s).saw = s.saw ∧
      (markCause c s).journal = s.journal ∧ (markCause c s).tables = s.tables ∧
      (markCause c s).loop = s.loop ∧ (markCause c s).draws = s.draws ∧
      (markCause c s).pending = s.pending := by
  unfold markCause; and_intros <;> simp

@[simp] theorem setFlag_frame (c : Condition) (subject : Option Nat) (s : State) :
    (setFlag c subject s).edge = s.edge ∧ (setFlag c subject s).pins = s.pins ∧
      (setFlag c subject s).time = s.time ∧ (setFlag c subject s).gov = s.gov ∧
      (setFlag c subject s).firing = s.firing ∧ (setFlag c subject s).plant = s.plant ∧
      (setFlag c subject s).water = s.water ∧ (setFlag c subject s).hamlet = s.hamlet ∧
      (setFlag c subject s).shed = s.shed ∧ (setFlag c subject s).saw = s.saw ∧
      (setFlag c subject s).journal = s.journal ∧ (setFlag c subject s).tables = s.tables ∧
      (setFlag c subject s).loop = s.loop ∧ (setFlag c subject s).draws = s.draws ∧
      (setFlag c subject s).pending = s.pending := by
  unfold setFlag; and_intros <;> simp

@[simp] theorem raise_frame (c : Condition) (subject : Option Nat) (s : State) :
    (raise c subject s).edge = s.edge ∧ (raise c subject s).pins = s.pins ∧
      (raise c subject s).time = s.time ∧ (raise c subject s).gov = s.gov ∧
      (raise c subject s).firing = s.firing ∧ (raise c subject s).plant = s.plant ∧
      (raise c subject s).water = s.water ∧ (raise c subject s).hamlet = s.hamlet ∧
      (raise c subject s).shed = s.shed ∧ (raise c subject s).saw = s.saw ∧
      (raise c subject s).tables = s.tables ∧ (raise c subject s).draws = s.draws ∧
      (raise c subject s).pending = s.pending := by
  unfold raise; and_intros <;> (repeat' split) <;> simp

@[simp] theorem causeEnd_frame (c : Condition) (s : State) :
    (causeEnd c s).edge = s.edge ∧ (causeEnd c s).pins = s.pins ∧
      (causeEnd c s).time = s.time ∧ (causeEnd c s).gov = s.gov ∧
      (causeEnd c s).firing = s.firing ∧ (causeEnd c s).plant = s.plant ∧
      (causeEnd c s).water = s.water ∧ (causeEnd c s).hamlet = s.hamlet ∧
      (causeEnd c s).shed = s.shed ∧ (causeEnd c s).saw = s.saw ∧
      (causeEnd c s).journal = s.journal ∧ (causeEnd c s).tables = s.tables ∧
      (causeEnd c s).loop = s.loop ∧ (causeEnd c s).draws = s.draws ∧
      (causeEnd c s).pending = s.pending := by
  unfold causeEnd; and_intros <;> simp

/-! ## Ops -/

@[simp] theorem writeSlot_frame (slot : Nat) (o : Order) (s : State) :
    (writeSlot slot o s).edge = s.edge ∧ (writeSlot slot o s).pins = s.pins ∧
      (writeSlot slot o s).time = s.time ∧ (writeSlot slot o s).gov = s.gov ∧
      (writeSlot slot o s).firing = s.firing ∧ (writeSlot slot o s).plant = s.plant ∧
      (writeSlot slot o s).water = s.water ∧ (writeSlot slot o s).hamlet = s.hamlet ∧
      (writeSlot slot o s).shed = s.shed ∧ (writeSlot slot o s).saw = s.saw ∧
      (writeSlot slot o s).conds = s.conds ∧ (writeSlot slot o s).journal = s.journal ∧
      (writeSlot slot o s).tables = s.tables ∧ (writeSlot slot o s).draws = s.draws ∧
      (writeSlot slot o s).pending = s.pending := by
  unfold writeSlot; and_intros <;> simp

@[simp] theorem emptySlot_frame (slot : Nat) (s : State) :
    (emptySlot slot s).edge = s.edge ∧ (emptySlot slot s).pins = s.pins ∧
      (emptySlot slot s).time = s.time ∧ (emptySlot slot s).gov = s.gov ∧
      (emptySlot slot s).firing = s.firing ∧ (emptySlot slot s).plant = s.plant ∧
      (emptySlot slot s).water = s.water ∧ (emptySlot slot s).hamlet = s.hamlet ∧
      (emptySlot slot s).shed = s.shed ∧ (emptySlot slot s).saw = s.saw ∧
      (emptySlot slot s).conds = s.conds ∧ (emptySlot slot s).journal = s.journal ∧
      (emptySlot slot s).tables = s.tables ∧ (emptySlot slot s).draws = s.draws ∧
      (emptySlot slot s).pending = s.pending := by
  unfold emptySlot; and_intros <;> simp

@[simp] theorem requestGain_frame (g : GainSet) (s : State) :
    (requestGain g s).edge = s.edge ∧ (requestGain g s).pins = s.pins ∧
      (requestGain g s).time = s.time ∧ (requestGain g s).firing = s.firing ∧
      (requestGain g s).plant = s.plant ∧ (requestGain g s).water = s.water ∧
      (requestGain g s).hamlet = s.hamlet ∧ (requestGain g s).shed = s.shed ∧
      (requestGain g s).saw = s.saw ∧ (requestGain g s).conds = s.conds ∧
      (requestGain g s).journal = s.journal ∧ (requestGain g s).tables = s.tables ∧
      (requestGain g s).loop = s.loop ∧ (requestGain g s).draws = s.draws ∧
      (requestGain g s).pending = s.pending := by
  unfold requestGain; and_intros <;> simp

@[simp] theorem writeGateSlot_frame (s : State) :
    (writeGateSlot s).edge = s.edge ∧ (writeGateSlot s).pins = s.pins ∧
      (writeGateSlot s).time = s.time ∧ (writeGateSlot s).gov = s.gov ∧
      (writeGateSlot s).firing = s.firing ∧ (writeGateSlot s).plant = s.plant ∧
      (writeGateSlot s).water = s.water ∧ (writeGateSlot s).hamlet = s.hamlet ∧
      (writeGateSlot s).shed = s.shed ∧ (writeGateSlot s).saw = s.saw ∧
      (writeGateSlot s).conds = s.conds ∧ (writeGateSlot s).journal = s.journal ∧
      (writeGateSlot s).tables = s.tables ∧ (writeGateSlot s).draws = s.draws ∧
      (writeGateSlot s).pending = s.pending := by
  unfold writeGateSlot; and_intros <;> simp

@[simp] theorem setGate_frame (g : Nat) (s : State) :
    (setGate g s).edge = s.edge ∧ (setGate g s).pins = s.pins ∧
      (setGate g s).time = s.time ∧ (setGate g s).gov = s.gov ∧
      (setGate g s).firing = s.firing ∧ (setGate g s).plant = s.plant ∧
      (setGate g s).hamlet = s.hamlet ∧ (setGate g s).shed = s.shed ∧
      (setGate g s).saw = s.saw ∧ (setGate g s).conds = s.conds ∧
      (setGate g s).journal = s.journal ∧ (setGate g s).tables = s.tables ∧
      (setGate g s).draws = s.draws ∧ (setGate g s).pending = s.pending := by
  unfold setGate; and_intros <;> (repeat' split) <;> simp

@[simp] theorem writeFeederSlot_frame (k : Nat) (s : State) :
    (writeFeederSlot k s).edge = s.edge ∧ (writeFeederSlot k s).pins = s.pins ∧
      (writeFeederSlot k s).time = s.time ∧ (writeFeederSlot k s).gov = s.gov ∧
      (writeFeederSlot k s).firing = s.firing ∧ (writeFeederSlot k s).plant = s.plant ∧
      (writeFeederSlot k s).water = s.water ∧ (writeFeederSlot k s).hamlet = s.hamlet ∧
      (writeFeederSlot k s).shed = s.shed ∧ (writeFeederSlot k s).saw = s.saw ∧
      (writeFeederSlot k s).conds = s.conds ∧ (writeFeederSlot k s).journal = s.journal ∧
      (writeFeederSlot k s).tables = s.tables ∧ (writeFeederSlot k s).draws = s.draws ∧
      (writeFeederSlot k s).pending = s.pending := by
  unfold writeFeederSlot; and_intros <;> (repeat' split) <;> simp

@[simp] theorem modifyCircuit_frame (i : Nat) (f : Circuit → Circuit) (s : State) :
    (modifyCircuit i f s).edge = s.edge ∧ (modifyCircuit i f s).pins = s.pins ∧
      (modifyCircuit i f s).time = s.time ∧ (modifyCircuit i f s).gov = s.gov ∧
      (modifyCircuit i f s).firing = s.firing ∧ (modifyCircuit i f s).plant = s.plant ∧
      (modifyCircuit i f s).water = s.water ∧ (modifyCircuit i f s).shed = s.shed ∧
      (modifyCircuit i f s).saw = s.saw ∧ (modifyCircuit i f s).conds = s.conds ∧
      (modifyCircuit i f s).journal = s.journal ∧ (modifyCircuit i f s).tables = s.tables ∧
      (modifyCircuit i f s).loop = s.loop ∧ (modifyCircuit i f s).draws = s.draws ∧
      (modifyCircuit i f s).pending = s.pending := by
  unfold modifyCircuit; and_intros <;> simp

@[simp] theorem moveCircuit_frame (i : Nat) (st : CircuitState) (s : State) :
    (moveCircuit i st s).edge = s.edge ∧ (moveCircuit i st s).pins = s.pins ∧
      (moveCircuit i st s).time = s.time ∧ (moveCircuit i st s).gov = s.gov ∧
      (moveCircuit i st s).firing = s.firing ∧ (moveCircuit i st s).plant = s.plant ∧
      (moveCircuit i st s).water = s.water ∧ (moveCircuit i st s).shed = s.shed ∧
      (moveCircuit i st s).saw = s.saw ∧ (moveCircuit i st s).conds = s.conds ∧
      (moveCircuit i st s).journal = s.journal ∧ (moveCircuit i st s).tables = s.tables ∧
      (moveCircuit i st s).draws = s.draws ∧ (moveCircuit i st s).pending = s.pending := by
  unfold moveCircuit; dsimp only; and_intros <;> (repeat' split) <;> simp

@[simp] theorem pushShed_frame (e : ShedEntry) (s : State) :
    (pushShed e s).edge = s.edge ∧ (pushShed e s).pins = s.pins ∧
      (pushShed e s).time = s.time ∧ (pushShed e s).gov = s.gov ∧
      (pushShed e s).firing = s.firing ∧ (pushShed e s).plant = s.plant ∧
      (pushShed e s).water = s.water ∧ (pushShed e s).hamlet = s.hamlet ∧
      (pushShed e s).saw = s.saw ∧ (pushShed e s).conds = s.conds ∧
      (pushShed e s).journal = s.journal ∧ (pushShed e s).tables = s.tables ∧
      (pushShed e s).loop = s.loop ∧ (pushShed e s).draws = s.draws ∧
      (pushShed e s).pending = s.pending := by
  unfold pushShed; and_intros <;> simp

@[simp] theorem appendTaken_frame (i : Nat) (cause : ShedCause) (s : State) :
    (appendTaken i cause s).edge = s.edge ∧ (appendTaken i cause s).pins = s.pins ∧
      (appendTaken i cause s).time = s.time ∧ (appendTaken i cause s).gov = s.gov ∧
      (appendTaken i cause s).firing = s.firing ∧ (appendTaken i cause s).plant = s.plant ∧
      (appendTaken i cause s).water = s.water ∧ (appendTaken i cause s).saw = s.saw ∧
      (appendTaken i cause s).tables = s.tables ∧ (appendTaken i cause s).draws = s.draws ∧
      (appendTaken i cause s).pending = s.pending := by
  unfold appendTaken; dsimp only; and_intros <;> (repeat' split) <;> simp

@[simp] theorem appendRequest_frame (i : Nat) (cause : ShedCause) (s : State) :
    (appendRequest i cause s).edge = s.edge ∧ (appendRequest i cause s).pins = s.pins ∧
      (appendRequest i cause s).time = s.time ∧ (appendRequest i cause s).gov = s.gov ∧
      (appendRequest i cause s).firing = s.firing ∧ (appendRequest i cause s).plant = s.plant ∧
      (appendRequest i cause s).water = s.water ∧ (appendRequest i cause s).saw = s.saw ∧
      (appendRequest i cause s).tables = s.tables ∧ (appendRequest i cause s).draws = s.draws ∧
      (appendRequest i cause s).pending = s.pending := by
  unfold appendRequest; and_intros <;> (repeat' split) <;> simp

@[simp] theorem removeShed_frame (i : Nat) (s : State) :
    (removeShed i s).edge = s.edge ∧ (removeShed i s).pins = s.pins ∧
      (removeShed i s).time = s.time ∧ (removeShed i s).gov = s.gov ∧
      (removeShed i s).firing = s.firing ∧ (removeShed i s).plant = s.plant ∧
      (removeShed i s).water = s.water ∧ (removeShed i s).hamlet = s.hamlet ∧
      (removeShed i s).saw = s.saw ∧ (removeShed i s).conds = s.conds ∧
      (removeShed i s).journal = s.journal ∧ (removeShed i s).tables = s.tables ∧
      (removeShed i s).loop = s.loop ∧ (removeShed i s).draws = s.draws ∧
      (removeShed i s).pending = s.pending := by
  unfold removeShed; and_intros <;> simp

@[simp] theorem relabel_frame (s : State) :
    (relabel s).edge = s.edge ∧ (relabel s).pins = s.pins ∧
      (relabel s).time = s.time ∧ (relabel s).gov = s.gov ∧
      (relabel s).firing = s.firing ∧ (relabel s).plant = s.plant ∧
      (relabel s).water = s.water ∧ (relabel s).hamlet = s.hamlet ∧
      (relabel s).saw = s.saw ∧ (relabel s).conds = s.conds ∧
      (relabel s).journal = s.journal ∧ (relabel s).tables = s.tables ∧
      (relabel s).loop = s.loop ∧ (relabel s).draws = s.draws ∧
      (relabel s).pending = s.pending := by
  unfold relabel; and_intros <;> simp

@[simp] theorem setSawOrder_frame (o : SawOrder) (s : State) :
    (setSawOrder o s).edge = s.edge ∧ (setSawOrder o s).pins = s.pins ∧
      (setSawOrder o s).time = s.time ∧ (setSawOrder o s).gov = s.gov ∧
      (setSawOrder o s).firing = s.firing ∧ (setSawOrder o s).plant = s.plant ∧
      (setSawOrder o s).water = s.water ∧ (setSawOrder o s).hamlet = s.hamlet ∧
      (setSawOrder o s).shed = s.shed ∧ (setSawOrder o s).conds = s.conds ∧
      (setSawOrder o s).journal = s.journal ∧ (setSawOrder o s).tables = s.tables ∧
      (setSawOrder o s).draws = s.draws ∧ (setSawOrder o s).pending = s.pending := by
  unfold setSawOrder; dsimp only; and_intros <;> (repeat' split) <;> simp

@[simp] theorem writeSawSlot_frame (s : State) :
    (writeSawSlot s).edge = s.edge ∧ (writeSawSlot s).pins = s.pins ∧
      (writeSawSlot s).time = s.time ∧ (writeSawSlot s).gov = s.gov ∧
      (writeSawSlot s).firing = s.firing ∧ (writeSawSlot s).plant = s.plant ∧
      (writeSawSlot s).water = s.water ∧ (writeSawSlot s).hamlet = s.hamlet ∧
      (writeSawSlot s).shed = s.shed ∧ (writeSawSlot s).saw = s.saw ∧
      (writeSawSlot s).conds = s.conds ∧ (writeSawSlot s).journal = s.journal ∧
      (writeSawSlot s).tables = s.tables ∧ (writeSawSlot s).draws = s.draws ∧
      (writeSawSlot s).pending = s.pending := by
  unfold writeSawSlot; and_intros <;> (repeat' split) <;> simp

/-! ## Governor -/

@[simp] theorem applyPendingGain_frame (s : State) :
    (applyPendingGain s).edge = s.edge ∧ (applyPendingGain s).pins = s.pins ∧
      (applyPendingGain s).time = s.time ∧ (applyPendingGain s).firing = s.firing ∧
      (applyPendingGain s).plant = s.plant ∧ (applyPendingGain s).water = s.water ∧
      (applyPendingGain s).hamlet = s.hamlet ∧ (applyPendingGain s).shed = s.shed ∧
      (applyPendingGain s).saw = s.saw ∧ (applyPendingGain s).conds = s.conds ∧
      (applyPendingGain s).tables = s.tables ∧ (applyPendingGain s).loop = s.loop ∧
      (applyPendingGain s).draws = s.draws ∧ (applyPendingGain s).pending = s.pending := by
  unfold applyPendingGain; and_intros <;> (repeat' split) <;> simp

@[simp] theorem engage_frame (f : Nat) (e : Int) (s : State) :
    (engage f e s).edge = s.edge ∧ (engage f e s).pins = s.pins ∧
      (engage f e s).time = s.time ∧ (engage f e s).firing = s.firing ∧
      (engage f e s).plant = s.plant ∧ (engage f e s).water = s.water ∧
      (engage f e s).hamlet = s.hamlet ∧ (engage f e s).shed = s.shed ∧
      (engage f e s).saw = s.saw ∧ (engage f e s).conds = s.conds ∧
      (engage f e s).journal = s.journal ∧ (engage f e s).tables = s.tables ∧
      (engage f e s).loop = s.loop ∧ (engage f e s).draws = s.draws ∧
      (engage f e s).pending = s.pending := by
  unfold engage; and_intros <;> (repeat' split) <;> simp

@[simp] theorem runLaw_frame (e : Int) (s : State) :
    (runLaw e s).edge = s.edge ∧ (runLaw e s).pins = s.pins ∧
      (runLaw e s).time = s.time ∧ (runLaw e s).firing = s.firing ∧
      (runLaw e s).plant = s.plant ∧ (runLaw e s).water = s.water ∧
      (runLaw e s).hamlet = s.hamlet ∧ (runLaw e s).shed = s.shed ∧
      (runLaw e s).saw = s.saw ∧ (runLaw e s).conds = s.conds ∧
      (runLaw e s).journal = s.journal ∧ (runLaw e s).tables = s.tables ∧
      (runLaw e s).loop = s.loop ∧ (runLaw e s).draws = s.draws ∧
      (runLaw e s).pending = s.pending := by
  unfold runLaw; and_intros <;> (repeat' split) <;> simp

@[simp] theorem governorUpdate_frame (f : Nat) (s : State) :
    (governorUpdate f s).edge = s.edge ∧ (governorUpdate f s).pins = s.pins ∧
      (governorUpdate f s).time = s.time ∧ (governorUpdate f s).firing = s.firing ∧
      (governorUpdate f s).plant = s.plant ∧ (governorUpdate f s).water = s.water ∧
      (governorUpdate f s).hamlet = s.hamlet ∧ (governorUpdate f s).shed = s.shed ∧
      (governorUpdate f s).saw = s.saw ∧ (governorUpdate f s).conds = s.conds ∧
      (governorUpdate f s).tables = s.tables ∧ (governorUpdate f s).loop = s.loop ∧
      (governorUpdate f s).draws = s.draws ∧ (governorUpdate f s).pending = s.pending := by
  unfold governorUpdate; dsimp only; and_intros <;> simp

@[simp] theorem governorEntry_frame (p : PlantState) (s : State) :
    (governorEntry p s).edge = s.edge ∧ (governorEntry p s).pins = s.pins ∧
      (governorEntry p s).time = s.time ∧ (governorEntry p s).firing = s.firing ∧
      (governorEntry p s).plant = s.plant ∧ (governorEntry p s).water = s.water ∧
      (governorEntry p s).hamlet = s.hamlet ∧ (governorEntry p s).shed = s.shed ∧
      (governorEntry p s).saw = s.saw ∧ (governorEntry p s).conds = s.conds ∧
      (governorEntry p s).journal = s.journal ∧ (governorEntry p s).tables = s.tables ∧
      (governorEntry p s).loop = s.loop ∧ (governorEntry p s).draws = s.draws ∧
      (governorEntry p s).pending = s.pending := by
  unfold governorEntry; and_intros <;> (repeat' split) <;> simp

/-! ## Firing -/

@[simp] theorem removePulses_frame (s : State) :
    (removePulses s).edge = s.edge ∧ (removePulses s).pins = s.pins ∧
      (removePulses s).time = s.time ∧ (removePulses s).gov = s.gov ∧
      (removePulses s).plant = s.plant ∧ (removePulses s).water = s.water ∧
      (removePulses s).hamlet = s.hamlet ∧ (removePulses s).shed = s.shed ∧
      (removePulses s).saw = s.saw ∧ (removePulses s).conds = s.conds ∧
      (removePulses s).journal = s.journal ∧ (removePulses s).tables = s.tables ∧
      (removePulses s).loop = s.loop ∧ (removePulses s).draws = s.draws ∧
      (removePulses s).pending = s.pending := by
  unfold removePulses; and_intros <;> simp

@[simp] theorem cancelPulses_frame (s : State) :
    (cancelPulses s).edge = s.edge ∧ (cancelPulses s).pins = s.pins ∧
      (cancelPulses s).time = s.time ∧ (cancelPulses s).gov = s.gov ∧
      (cancelPulses s).plant = s.plant ∧ (cancelPulses s).water = s.water ∧
      (cancelPulses s).hamlet = s.hamlet ∧ (cancelPulses s).shed = s.shed ∧
      (cancelPulses s).saw = s.saw ∧ (cancelPulses s).conds = s.conds ∧
      (cancelPulses s).journal = s.journal ∧ (cancelPulses s).tables = s.tables ∧
      (cancelPulses s).loop = s.loop ∧ (cancelPulses s).draws = s.draws ∧
      (cancelPulses s).pending = s.pending := by
  unfold cancelPulses; and_intros <;> simp

@[simp] theorem setBanks_frame (n : Nat) (s : State) :
    (setBanks n s).edge = s.edge ∧ (setBanks n s).pins = s.pins ∧
      (setBanks n s).time = s.time ∧ (setBanks n s).gov = s.gov ∧
      (setBanks n s).plant = s.plant ∧ (setBanks n s).water = s.water ∧
      (setBanks n s).hamlet = s.hamlet ∧ (setBanks n s).shed = s.shed ∧
      (setBanks n s).saw = s.saw ∧ (setBanks n s).conds = s.conds ∧
      (setBanks n s).journal = s.journal ∧ (setBanks n s).tables = s.tables ∧
      (setBanks n s).loop = s.loop ∧ (setBanks n s).draws = s.draws ∧
      (setBanks n s).pending = s.pending := by
  unfold setBanks; and_intros <;> simp

@[simp] theorem scheduleNone_frame (s : State) :
    (scheduleNone s).edge = s.edge ∧ (scheduleNone s).pins = s.pins ∧
      (scheduleNone s).time = s.time ∧ (scheduleNone s).gov = s.gov ∧
      (scheduleNone s).plant = s.plant ∧ (scheduleNone s).water = s.water ∧
      (scheduleNone s).hamlet = s.hamlet ∧ (scheduleNone s).shed = s.shed ∧
      (scheduleNone s).saw = s.saw ∧ (scheduleNone s).conds = s.conds ∧
      (scheduleNone s).journal = s.journal ∧ (scheduleNone s).tables = s.tables ∧
      (scheduleNone s).loop = s.loop ∧ (scheduleNone s).draws = s.draws ∧
      (scheduleNone s).pending = s.pending := by
  unfold scheduleNone; and_intros <;> simp

@[simp] theorem scheduleTrim_frame (u p : Nat) (t0 : Count) (lag : Nat) (s : State) :
    (scheduleTrim u p t0 lag s).edge = s.edge ∧ (scheduleTrim u p t0 lag s).pins = s.pins ∧
      (scheduleTrim u p t0 lag s).time = s.time ∧ (scheduleTrim u p t0 lag s).gov = s.gov ∧
      (scheduleTrim u p t0 lag s).plant = s.plant ∧ (scheduleTrim u p t0 lag s).water = s.water ∧
      (scheduleTrim u p t0 lag s).hamlet = s.hamlet ∧ (scheduleTrim u p t0 lag s).shed = s.shed ∧
      (scheduleTrim u p t0 lag s).saw = s.saw ∧ (scheduleTrim u p t0 lag s).conds = s.conds ∧
      (scheduleTrim u p t0 lag s).journal = s.journal ∧ (scheduleTrim u p t0 lag s).tables = s.tables ∧
      (scheduleTrim u p t0 lag s).loop = s.loop ∧ (scheduleTrim u p t0 lag s).draws = s.draws ∧
      (scheduleTrim u p t0 lag s).pending = s.pending := by
  unfold scheduleTrim; dsimp only; and_intros <;> (repeat' split) <;> simp

@[simp] theorem firingUpdate_frame (p : Nat) (t0 : Count) (lag : Nat) (s : State) :
    (firingUpdate p t0 lag s).edge = s.edge ∧ (firingUpdate p t0 lag s).pins = s.pins ∧
      (firingUpdate p t0 lag s).time = s.time ∧ (firingUpdate p t0 lag s).gov = s.gov ∧
      (firingUpdate p t0 lag s).plant = s.plant ∧ (firingUpdate p t0 lag s).water = s.water ∧
      (firingUpdate p t0 lag s).hamlet = s.hamlet ∧ (firingUpdate p t0 lag s).shed = s.shed ∧
      (firingUpdate p t0 lag s).saw = s.saw ∧ (firingUpdate p t0 lag s).conds = s.conds ∧
      (firingUpdate p t0 lag s).journal = s.journal ∧ (firingUpdate p t0 lag s).tables = s.tables ∧
      (firingUpdate p t0 lag s).loop = s.loop ∧ (firingUpdate p t0 lag s).draws = s.draws ∧
      (firingUpdate p t0 lag s).pending = s.pending := by
  unfold firingUpdate; dsimp only; and_intros <;> split <;> simp

@[simp] theorem firingEntry_frame (p : PlantState) (s : State) :
    (firingEntry p s).edge = s.edge ∧ (firingEntry p s).pins = s.pins ∧
      (firingEntry p s).time = s.time ∧ (firingEntry p s).gov = s.gov ∧
      (firingEntry p s).plant = s.plant ∧ (firingEntry p s).water = s.water ∧
      (firingEntry p s).hamlet = s.hamlet ∧ (firingEntry p s).shed = s.shed ∧
      (firingEntry p s).saw = s.saw ∧ (firingEntry p s).conds = s.conds ∧
      (firingEntry p s).journal = s.journal ∧ (firingEntry p s).tables = s.tables ∧
      (firingEntry p s).loop = s.loop ∧ (firingEntry p s).draws = s.draws ∧
      (firingEntry p s).pending = s.pending := by
  unfold firingEntry; and_intros <;> (repeat' split) <;> simp

@[simp] theorem startPulse_frame (s : State) :
    (startPulse s).edge = s.edge ∧ (startPulse s).pins = s.pins ∧
      (startPulse s).time = s.time ∧ (startPulse s).gov = s.gov ∧
      (startPulse s).plant = s.plant ∧ (startPulse s).water = s.water ∧
      (startPulse s).hamlet = s.hamlet ∧ (startPulse s).shed = s.shed ∧
      (startPulse s).saw = s.saw ∧ (startPulse s).conds = s.conds ∧
      (startPulse s).journal = s.journal ∧ (startPulse s).tables = s.tables ∧
      (startPulse s).loop = s.loop ∧ (startPulse s).draws = s.draws ∧
      (startPulse s).pending = s.pending := by
  unfold startPulse; and_intros <;> (repeat' split) <;> simp

@[simp] theorem endPulse_frame (s : State) :
    (endPulse s).edge = s.edge ∧ (endPulse s).pins = s.pins ∧
      (endPulse s).time = s.time ∧ (endPulse s).gov = s.gov ∧
      (endPulse s).plant = s.plant ∧ (endPulse s).water = s.water ∧
      (endPulse s).hamlet = s.hamlet ∧ (endPulse s).shed = s.shed ∧
      (endPulse s).saw = s.saw ∧ (endPulse s).conds = s.conds ∧
      (endPulse s).journal = s.journal ∧ (endPulse s).tables = s.tables ∧
      (endPulse s).loop = s.loop ∧ (endPulse s).draws = s.draws ∧
      (endPulse s).pending = s.pending := by
  unfold endPulse; and_intros <;> (repeat' split) <;> simp

/-! ## Shedding -/

@[simp] theorem frequencyShed_frame (s : State) :
    (frequencyShed s).edge = s.edge ∧ (frequencyShed s).pins = s.pins ∧
      (frequencyShed s).time = s.time ∧ (frequencyShed s).gov = s.gov ∧
      (frequencyShed s).firing = s.firing ∧ (frequencyShed s).plant = s.plant ∧
      (frequencyShed s).water = s.water ∧ (frequencyShed s).saw = s.saw ∧
      (frequencyShed s).tables = s.tables ∧ (frequencyShed s).draws = s.draws ∧
      (frequencyShed s).pending = s.pending := by
  unfold frequencyShed; and_intros <;> (repeat' split) <;> simp

@[simp] theorem lowerLockout_frame (s : State) :
    (lowerLockout s).edge = s.edge ∧ (lowerLockout s).pins = s.pins ∧
      (lowerLockout s).time = s.time ∧ (lowerLockout s).gov = s.gov ∧
      (lowerLockout s).firing = s.firing ∧ (lowerLockout s).plant = s.plant ∧
      (lowerLockout s).water = s.water ∧ (lowerLockout s).hamlet = s.hamlet ∧
      (lowerLockout s).saw = s.saw ∧ (lowerLockout s).conds = s.conds ∧
      (lowerLockout s).journal = s.journal ∧ (lowerLockout s).tables = s.tables ∧
      (lowerLockout s).loop = s.loop ∧ (lowerLockout s).draws = s.draws ∧
      (lowerLockout s).pending = s.pending := by
  unfold lowerLockout; and_intros <;> simp

@[simp] theorem emergencyTest_frame (f : Nat) (s : State) :
    (emergencyTest f s).edge = s.edge ∧ (emergencyTest f s).pins = s.pins ∧
      (emergencyTest f s).time = s.time ∧ (emergencyTest f s).gov = s.gov ∧
      (emergencyTest f s).firing = s.firing ∧ (emergencyTest f s).plant = s.plant ∧
      (emergencyTest f s).water = s.water ∧ (emergencyTest f s).saw = s.saw ∧
      (emergencyTest f s).tables = s.tables ∧ (emergencyTest f s).draws = s.draws ∧
      (emergencyTest f s).pending = s.pending := by
  unfold emergencyTest; and_intros <;> (repeat' split) <;> simp

@[simp] theorem shedDue_frame (s : State) :
    (shedDue s).edge = s.edge ∧ (shedDue s).pins = s.pins ∧
      (shedDue s).time = s.time ∧ (shedDue s).gov = s.gov ∧
      (shedDue s).firing = s.firing ∧ (shedDue s).plant = s.plant ∧
      (shedDue s).water = s.water ∧ (shedDue s).saw = s.saw ∧
      (shedDue s).tables = s.tables ∧ (shedDue s).draws = s.draws ∧
      (shedDue s).pending = s.pending := by
  unfold shedDue; and_intros <;> simp

@[simp] theorem shedTimerStep_frame (e : Int) (p : Nat) (s : State) :
    (shedTimerStep e p s).edge = s.edge ∧ (shedTimerStep e p s).pins = s.pins ∧
      (shedTimerStep e p s).time = s.time ∧ (shedTimerStep e p s).gov = s.gov ∧
      (shedTimerStep e p s).firing = s.firing ∧ (shedTimerStep e p s).plant = s.plant ∧
      (shedTimerStep e p s).water = s.water ∧ (shedTimerStep e p s).saw = s.saw ∧
      (shedTimerStep e p s).tables = s.tables ∧ (shedTimerStep e p s).draws = s.draws ∧
      (shedTimerStep e p s).pending = s.pending := by
  unfold shedTimerStep; dsimp only; and_intros <;> (repeat' split) <;> simp

@[simp] theorem restoreCircuit_frame (i : Nat) (s : State) :
    (restoreCircuit i s).edge = s.edge ∧ (restoreCircuit i s).pins = s.pins ∧
      (restoreCircuit i s).time = s.time ∧ (restoreCircuit i s).gov = s.gov ∧
      (restoreCircuit i s).firing = s.firing ∧ (restoreCircuit i s).plant = s.plant ∧
      (restoreCircuit i s).water = s.water ∧ (restoreCircuit i s).saw = s.saw ∧
      (restoreCircuit i s).conds = s.conds ∧ (restoreCircuit i s).tables = s.tables ∧
      (restoreCircuit i s).draws = s.draws ∧ (restoreCircuit i s).pending = s.pending := by
  unfold restoreCircuit; and_intros <;> simp

@[simp] theorem restoreStep_frame (p : Nat) (s : State) :
    (restoreStep p s).edge = s.edge ∧ (restoreStep p s).pins = s.pins ∧
      (restoreStep p s).time = s.time ∧ (restoreStep p s).gov = s.gov ∧
      (restoreStep p s).firing = s.firing ∧ (restoreStep p s).plant = s.plant ∧
      (restoreStep p s).water = s.water ∧ (restoreStep p s).saw = s.saw ∧
      (restoreStep p s).conds = s.conds ∧ (restoreStep p s).tables = s.tables ∧
      (restoreStep p s).draws = s.draws ∧ (restoreStep p s).pending = s.pending := by
  unfold restoreStep; dsimp only; and_intros <;> (repeat' split) <;> simp

@[simp] theorem sheddingUpdate_frame (f : Nat) (e : Int) (p : Nat) (s : State) :
    (sheddingUpdate f e p s).edge = s.edge ∧ (sheddingUpdate f e p s).pins = s.pins ∧
      (sheddingUpdate f e p s).time = s.time ∧ (sheddingUpdate f e p s).gov = s.gov ∧
      (sheddingUpdate f e p s).firing = s.firing ∧ (sheddingUpdate f e p s).plant = s.plant ∧
      (sheddingUpdate f e p s).water = s.water ∧ (sheddingUpdate f e p s).saw = s.saw ∧
      (sheddingUpdate f e p s).tables = s.tables ∧ (sheddingUpdate f e p s).draws = s.draws ∧
      (sheddingUpdate f e p s).pending = s.pending := by
  unfold sheddingUpdate; and_intros <;> (repeat' split) <;> simp

@[simp] theorem shedTimerExpires_frame (s : State) :
    (shedTimerExpires s).edge = s.edge ∧ (shedTimerExpires s).pins = s.pins ∧
      (shedTimerExpires s).time = s.time ∧ (shedTimerExpires s).gov = s.gov ∧
      (shedTimerExpires s).firing = s.firing ∧ (shedTimerExpires s).plant = s.plant ∧
      (shedTimerExpires s).water = s.water ∧ (shedTimerExpires s).saw = s.saw ∧
      (shedTimerExpires s).tables = s.tables ∧ (shedTimerExpires s).draws = s.draws ∧
      (shedTimerExpires s).pending = s.pending := by
  unfold shedTimerExpires; and_intros <;> (repeat' split) <;> simp

@[simp] theorem restoreExpires_frame (s : State) :
    (restoreExpires s).edge = s.edge ∧ (restoreExpires s).pins = s.pins ∧
      (restoreExpires s).time = s.time ∧ (restoreExpires s).gov = s.gov ∧
      (restoreExpires s).firing = s.firing ∧ (restoreExpires s).plant = s.plant ∧
      (restoreExpires s).water = s.water ∧ (restoreExpires s).saw = s.saw ∧
      (restoreExpires s).conds = s.conds ∧ (restoreExpires s).tables = s.tables ∧
      (restoreExpires s).draws = s.draws ∧ (restoreExpires s).pending = s.pending := by
  unfold restoreExpires; and_intros <;> (repeat' split) <;> simp

/-! ## Saw -/

@[simp] theorem enterSawIdle_frame (lamp : Lamp) (s : State) :
    (enterSawIdle lamp s).edge = s.edge ∧ (enterSawIdle lamp s).pins = s.pins ∧
      (enterSawIdle lamp s).time = s.time ∧ (enterSawIdle lamp s).firing = s.firing ∧
      (enterSawIdle lamp s).plant = s.plant ∧ (enterSawIdle lamp s).water = s.water ∧
      (enterSawIdle lamp s).hamlet = s.hamlet ∧ (enterSawIdle lamp s).conds = s.conds ∧
      (enterSawIdle lamp s).tables = s.tables ∧ (enterSawIdle lamp s).draws = s.draws ∧
      (enterSawIdle lamp s).pending = s.pending := by
  unfold enterSawIdle; dsimp only; and_intros <;> simp

@[simp] theorem enterReserving_frame (s : State) :
    (enterReserving s).edge = s.edge ∧ (enterReserving s).pins = s.pins ∧
      (enterReserving s).time = s.time ∧ (enterReserving s).gov = s.gov ∧
      (enterReserving s).firing = s.firing ∧ (enterReserving s).plant = s.plant ∧
      (enterReserving s).water = s.water ∧ (enterReserving s).hamlet = s.hamlet ∧
      (enterReserving s).shed = s.shed ∧ (enterReserving s).conds = s.conds ∧
      (enterReserving s).tables = s.tables ∧ (enterReserving s).draws = s.draws ∧
      (enterReserving s).pending = s.pending := by
  unfold enterReserving; dsimp only; and_intros <;> simp

@[simp] theorem enterEngaging_frame (s : State) :
    (enterEngaging s).edge = s.edge ∧ (enterEngaging s).pins = s.pins ∧
      (enterEngaging s).time = s.time ∧ (enterEngaging s).firing = s.firing ∧
      (enterEngaging s).plant = s.plant ∧ (enterEngaging s).water = s.water ∧
      (enterEngaging s).hamlet = s.hamlet ∧ (enterEngaging s).shed = s.shed ∧
      (enterEngaging s).conds = s.conds ∧ (enterEngaging s).tables = s.tables ∧
      (enterEngaging s).draws = s.draws ∧ (enterEngaging s).pending = s.pending := by
  unfold enterEngaging; dsimp only; and_intros <;> simp

@[simp] theorem enterRunning_frame (s : State) :
    (enterRunning s).edge = s.edge ∧ (enterRunning s).pins = s.pins ∧
      (enterRunning s).time = s.time ∧ (enterRunning s).gov = s.gov ∧
      (enterRunning s).firing = s.firing ∧ (enterRunning s).plant = s.plant ∧
      (enterRunning s).water = s.water ∧ (enterRunning s).hamlet = s.hamlet ∧
      (enterRunning s).shed = s.shed ∧ (enterRunning s).conds = s.conds ∧
      (enterRunning s).tables = s.tables ∧ (enterRunning s).draws = s.draws ∧
      (enterRunning s).pending = s.pending := by
  unfold enterRunning; dsimp only; and_intros <;> simp

@[simp] theorem enterSawStopping_frame (s : State) :
    (enterSawStopping s).edge = s.edge ∧ (enterSawStopping s).pins = s.pins ∧
      (enterSawStopping s).time = s.time ∧ (enterSawStopping s).gov = s.gov ∧
      (enterSawStopping s).firing = s.firing ∧ (enterSawStopping s).plant = s.plant ∧
      (enterSawStopping s).water = s.water ∧ (enterSawStopping s).hamlet = s.hamlet ∧
      (enterSawStopping s).shed = s.shed ∧ (enterSawStopping s).conds = s.conds ∧
      (enterSawStopping s).tables = s.tables ∧ (enterSawStopping s).draws = s.draws ∧
      (enterSawStopping s).pending = s.pending := by
  unfold enterSawStopping; dsimp only; and_intros <;> simp

@[simp] theorem orderRelease_frame (s : State) :
    (orderRelease s).edge = s.edge ∧ (orderRelease s).pins = s.pins ∧
      (orderRelease s).time = s.time ∧ (orderRelease s).gov = s.gov ∧
      (orderRelease s).firing = s.firing ∧ (orderRelease s).plant = s.plant ∧
      (orderRelease s).water = s.water ∧ (orderRelease s).hamlet = s.hamlet ∧
      (orderRelease s).shed = s.shed ∧ (orderRelease s).conds = s.conds ∧
      (orderRelease s).journal = s.journal ∧ (orderRelease s).tables = s.tables ∧
      (orderRelease s).draws = s.draws ∧ (orderRelease s).pending = s.pending := by
  unfold orderRelease; dsimp only; and_intros <;> simp

@[simp] theorem denyReservation_frame (reason : Nat) (s : State) :
    (denyReservation reason s).edge = s.edge ∧ (denyReservation reason s).pins = s.pins ∧
      (denyReservation reason s).time = s.time ∧ (denyReservation reason s).firing = s.firing ∧
      (denyReservation reason s).plant = s.plant ∧ (denyReservation reason s).water = s.water ∧
      (denyReservation reason s).hamlet = s.hamlet ∧ (denyReservation reason s).conds = s.conds ∧
      (denyReservation reason s).tables = s.tables ∧ (denyReservation reason s).draws = s.draws ∧
      (denyReservation reason s).pending = s.pending := by
  unfold denyReservation; and_intros <;> simp

@[simp] theorem clutchFails_frame (s : State) :
    (clutchFails s).edge = s.edge ∧ (clutchFails s).pins = s.pins ∧
      (clutchFails s).time = s.time ∧ (clutchFails s).gov = s.gov ∧
      (clutchFails s).firing = s.firing ∧ (clutchFails s).plant = s.plant ∧
      (clutchFails s).water = s.water ∧ (clutchFails s).hamlet = s.hamlet ∧
      (clutchFails s).shed = s.shed ∧ (clutchFails s).tables = s.tables ∧
      (clutchFails s).draws = s.draws ∧ (clutchFails s).pending = s.pending := by
  unfold clutchFails; and_intros <;> simp

@[simp] theorem clutchFailsToIdle_frame (s : State) :
    (clutchFailsToIdle s).edge = s.edge ∧ (clutchFailsToIdle s).pins = s.pins ∧
      (clutchFailsToIdle s).time = s.time ∧ (clutchFailsToIdle s).firing = s.firing ∧
      (clutchFailsToIdle s).plant = s.plant ∧ (clutchFailsToIdle s).water = s.water ∧
      (clutchFailsToIdle s).hamlet = s.hamlet ∧ (clutchFailsToIdle s).tables = s.tables ∧
      (clutchFailsToIdle s).draws = s.draws ∧ (clutchFailsToIdle s).pending = s.pending := by
  unfold clutchFailsToIdle; and_intros <;> simp

@[simp] theorem setVerdict_frame (num : Nat) (v : Verdict) (s : State) :
    (setVerdict num v s).edge = s.edge ∧ (setVerdict num v s).pins = s.pins ∧
      (setVerdict num v s).time = s.time ∧ (setVerdict num v s).gov = s.gov ∧
      (setVerdict num v s).firing = s.firing ∧ (setVerdict num v s).plant = s.plant ∧
      (setVerdict num v s).water = s.water ∧ (setVerdict num v s).hamlet = s.hamlet ∧
      (setVerdict num v s).shed = s.shed ∧ (setVerdict num v s).conds = s.conds ∧
      (setVerdict num v s).journal = s.journal ∧ (setVerdict num v s).tables = s.tables ∧
      (setVerdict num v s).draws = s.draws ∧ (setVerdict num v s).pending = s.pending := by
  unfold setVerdict; and_intros <;> simp

@[simp] theorem setLamp_frame (lamp : Lamp) (s : State) :
    (setLamp lamp s).edge = s.edge ∧ (setLamp lamp s).pins = s.pins ∧
      (setLamp lamp s).time = s.time ∧ (setLamp lamp s).gov = s.gov ∧
      (setLamp lamp s).firing = s.firing ∧ (setLamp lamp s).plant = s.plant ∧
      (setLamp lamp s).water = s.water ∧ (setLamp lamp s).hamlet = s.hamlet ∧
      (setLamp lamp s).shed = s.shed ∧ (setLamp lamp s).conds = s.conds ∧
      (setLamp lamp s).journal = s.journal ∧ (setLamp lamp s).tables = s.tables ∧
      (setLamp lamp s).draws = s.draws ∧ (setLamp lamp s).pending = s.pending := by
  unfold setLamp; and_intros <;> simp

@[simp] theorem startRequest_frame (num : Nat) (s : State) :
    (startRequest num s).edge = s.edge ∧ (startRequest num s).pins = s.pins ∧
      (startRequest num s).time = s.time ∧ (startRequest num s).gov = s.gov ∧
      (startRequest num s).firing = s.firing ∧ (startRequest num s).plant = s.plant ∧
      (startRequest num s).water = s.water ∧ (startRequest num s).hamlet = s.hamlet ∧
      (startRequest num s).shed = s.shed ∧ (startRequest num s).conds = s.conds ∧
      (startRequest num s).tables = s.tables ∧ (startRequest num s).draws = s.draws ∧
      (startRequest num s).pending = s.pending := by
  unfold startRequest; and_intros <;> (repeat' split) <;> simp

@[simp] theorem extendRequest_frame (num : Nat) (s : State) :
    (extendRequest num s).edge = s.edge ∧ (extendRequest num s).pins = s.pins ∧
      (extendRequest num s).time = s.time ∧ (extendRequest num s).gov = s.gov ∧
      (extendRequest num s).firing = s.firing ∧ (extendRequest num s).plant = s.plant ∧
      (extendRequest num s).water = s.water ∧ (extendRequest num s).hamlet = s.hamlet ∧
      (extendRequest num s).shed = s.shed ∧ (extendRequest num s).conds = s.conds ∧
      (extendRequest num s).journal = s.journal ∧ (extendRequest num s).tables = s.tables ∧
      (extendRequest num s).draws = s.draws ∧ (extendRequest num s).pending = s.pending := by
  unfold extendRequest; and_intros <;> (repeat' split) <;> simp

@[simp] theorem takeRequest_frame (num : Nat) (r : SawRequest) (s : State) :
    (takeRequest num r s).edge = s.edge ∧ (takeRequest num r s).pins = s.pins ∧
      (takeRequest num r s).time = s.time ∧ (takeRequest num r s).firing = s.firing ∧
      (takeRequest num r s).plant = s.plant ∧ (takeRequest num r s).water = s.water ∧
      (takeRequest num r s).hamlet = s.hamlet ∧ (takeRequest num r s).conds = s.conds ∧
      (takeRequest num r s).tables = s.tables ∧ (takeRequest num r s).draws = s.draws ∧
      (takeRequest num r s).pending = s.pending := by
  unfold takeRequest; and_intros <;> (repeat' split) <;> simp

@[simp] theorem operatorRequest_frame (num : Nat) (r : SawRequest) (s : State) :
    (operatorRequest num r s).edge = s.edge ∧ (operatorRequest num r s).pins = s.pins ∧
      (operatorRequest num r s).time = s.time ∧ (operatorRequest num r s).firing = s.firing ∧
      (operatorRequest num r s).plant = s.plant ∧ (operatorRequest num r s).water = s.water ∧
      (operatorRequest num r s).hamlet = s.hamlet ∧ (operatorRequest num r s).conds = s.conds ∧
      (operatorRequest num r s).tables = s.tables ∧ (operatorRequest num r s).draws = s.draws ∧
      (operatorRequest num r s).pending = s.pending := by
  unfold operatorRequest; dsimp only; and_intros <;> (repeat' split) <;> simp

@[simp] theorem clutchInEngaging_frame (c : ClutchReport) (s : State) :
    (clutchInEngaging c s).edge = s.edge ∧ (clutchInEngaging c s).pins = s.pins ∧
      (clutchInEngaging c s).time = s.time ∧ (clutchInEngaging c s).gov = s.gov ∧
      (clutchInEngaging c s).firing = s.firing ∧ (clutchInEngaging c s).plant = s.plant ∧
      (clutchInEngaging c s).water = s.water ∧ (clutchInEngaging c s).hamlet = s.hamlet ∧
      (clutchInEngaging c s).shed = s.shed ∧ (clutchInEngaging c s).tables = s.tables ∧
      (clutchInEngaging c s).draws = s.draws ∧ (clutchInEngaging c s).pending = s.pending := by
  unfold clutchInEngaging; and_intros <;> (repeat' split) <;> simp

@[simp] theorem clutchInRunning_frame (c : ClutchReport) (s : State) :
    (clutchInRunning c s).edge = s.edge ∧ (clutchInRunning c s).pins = s.pins ∧
      (clutchInRunning c s).time = s.time ∧ (clutchInRunning c s).gov = s.gov ∧
      (clutchInRunning c s).firing = s.firing ∧ (clutchInRunning c s).plant = s.plant ∧
      (clutchInRunning c s).water = s.water ∧ (clutchInRunning c s).hamlet = s.hamlet ∧
      (clutchInRunning c s).shed = s.shed ∧ (clutchInRunning c s).tables = s.tables ∧
      (clutchInRunning c s).draws = s.draws ∧ (clutchInRunning c s).pending = s.pending := by
  unfold clutchInRunning; and_intros <;> (repeat' split) <;> simp

@[simp] theorem clutchInStopping_frame (c : ClutchReport) (s : State) :
    (clutchInStopping c s).edge = s.edge ∧ (clutchInStopping c s).pins = s.pins ∧
      (clutchInStopping c s).time = s.time ∧ (clutchInStopping c s).firing = s.firing ∧
      (clutchInStopping c s).plant = s.plant ∧ (clutchInStopping c s).water = s.water ∧
      (clutchInStopping c s).hamlet = s.hamlet ∧ (clutchInStopping c s).tables = s.tables ∧
      (clutchInStopping c s).draws = s.draws ∧ (clutchInStopping c s).pending = s.pending := by
  unfold clutchInStopping; and_intros <;> (repeat' split) <;> simp

@[simp] theorem applyClutch_frame (c : ClutchReport) (s : State) :
    (applyClutch c s).edge = s.edge ∧ (applyClutch c s).pins = s.pins ∧
      (applyClutch c s).time = s.time ∧ (applyClutch c s).firing = s.firing ∧
      (applyClutch c s).plant = s.plant ∧ (applyClutch c s).water = s.water ∧
      (applyClutch c s).hamlet = s.hamlet ∧ (applyClutch c s).tables = s.tables ∧
      (applyClutch c s).draws = s.draws ∧ (applyClutch c s).pending = s.pending := by
  unfold applyClutch; dsimp only; and_intros <;> (repeat' split) <;> simp

@[simp] theorem applyCarriage_frame (c : CarriageReport) (s : State) :
    (applyCarriage c s).edge = s.edge ∧ (applyCarriage c s).pins = s.pins ∧
      (applyCarriage c s).time = s.time ∧ (applyCarriage c s).gov = s.gov ∧
      (applyCarriage c s).firing = s.firing ∧ (applyCarriage c s).plant = s.plant ∧
      (applyCarriage c s).water = s.water ∧ (applyCarriage c s).hamlet = s.hamlet ∧
      (applyCarriage c s).shed = s.shed ∧ (applyCarriage c s).conds = s.conds ∧
      (applyCarriage c s).journal = s.journal ∧ (applyCarriage c s).tables = s.tables ∧
      (applyCarriage c s).draws = s.draws ∧ (applyCarriage c s).pending = s.pending := by
  unfold applyCarriage; dsimp only; and_intros <;> (repeat' split) <;> simp

@[simp] theorem sawOrderCheck_frame (c : ClutchReport) (s : State) :
    (sawOrderCheck c s).edge = s.edge ∧ (sawOrderCheck c s).pins = s.pins ∧
      (sawOrderCheck c s).time = s.time ∧ (sawOrderCheck c s).gov = s.gov ∧
      (sawOrderCheck c s).firing = s.firing ∧ (sawOrderCheck c s).plant = s.plant ∧
      (sawOrderCheck c s).water = s.water ∧ (sawOrderCheck c s).hamlet = s.hamlet ∧
      (sawOrderCheck c s).shed = s.shed ∧ (sawOrderCheck c s).saw = s.saw ∧
      (sawOrderCheck c s).conds = s.conds ∧ (sawOrderCheck c s).journal = s.journal ∧
      (sawOrderCheck c s).tables = s.tables ∧ (sawOrderCheck c s).draws = s.draws ∧
      (sawOrderCheck c s).pending = s.pending := by
  unfold sawOrderCheck; and_intros <;> (repeat' split) <;> simp

@[simp] theorem sawHeard_frame (s : State) :
    (sawHeard s).edge = s.edge ∧ (sawHeard s).pins = s.pins ∧
      (sawHeard s).time = s.time ∧ (sawHeard s).gov = s.gov ∧
      (sawHeard s).firing = s.firing ∧ (sawHeard s).plant = s.plant ∧
      (sawHeard s).water = s.water ∧ (sawHeard s).hamlet = s.hamlet ∧
      (sawHeard s).shed = s.shed ∧ (sawHeard s).journal = s.journal ∧
      (sawHeard s).tables = s.tables ∧ (sawHeard s).loop = s.loop ∧
      (sawHeard s).draws = s.draws ∧ (sawHeard s).pending = s.pending := by
  unfold sawHeard; dsimp only; and_intros <;> (repeat' split) <;> simp

@[simp] theorem sawSample_frame (payload : List Byte) (s : State) :
    (sawSample payload s).edge = s.edge ∧ (sawSample payload s).pins = s.pins ∧
      (sawSample payload s).time = s.time ∧ (sawSample payload s).firing = s.firing ∧
      (sawSample payload s).plant = s.plant ∧ (sawSample payload s).water = s.water ∧
      (sawSample payload s).hamlet = s.hamlet ∧ (sawSample payload s).tables = s.tables ∧
      (sawSample payload s).draws = s.draws ∧ (sawSample payload s).pending = s.pending := by
  unfold sawSample; dsimp only; and_intros <;> (repeat' split) <;> simp

@[simp] theorem reserveUpdate_frame (s : State) :
    (reserveUpdate s).edge = s.edge ∧ (reserveUpdate s).pins = s.pins ∧
      (reserveUpdate s).time = s.time ∧ (reserveUpdate s).firing = s.firing ∧
      (reserveUpdate s).plant = s.plant ∧ (reserveUpdate s).water = s.water ∧
      (reserveUpdate s).tables = s.tables ∧ (reserveUpdate s).draws = s.draws ∧
      (reserveUpdate s).pending = s.pending := by
  unfold reserveUpdate; and_intros <;> (repeat' split) <;> simp

@[simp] theorem feedUpdate_frame (f : Nat) (s : State) :
    (feedUpdate f s).edge = s.edge ∧ (feedUpdate f s).pins = s.pins ∧
      (feedUpdate f s).time = s.time ∧ (feedUpdate f s).gov = s.gov ∧
      (feedUpdate f s).firing = s.firing ∧ (feedUpdate f s).plant = s.plant ∧
      (feedUpdate f s).water = s.water ∧ (feedUpdate f s).hamlet = s.hamlet ∧
      (feedUpdate f s).shed = s.shed ∧ (feedUpdate f s).conds = s.conds ∧
      (feedUpdate f s).journal = s.journal ∧ (feedUpdate f s).tables = s.tables ∧
      (feedUpdate f s).draws = s.draws ∧ (feedUpdate f s).pending = s.pending := by
  unfold feedUpdate; dsimp only; and_intros <;> (repeat' split) <;> simp

@[simp] theorem sawUpdate_frame (f : Nat) (s : State) :
    (sawUpdate f s).edge = s.edge ∧ (sawUpdate f s).pins = s.pins ∧
      (sawUpdate f s).time = s.time ∧ (sawUpdate f s).firing = s.firing ∧
      (sawUpdate f s).plant = s.plant ∧ (sawUpdate f s).water = s.water ∧
      (sawUpdate f s).tables = s.tables ∧ (sawUpdate f s).draws = s.draws ∧
      (sawUpdate f s).pending = s.pending := by
  unfold sawUpdate; and_intros <;> (repeat' split) <;> simp

@[simp] theorem sawWindowCloses_frame (s : State) :
    (sawWindowCloses s).edge = s.edge ∧ (sawWindowCloses s).pins = s.pins ∧
      (sawWindowCloses s).time = s.time ∧ (sawWindowCloses s).firing = s.firing ∧
      (sawWindowCloses s).plant = s.plant ∧ (sawWindowCloses s).water = s.water ∧
      (sawWindowCloses s).hamlet = s.hamlet ∧ (sawWindowCloses s).conds = s.conds ∧
      (sawWindowCloses s).tables = s.tables ∧ (sawWindowCloses s).draws = s.draws ∧
      (sawWindowCloses s).pending = s.pending := by
  unfold sawWindowCloses; and_intros <;> (repeat' split) <;> simp

@[simp] theorem sawFallsSilent_frame (s : State) :
    (sawFallsSilent s).edge = s.edge ∧ (sawFallsSilent s).pins = s.pins ∧
      (sawFallsSilent s).time = s.time ∧ (sawFallsSilent s).firing = s.firing ∧
      (sawFallsSilent s).plant = s.plant ∧ (sawFallsSilent s).water = s.water ∧
      (sawFallsSilent s).hamlet = s.hamlet ∧ (sawFallsSilent s).tables = s.tables ∧
      (sawFallsSilent s).draws = s.draws ∧ (sawFallsSilent s).pending = s.pending := by
  unfold sawFallsSilent; and_intros <;> (repeat' split) <;> simp

@[simp] theorem sawSilenceExpires_frame (s : State) :
    (sawSilenceExpires s).edge = s.edge ∧ (sawSilenceExpires s).pins = s.pins ∧
      (sawSilenceExpires s).time = s.time ∧ (sawSilenceExpires s).firing = s.firing ∧
      (sawSilenceExpires s).plant = s.plant ∧ (sawSilenceExpires s).water = s.water ∧
      (sawSilenceExpires s).hamlet = s.hamlet ∧ (sawSilenceExpires s).tables = s.tables ∧
      (sawSilenceExpires s).draws = s.draws ∧ (sawSilenceExpires s).pending = s.pending := by
  unfold sawSilenceExpires; and_intros <;> (repeat' split) <;> simp

@[simp] theorem reserveTimerExpires_frame (s : State) :
    (reserveTimerExpires s).edge = s.edge ∧ (reserveTimerExpires s).pins = s.pins ∧
      (reserveTimerExpires s).time = s.time ∧ (reserveTimerExpires s).firing = s.firing ∧
      (reserveTimerExpires s).plant = s.plant ∧ (reserveTimerExpires s).water = s.water ∧
      (reserveTimerExpires s).hamlet = s.hamlet ∧ (reserveTimerExpires s).conds = s.conds ∧
      (reserveTimerExpires s).tables = s.tables ∧ (reserveTimerExpires s).draws = s.draws ∧
      (reserveTimerExpires s).pending = s.pending := by
  unfold reserveTimerExpires; and_intros <;> (repeat' split) <;> simp

@[simp] theorem settleExpires_frame (s : State) :
    (settleExpires s).edge = s.edge ∧ (settleExpires s).pins = s.pins ∧
      (settleExpires s).time = s.time ∧ (settleExpires s).gov = s.gov ∧
      (settleExpires s).firing = s.firing ∧ (settleExpires s).plant = s.plant ∧
      (settleExpires s).water = s.water ∧ (settleExpires s).hamlet = s.hamlet ∧
      (settleExpires s).shed = s.shed ∧ (settleExpires s).conds = s.conds ∧
      (settleExpires s).tables = s.tables ∧ (settleExpires s).draws = s.draws ∧
      (settleExpires s).pending = s.pending := by
  unfold settleExpires; dsimp only; and_intros <;> (repeat' split) <;> simp

@[simp] theorem confirmExpires_frame (s : State) :
    (confirmExpires s).edge = s.edge ∧ (confirmExpires s).pins = s.pins ∧
      (confirmExpires s).time = s.time ∧ (confirmExpires s).firing = s.firing ∧
      (confirmExpires s).plant = s.plant ∧ (confirmExpires s).water = s.water ∧
      (confirmExpires s).hamlet = s.hamlet ∧ (confirmExpires s).tables = s.tables ∧
      (confirmExpires s).draws = s.draws ∧ (confirmExpires s).pending = s.pending := by
  unfold confirmExpires; dsimp only; and_intros <;> (repeat' split) <;> simp

@[simp] theorem rundownExpires_frame (s : State) :
    (rundownExpires s).edge = s.edge ∧ (rundownExpires s).pins = s.pins ∧
      (rundownExpires s).time = s.time ∧ (rundownExpires s).gov = s.gov ∧
      (rundownExpires s).firing = s.firing ∧ (rundownExpires s).plant = s.plant ∧
      (rundownExpires s).water = s.water ∧ (rundownExpires s).hamlet = s.hamlet ∧
      (rundownExpires s).shed = s.shed ∧ (rundownExpires s).conds = s.conds ∧
      (rundownExpires s).journal = s.journal ∧ (rundownExpires s).tables = s.tables ∧
      (rundownExpires s).draws = s.draws ∧ (rundownExpires s).pending = s.pending := by
  unfold rundownExpires; and_intros <;> (repeat' split) <;> simp

@[simp] theorem grantExpires_frame (s : State) :
    (grantExpires s).edge = s.edge ∧ (grantExpires s).pins = s.pins ∧
      (grantExpires s).time = s.time ∧ (grantExpires s).gov = s.gov ∧
      (grantExpires s).firing = s.firing ∧ (grantExpires s).plant = s.plant ∧
      (grantExpires s).water = s.water ∧ (grantExpires s).hamlet = s.hamlet ∧
      (grantExpires s).shed = s.shed ∧ (grantExpires s).conds = s.conds ∧
      (grantExpires s).tables = s.tables ∧ (grantExpires s).draws = s.draws ∧
      (grantExpires s).pending = s.pending := by
  unfold grantExpires; and_intros <;> (repeat' split) <;> simp

@[simp] theorem sawEntry_frame (p : PlantState) (s : State) :
    (sawEntry p s).edge = s.edge ∧ (sawEntry p s).pins = s.pins ∧
      (sawEntry p s).time = s.time ∧ (sawEntry p s).firing = s.firing ∧
      (sawEntry p s).plant = s.plant ∧ (sawEntry p s).water = s.water ∧
      (sawEntry p s).hamlet = s.hamlet ∧ (sawEntry p s).conds = s.conds ∧
      (sawEntry p s).tables = s.tables ∧ (sawEntry p s).draws = s.draws ∧
      (sawEntry p s).pending = s.pending := by
  unfold sawEntry; and_intros <;> (repeat' split) <;> simp

@[simp] theorem sawSilenceTick_frame (s : State) :
    (sawSilenceTick s).edge = s.edge ∧ (sawSilenceTick s).pins = s.pins ∧
      (sawSilenceTick s).time = s.time ∧ (sawSilenceTick s).firing = s.firing ∧
      (sawSilenceTick s).plant = s.plant ∧ (sawSilenceTick s).water = s.water ∧
      (sawSilenceTick s).hamlet = s.hamlet ∧ (sawSilenceTick s).tables = s.tables ∧
      (sawSilenceTick s).draws = s.draws ∧ (sawSilenceTick s).pending = s.pending := by
  unfold sawSilenceTick; dsimp only; and_intros <;> (repeat' split) <;> simp

@[simp] theorem grantTick_frame (s : State) :
    (grantTick s).edge = s.edge ∧ (grantTick s).pins = s.pins ∧
      (grantTick s).time = s.time ∧ (grantTick s).gov = s.gov ∧
      (grantTick s).firing = s.firing ∧ (grantTick s).plant = s.plant ∧
      (grantTick s).water = s.water ∧ (grantTick s).hamlet = s.hamlet ∧
      (grantTick s).shed = s.shed ∧ (grantTick s).conds = s.conds ∧
      (grantTick s).tables = s.tables ∧ (grantTick s).draws = s.draws ∧
      (grantTick s).pending = s.pending := by
  unfold grantTick; and_intros <;> (repeat' split) <;> simp

/-! ## Plant -/

@[simp] theorem raiseCause_frame (p : PlantState) (cause : Cause) (s : State) :
    (raiseCause p cause s).edge = s.edge ∧ (raiseCause p cause s).pins = s.pins ∧
      (raiseCause p cause s).time = s.time ∧ (raiseCause p cause s).gov = s.gov ∧
      (raiseCause p cause s).firing = s.firing ∧ (raiseCause p cause s).plant = s.plant ∧
      (raiseCause p cause s).water = s.water ∧ (raiseCause p cause s).hamlet = s.hamlet ∧
      (raiseCause p cause s).shed = s.shed ∧ (raiseCause p cause s).saw = s.saw ∧
      (raiseCause p cause s).tables = s.tables ∧ (raiseCause p cause s).draws = s.draws ∧
      (raiseCause p cause s).pending = s.pending := by
  unfold raiseCause; and_intros <;> (repeat' split) <;> simp

@[simp] theorem timeEntry_frame (p : PlantState) (s : State) :
    (timeEntry p s).edge = s.edge ∧ (timeEntry p s).pins = s.pins ∧
      (timeEntry p s).gov = s.gov ∧ (timeEntry p s).firing = s.firing ∧
      (timeEntry p s).plant = s.plant ∧ (timeEntry p s).water = s.water ∧
      (timeEntry p s).hamlet = s.hamlet ∧ (timeEntry p s).shed = s.shed ∧
      (timeEntry p s).saw = s.saw ∧ (timeEntry p s).conds = s.conds ∧
      (timeEntry p s).journal = s.journal ∧ (timeEntry p s).tables = s.tables ∧
      (timeEntry p s).loop = s.loop ∧ (timeEntry p s).draws = s.draws ∧
      (timeEntry p s).pending = s.pending := by
  unfold timeEntry; and_intros <;> (repeat' split) <;> simp

@[simp] theorem waterEntry_frame (p : PlantState) (s : State) :
    (waterEntry p s).edge = s.edge ∧ (waterEntry p s).pins = s.pins ∧
      (waterEntry p s).time = s.time ∧ (waterEntry p s).gov = s.gov ∧
      (waterEntry p s).firing = s.firing ∧ (waterEntry p s).plant = s.plant ∧
      (waterEntry p s).hamlet = s.hamlet ∧ (waterEntry p s).shed = s.shed ∧
      (waterEntry p s).saw = s.saw ∧ (waterEntry p s).conds = s.conds ∧
      (waterEntry p s).journal = s.journal ∧ (waterEntry p s).tables = s.tables ∧
      (waterEntry p s).draws = s.draws ∧ (waterEntry p s).pending = s.pending := by
  unfold waterEntry; and_intros <;> simp

@[simp] theorem energise_frame (s : State) :
    (energise s).edge = s.edge ∧ (energise s).pins = s.pins ∧
      (energise s).time = s.time ∧ (energise s).gov = s.gov ∧
      (energise s).firing = s.firing ∧ (energise s).plant = s.plant ∧
      (energise s).water = s.water ∧ (energise s).saw = s.saw ∧
      (energise s).tables = s.tables ∧ (energise s).draws = s.draws ∧
      (energise s).pending = s.pending := ⟨
    (foldl_keeps State.edge _ (fun _ _ => by simp) _ _).trans
      (foldl_keeps State.edge _ (fun _ _ => by simp) _ _),
    (foldl_keeps State.pins _ (fun _ _ => by simp) _ _).trans
      (foldl_keeps State.pins _ (fun _ _ => by simp) _ _),
    (foldl_keeps State.time _ (fun _ _ => by simp) _ _).trans
      (foldl_keeps State.time _ (fun _ _ => by simp) _ _),
    (foldl_keeps State.gov _ (fun _ _ => by simp) _ _).trans
      (foldl_keeps State.gov _ (fun _ _ => by simp) _ _),
    (foldl_keeps State.firing _ (fun _ _ => by simp) _ _).trans
      (foldl_keeps State.firing _ (fun _ _ => by simp) _ _),
    (foldl_keeps State.plant _ (fun _ _ => by simp) _ _).trans
      (foldl_keeps State.plant _ (fun _ _ => by simp) _ _),
    (foldl_keeps State.water _ (fun _ _ => by simp) _ _).trans
      (foldl_keeps State.water _ (fun _ _ => by simp) _ _),
    (foldl_keeps State.saw _ (fun _ _ => by simp) _ _).trans
      (foldl_keeps State.saw _ (fun _ _ => by simp) _ _),
    (foldl_keeps State.tables _ (fun _ _ => by simp) _ _).trans
      (foldl_keeps State.tables _ (fun _ _ => by simp) _ _),
    (foldl_keeps State.draws _ (fun _ _ => by simp) _ _).trans
      (foldl_keeps State.draws _ (fun _ _ => by simp) _ _),
    (foldl_keeps State.pending _ (fun _ _ => by simp) _ _).trans
      (foldl_keeps State.pending _ (fun _ _ => by simp) _ _)⟩

@[simp] theorem darken_frame (s : State) :
    (darken s).edge = s.edge ∧ (darken s).pins = s.pins ∧
      (darken s).time = s.time ∧ (darken s).gov = s.gov ∧
      (darken s).firing = s.firing ∧ (darken s).plant = s.plant ∧
      (darken s).water = s.water ∧ (darken s).saw = s.saw ∧
      (darken s).conds = s.conds ∧ (darken s).journal = s.journal ∧
      (darken s).tables = s.tables ∧ (darken s).loop = s.loop ∧
      (darken s).draws = s.draws ∧ (darken s).pending = s.pending := by
  unfold darken; and_intros <;> simp

@[simp] theorem goDark_frame (s : State) :
    (goDark s).edge = s.edge ∧ (goDark s).pins = s.pins ∧
      (goDark s).time = s.time ∧ (goDark s).gov = s.gov ∧
      (goDark s).firing = s.firing ∧ (goDark s).plant = s.plant ∧
      (goDark s).water = s.water ∧ (goDark s).saw = s.saw ∧
      (goDark s).conds = s.conds ∧ (goDark s).journal = s.journal ∧
      (goDark s).tables = s.tables ∧ (goDark s).draws = s.draws ∧
      (goDark s).pending = s.pending := ⟨
    (foldl_keeps State.edge _ (fun _ _ => by (repeat' split) <;> simp) _ _).trans
      (by simp),
    (foldl_keeps State.pins _ (fun _ _ => by (repeat' split) <;> simp) _ _).trans
      (by simp),
    (foldl_keeps State.time _ (fun _ _ => by (repeat' split) <;> simp) _ _).trans
      (by simp),
    (foldl_keeps State.gov _ (fun _ _ => by (repeat' split) <;> simp) _ _).trans
      (by simp),
    (foldl_keeps State.firing _ (fun _ _ => by (repeat' split) <;> simp) _ _).trans
      (by simp),
    (foldl_keeps State.plant _ (fun _ _ => by (repeat' split) <;> simp) _ _).trans
      (by simp),
    (foldl_keeps State.water _ (fun _ _ => by (repeat' split) <;> simp) _ _).trans
      (by simp),
    (foldl_keeps State.saw _ (fun _ _ => by (repeat' split) <;> simp) _ _).trans
      (by simp),
    (foldl_keeps State.conds _ (fun _ _ => by (repeat' split) <;> simp) _ _).trans
      (by simp),
    (foldl_keeps State.journal _ (fun _ _ => by (repeat' split) <;> simp) _ _).trans
      (by simp),
    (foldl_keeps State.tables _ (fun _ _ => by (repeat' split) <;> simp) _ _).trans
      (by simp),
    (foldl_keeps State.draws _ (fun _ _ => by (repeat' split) <;> simp) _ _).trans
      (by simp),
    (foldl_keeps State.pending _ (fun _ _ => by (repeat' split) <;> simp) _ _).trans
      (by simp)⟩

@[simp] theorem hamletEntry_frame (p : PlantState) (s : State) :
    (hamletEntry p s).edge = s.edge ∧ (hamletEntry p s).pins = s.pins ∧
      (hamletEntry p s).time = s.time ∧ (hamletEntry p s).gov = s.gov ∧
      (hamletEntry p s).firing = s.firing ∧ (hamletEntry p s).plant = s.plant ∧
      (hamletEntry p s).water = s.water ∧ (hamletEntry p s).saw = s.saw ∧
      (hamletEntry p s).tables = s.tables ∧ (hamletEntry p s).draws = s.draws ∧
      (hamletEntry p s).pending = s.pending := by
  unfold hamletEntry; and_intros <;> (repeat' split) <;> simp

@[simp] theorem recordEntry_frame (p : PlantState) (cause : Cause) (s : State) :
    (recordEntry p cause s).edge = s.edge ∧ (recordEntry p cause s).pins = s.pins ∧
      (recordEntry p cause s).time = s.time ∧ (recordEntry p cause s).gov = s.gov ∧
      (recordEntry p cause s).firing = s.firing ∧ (recordEntry p cause s).water = s.water ∧
      (recordEntry p cause s).hamlet = s.hamlet ∧ (recordEntry p cause s).shed = s.shed ∧
      (recordEntry p cause s).saw = s.saw ∧ (recordEntry p cause s).tables = s.tables ∧
      (recordEntry p cause s).draws = s.draws ∧ (recordEntry p cause s).pending = s.pending := by
  unfold recordEntry; and_intros <;> simp

@[simp] theorem enterPlant_frame (p : PlantState) (cause : Cause) (s : State) :
    (enterPlant p cause s).edge = s.edge ∧ (enterPlant p cause s).pins = s.pins ∧
      (enterPlant p cause s).tables = s.tables ∧ (enterPlant p cause s).draws = s.draws ∧
      (enterPlant p cause s).pending = s.pending := by
  unfold enterPlant; and_intros <;> simp

@[simp] theorem completionTest_frame (s : State) :
    (completionTest s).edge = s.edge ∧ (completionTest s).pins = s.pins ∧
      (completionTest s).tables = s.tables ∧ (completionTest s).draws = s.draws ∧
      (completionTest s).pending = s.pending := by
  unfold completionTest; and_intros <;> (repeat' split) <;> simp

@[simp] theorem enterStopping_frame (cause : Cause) (s : State) :
    (enterStopping cause s).edge = s.edge ∧ (enterStopping cause s).pins = s.pins ∧
      (enterStopping cause s).tables = s.tables ∧ (enterStopping cause s).draws = s.draws ∧
      (enterStopping cause s).pending = s.pending := by
  unfold enterStopping; and_intros <;> simp

@[simp] theorem trip_frame (cause : Cause) (s : State) :
    (trip cause s).edge = s.edge ∧ (trip cause s).pins = s.pins ∧
      (trip cause s).tables = s.tables ∧ (trip cause s).draws = s.draws ∧
      (trip cause s).pending = s.pending := by
  unfold trip; and_intros <;> (repeat' split) <;> simp

@[simp] theorem gateFaultEvent_frame (s : State) :
    (gateFaultEvent s).edge = s.edge ∧ (gateFaultEvent s).pins = s.pins ∧
      (gateFaultEvent s).tables = s.tables ∧ (gateFaultEvent s).draws = s.draws ∧
      (gateFaultEvent s).pending = s.pending := by
  unfold gateFaultEvent; and_intros <;> (repeat' split) <;> simp

@[simp] theorem shortageToPlant_frame (s : State) :
    (shortageToPlant s).edge = s.edge ∧ (shortageToPlant s).pins = s.pins ∧
      (shortageToPlant s).tables = s.tables ∧ (shortageToPlant s).draws = s.draws ∧
      (shortageToPlant s).pending = s.pending := by
  unfold shortageToPlant; and_intros <;> (repeat' split) <;> simp

@[simp] theorem shortageEvent_frame (s : State) :
    (shortageEvent s).edge = s.edge ∧ (shortageEvent s).pins = s.pins ∧
      (shortageEvent s).tables = s.tables ∧ (shortageEvent s).draws = s.draws ∧
      (shortageEvent s).pending = s.pending := by
  unfold shortageEvent; and_intros <;> simp

@[simp] theorem runupAccepted_frame (s : State) :
    (runupAccepted s).edge = s.edge ∧ (runupAccepted s).pins = s.pins ∧
      (runupAccepted s).tables = s.tables ∧ (runupAccepted s).draws = s.draws ∧
      (runupAccepted s).pending = s.pending := by
  unfold runupAccepted; and_intros <;> (repeat' split) <;> simp

@[simp] theorem runupTimerExpires_frame (s : State) :
    (runupTimerExpires s).edge = s.edge ∧ (runupTimerExpires s).pins = s.pins ∧
      (runupTimerExpires s).tables = s.tables ∧ (runupTimerExpires s).draws = s.draws ∧
      (runupTimerExpires s).pending = s.pending := by
  unfold runupTimerExpires; and_intros <;> (repeat' split) <;> simp

@[simp] theorem stopTimerExpires_frame (s : State) :
    (stopTimerExpires s).edge = s.edge ∧ (stopTimerExpires s).pins = s.pins ∧
      (stopTimerExpires s).tables = s.tables ∧ (stopTimerExpires s).draws = s.draws ∧
      (stopTimerExpires s).pending = s.pending := by
  unfold stopTimerExpires; and_intros <;> (repeat' split) <;> simp

@[simp] theorem signalLossExpires_frame (s : State) :
    (signalLossExpires s).edge = s.edge ∧ (signalLossExpires s).pins = s.pins ∧
      (signalLossExpires s).tables = s.tables ∧ (signalLossExpires s).draws = s.draws ∧
      (signalLossExpires s).pending = s.pending := by
  unfold signalLossExpires; dsimp only; and_intros <;> (repeat' split) <;> simp

@[simp] theorem collapseExpires_frame (s : State) :
    (collapseExpires s).edge = s.edge ∧ (collapseExpires s).pins = s.pins ∧
      (collapseExpires s).tables = s.tables ∧ (collapseExpires s).draws = s.draws ∧
      (collapseExpires s).pending = s.pending := by
  unfold collapseExpires; dsimp only; and_intros <;> (repeat' split) <;> simp

@[simp] theorem freqOverspeedExpires_frame (s : State) :
    (freqOverspeedExpires s).edge = s.edge ∧ (freqOverspeedExpires s).pins = s.pins ∧
      (freqOverspeedExpires s).tables = s.tables ∧ (freqOverspeedExpires s).draws = s.draws ∧
      (freqOverspeedExpires s).pending = s.pending := by
  unfold freqOverspeedExpires; and_intros <;> (repeat' split) <;> simp

@[simp] theorem plantTick_frame (s : State) :
    (plantTick s).edge = s.edge ∧ (plantTick s).pins = s.pins ∧
      (plantTick s).tables = s.tables ∧ (plantTick s).draws = s.draws ∧
      (plantTick s).pending = s.pending := by
  unfold plantTick; dsimp only; and_intros <;> (repeat' split) <;> simp

@[simp] theorem acceptPeriod_frame (f : Nat) (s : State) :
    (acceptPeriod f s).edge = s.edge ∧ (acceptPeriod f s).pins = s.pins ∧
      (acceptPeriod f s).tables = s.tables ∧ (acceptPeriod f s).draws = s.draws ∧
      (acceptPeriod f s).pending = s.pending := by
  unfold acceptPeriod; dsimp only; and_intros <;> (repeat' split) <;> simp

@[simp] theorem watchOverspeed_frame (f : Nat) (s : State) :
    (watchOverspeed f s).edge = s.edge ∧ (watchOverspeed f s).pins = s.pins ∧
      (watchOverspeed f s).time = s.time ∧ (watchOverspeed f s).gov = s.gov ∧
      (watchOverspeed f s).firing = s.firing ∧ (watchOverspeed f s).water = s.water ∧
      (watchOverspeed f s).hamlet = s.hamlet ∧ (watchOverspeed f s).shed = s.shed ∧
      (watchOverspeed f s).saw = s.saw ∧ (watchOverspeed f s).conds = s.conds ∧
      (watchOverspeed f s).journal = s.journal ∧ (watchOverspeed f s).tables = s.tables ∧
      (watchOverspeed f s).loop = s.loop ∧ (watchOverspeed f s).draws = s.draws ∧
      (watchOverspeed f s).pending = s.pending := by
  unfold watchOverspeed; and_intros <;> (repeat' split) <;> simp

@[simp] theorem startCollapse_frame (s : State) :
    (startCollapse s).edge = s.edge ∧ (startCollapse s).pins = s.pins ∧
      (startCollapse s).time = s.time ∧ (startCollapse s).gov = s.gov ∧
      (startCollapse s).firing = s.firing ∧ (startCollapse s).water = s.water ∧
      (startCollapse s).hamlet = s.hamlet ∧ (startCollapse s).shed = s.shed ∧
      (startCollapse s).saw = s.saw ∧ (startCollapse s).conds = s.conds ∧
      (startCollapse s).journal = s.journal ∧ (startCollapse s).tables = s.tables ∧
      (startCollapse s).loop = s.loop ∧ (startCollapse s).draws = s.draws ∧
      (startCollapse s).pending = s.pending := by
  unfold startCollapse; and_intros <;> simp

@[simp] theorem watchCollapse_frame (f : Nat) (s : State) :
    (watchCollapse f s).edge = s.edge ∧ (watchCollapse f s).pins = s.pins ∧
      (watchCollapse f s).time = s.time ∧ (watchCollapse f s).gov = s.gov ∧
      (watchCollapse f s).firing = s.firing ∧ (watchCollapse f s).water = s.water ∧
      (watchCollapse f s).hamlet = s.hamlet ∧ (watchCollapse f s).shed = s.shed ∧
      (watchCollapse f s).saw = s.saw ∧ (watchCollapse f s).conds = s.conds ∧
      (watchCollapse f s).journal = s.journal ∧ (watchCollapse f s).tables = s.tables ∧
      (watchCollapse f s).loop = s.loop ∧ (watchCollapse f s).draws = s.draws ∧
      (watchCollapse f s).pending = s.pending := by
  unfold watchCollapse; and_intros <;> (repeat' split) <;> simp

@[simp] theorem plantPeriod_frame (f : Nat) (s : State) :
    (plantPeriod f s).edge = s.edge ∧ (plantPeriod f s).pins = s.pins ∧
      (plantPeriod f s).tables = s.tables ∧ (plantPeriod f s).draws = s.draws ∧
      (plantPeriod f s).pending = s.pending := by
  unfold plantPeriod; and_intros <;> simp

@[simp] theorem clearAcceptance_frame (s : State) :
    (clearAcceptance s).edge = s.edge ∧ (clearAcceptance s).pins = s.pins ∧
      (clearAcceptance s).time = s.time ∧ (clearAcceptance s).gov = s.gov ∧
      (clearAcceptance s).firing = s.firing ∧ (clearAcceptance s).water = s.water ∧
      (clearAcceptance s).hamlet = s.hamlet ∧ (clearAcceptance s).shed = s.shed ∧
      (clearAcceptance s).saw = s.saw ∧ (clearAcceptance s).conds = s.conds ∧
      (clearAcceptance s).journal = s.journal ∧ (clearAcceptance s).tables = s.tables ∧
      (clearAcceptance s).loop = s.loop ∧ (clearAcceptance s).draws = s.draws ∧
      (clearAcceptance s).pending = s.pending := by
  unfold clearAcceptance; and_intros <;> (repeat' split) <;> simp

@[simp] theorem lossTimers_frame (s : State) :
    (lossTimers s).edge = s.edge ∧ (lossTimers s).pins = s.pins ∧
      (lossTimers s).time = s.time ∧ (lossTimers s).gov = s.gov ∧
      (lossTimers s).firing = s.firing ∧ (lossTimers s).water = s.water ∧
      (lossTimers s).hamlet = s.hamlet ∧ (lossTimers s).shed = s.shed ∧
      (lossTimers s).saw = s.saw ∧ (lossTimers s).conds = s.conds ∧
      (lossTimers s).journal = s.journal ∧ (lossTimers s).tables = s.tables ∧
      (lossTimers s).loop = s.loop ∧ (lossTimers s).draws = s.draws ∧
      (lossTimers s).pending = s.pending := by
  unfold lossTimers; and_intros <;> (repeat' split) <;> simp

@[simp] theorem plantSignalLost_frame (s : State) :
    (plantSignalLost s).edge = s.edge ∧ (plantSignalLost s).pins = s.pins ∧
      (plantSignalLost s).tables = s.tables ∧ (plantSignalLost s).draws = s.draws ∧
      (plantSignalLost s).pending = s.pending := by
  unfold plantSignalLost; and_intros <;> simp

@[simp] theorem plantSignalPresent_frame (s : State) :
    (plantSignalPresent s).edge = s.edge ∧ (plantSignalPresent s).pins = s.pins ∧
      (plantSignalPresent s).time = s.time ∧ (plantSignalPresent s).gov = s.gov ∧
      (plantSignalPresent s).firing = s.firing ∧ (plantSignalPresent s).water = s.water ∧
      (plantSignalPresent s).hamlet = s.hamlet ∧ (plantSignalPresent s).shed = s.shed ∧
      (plantSignalPresent s).saw = s.saw ∧ (plantSignalPresent s).conds = s.conds ∧
      (plantSignalPresent s).journal = s.journal ∧ (plantSignalPresent s).tables = s.tables ∧
      (plantSignalPresent s).loop = s.loop ∧ (plantSignalPresent s).draws = s.draws ∧
      (plantSignalPresent s).pending = s.pending := by
  unfold plantSignalPresent; and_intros <;> simp

/-! ## Water -/

@[simp] theorem storePond_frame (level head : Int) (s : State) :
    (storePond level head s).edge = s.edge ∧ (storePond level head s).pins = s.pins ∧
      (storePond level head s).time = s.time ∧ (storePond level head s).gov = s.gov ∧
      (storePond level head s).firing = s.firing ∧ (storePond level head s).plant = s.plant ∧
      (storePond level head s).hamlet = s.hamlet ∧ (storePond level head s).shed = s.shed ∧
      (storePond level head s).saw = s.saw ∧ (storePond level head s).conds = s.conds ∧
      (storePond level head s).journal = s.journal ∧ (storePond level head s).tables = s.tables ∧
      (storePond level head s).loop = s.loop ∧ (storePond level head s).draws = s.draws ∧
      (storePond level head s).pending = s.pending := by
  unfold storePond; dsimp only; and_intros <;> simp

@[simp] theorem pondHeard_frame (s : State) :
    (pondHeard s).edge = s.edge ∧ (pondHeard s).pins = s.pins ∧
      (pondHeard s).time = s.time ∧ (pondHeard s).gov = s.gov ∧
      (pondHeard s).firing = s.firing ∧ (pondHeard s).plant = s.plant ∧
      (pondHeard s).hamlet = s.hamlet ∧ (pondHeard s).shed = s.shed ∧
      (pondHeard s).saw = s.saw ∧ (pondHeard s).journal = s.journal ∧
      (pondHeard s).tables = s.tables ∧ (pondHeard s).loop = s.loop ∧
      (pondHeard s).draws = s.draws ∧ (pondHeard s).pending = s.pending := by
  unfold pondHeard; dsimp only; and_intros <;> (repeat' split) <;> simp

@[simp] theorem pondSample_frame (payload : List Byte) (s : State) :
    (pondSample payload s).edge = s.edge ∧ (pondSample payload s).pins = s.pins ∧
      (pondSample payload s).time = s.time ∧ (pondSample payload s).gov = s.gov ∧
      (pondSample payload s).firing = s.firing ∧ (pondSample payload s).plant = s.plant ∧
      (pondSample payload s).hamlet = s.hamlet ∧ (pondSample payload s).shed = s.shed ∧
      (pondSample payload s).saw = s.saw ∧ (pondSample payload s).journal = s.journal ∧
      (pondSample payload s).tables = s.tables ∧ (pondSample payload s).loop = s.loop ∧
      (pondSample payload s).draws = s.draws ∧ (pondSample payload s).pending = s.pending := by
  unfold pondSample; and_intros <;> (repeat' split) <;> simp

@[simp] theorem storeGate_frame (pos : Nat) (st : GateStatus) (s : State) :
    (storeGate pos st s).edge = s.edge ∧ (storeGate pos st s).pins = s.pins ∧
      (storeGate pos st s).time = s.time ∧ (storeGate pos st s).gov = s.gov ∧
      (storeGate pos st s).firing = s.firing ∧ (storeGate pos st s).plant = s.plant ∧
      (storeGate pos st s).hamlet = s.hamlet ∧ (storeGate pos st s).shed = s.shed ∧
      (storeGate pos st s).saw = s.saw ∧ (storeGate pos st s).conds = s.conds ∧
      (storeGate pos st s).journal = s.journal ∧ (storeGate pos st s).tables = s.tables ∧
      (storeGate pos st s).loop = s.loop ∧ (storeGate pos st s).draws = s.draws ∧
      (storeGate pos st s).pending = s.pending := by
  unfold storeGate; and_intros <;> simp

@[simp] theorem gateHeard_frame (s : State) :
    (gateHeard s).edge = s.edge ∧ (gateHeard s).pins = s.pins ∧
      (gateHeard s).time = s.time ∧ (gateHeard s).gov = s.gov ∧
      (gateHeard s).firing = s.firing ∧ (gateHeard s).plant = s.plant ∧
      (gateHeard s).hamlet = s.hamlet ∧ (gateHeard s).shed = s.shed ∧
      (gateHeard s).saw = s.saw ∧ (gateHeard s).journal = s.journal ∧
      (gateHeard s).tables = s.tables ∧ (gateHeard s).loop = s.loop ∧
      (gateHeard s).draws = s.draws ∧ (gateHeard s).pending = s.pending := by
  unfold gateHeard; dsimp only; and_intros <;> (repeat' split) <;> simp

@[simp] theorem gateEvent_frame (st : GateStatus) (s : State) :
    (gateEvent st s).edge = s.edge ∧ (gateEvent st s).pins = s.pins ∧
      (gateEvent st s).tables = s.tables ∧ (gateEvent st s).draws = s.draws ∧
      (gateEvent st s).pending = s.pending := by
  unfold gateEvent; and_intros <;> (repeat' split) <;> simp

@[simp] theorem gateOrderCheck_frame (pos : Nat) (st : GateStatus) (s : State) :
    (gateOrderCheck pos st s).edge = s.edge ∧ (gateOrderCheck pos st s).pins = s.pins ∧
      (gateOrderCheck pos st s).time = s.time ∧ (gateOrderCheck pos st s).gov = s.gov ∧
      (gateOrderCheck pos st s).firing = s.firing ∧ (gateOrderCheck pos st s).plant = s.plant ∧
      (gateOrderCheck pos st s).water = s.water ∧ (gateOrderCheck pos st s).hamlet = s.hamlet ∧
      (gateOrderCheck pos st s).shed = s.shed ∧ (gateOrderCheck pos st s).saw = s.saw ∧
      (gateOrderCheck pos st s).conds = s.conds ∧ (gateOrderCheck pos st s).journal = s.journal ∧
      (gateOrderCheck pos st s).tables = s.tables ∧ (gateOrderCheck pos st s).draws = s.draws ∧
      (gateOrderCheck pos st s).pending = s.pending := by
  unfold gateOrderCheck; and_intros <;> (repeat' split) <;> simp

@[simp] theorem gateSample_frame (payload : List Byte) (s : State) :
    (gateSample payload s).edge = s.edge ∧ (gateSample payload s).pins = s.pins ∧
      (gateSample payload s).tables = s.tables ∧ (gateSample payload s).draws = s.draws ∧
      (gateSample payload s).pending = s.pending := by
  unfold gateSample; dsimp only; and_intros <;> (repeat' split) <;> simp

@[simp] theorem pondSilenceExpires_frame (s : State) :
    (pondSilenceExpires s).edge = s.edge ∧ (pondSilenceExpires s).pins = s.pins ∧
      (pondSilenceExpires s).time = s.time ∧ (pondSilenceExpires s).gov = s.gov ∧
      (pondSilenceExpires s).firing = s.firing ∧ (pondSilenceExpires s).plant = s.plant ∧
      (pondSilenceExpires s).hamlet = s.hamlet ∧ (pondSilenceExpires s).shed = s.shed ∧
      (pondSilenceExpires s).saw = s.saw ∧ (pondSilenceExpires s).tables = s.tables ∧
      (pondSilenceExpires s).draws = s.draws ∧ (pondSilenceExpires s).pending = s.pending := by
  unfold pondSilenceExpires; and_intros <;> (repeat' split) <;> simp

@[simp] theorem gateSilenceExpires_frame (s : State) :
    (gateSilenceExpires s).edge = s.edge ∧ (gateSilenceExpires s).pins = s.pins ∧
      (gateSilenceExpires s).time = s.time ∧ (gateSilenceExpires s).gov = s.gov ∧
      (gateSilenceExpires s).firing = s.firing ∧ (gateSilenceExpires s).plant = s.plant ∧
      (gateSilenceExpires s).hamlet = s.hamlet ∧ (gateSilenceExpires s).shed = s.shed ∧
      (gateSilenceExpires s).saw = s.saw ∧ (gateSilenceExpires s).tables = s.tables ∧
      (gateSilenceExpires s).draws = s.draws ∧ (gateSilenceExpires s).pending = s.pending := by
  unfold gateSilenceExpires; and_intros <;> (repeat' split) <;> simp

@[simp] theorem pondSilenceTick_frame (s : State) :
    (pondSilenceTick s).edge = s.edge ∧ (pondSilenceTick s).pins = s.pins ∧
      (pondSilenceTick s).time = s.time ∧ (pondSilenceTick s).gov = s.gov ∧
      (pondSilenceTick s).firing = s.firing ∧ (pondSilenceTick s).plant = s.plant ∧
      (pondSilenceTick s).hamlet = s.hamlet ∧ (pondSilenceTick s).shed = s.shed ∧
      (pondSilenceTick s).saw = s.saw ∧ (pondSilenceTick s).tables = s.tables ∧
      (pondSilenceTick s).draws = s.draws ∧ (pondSilenceTick s).pending = s.pending := by
  unfold pondSilenceTick; dsimp only; and_intros <;> (repeat' split) <;> simp

@[simp] theorem gateSilenceTick_frame (s : State) :
    (gateSilenceTick s).edge = s.edge ∧ (gateSilenceTick s).pins = s.pins ∧
      (gateSilenceTick s).time = s.time ∧ (gateSilenceTick s).gov = s.gov ∧
      (gateSilenceTick s).firing = s.firing ∧ (gateSilenceTick s).plant = s.plant ∧
      (gateSilenceTick s).hamlet = s.hamlet ∧ (gateSilenceTick s).shed = s.shed ∧
      (gateSilenceTick s).saw = s.saw ∧ (gateSilenceTick s).tables = s.tables ∧
      (gateSilenceTick s).draws = s.draws ∧ (gateSilenceTick s).pending = s.pending := by
  unfold gateSilenceTick; dsimp only; and_intros <;> (repeat' split) <;> simp

@[simp] theorem demandUpdate_frame (s : State) :
    (demandUpdate s).edge = s.edge ∧ (demandUpdate s).pins = s.pins ∧
      (demandUpdate s).time = s.time ∧ (demandUpdate s).gov = s.gov ∧
      (demandUpdate s).firing = s.firing ∧ (demandUpdate s).plant = s.plant ∧
      (demandUpdate s).hamlet = s.hamlet ∧ (demandUpdate s).shed = s.shed ∧
      (demandUpdate s).saw = s.saw ∧ (demandUpdate s).conds = s.conds ∧
      (demandUpdate s).journal = s.journal ∧ (demandUpdate s).tables = s.tables ∧
      (demandUpdate s).loop = s.loop ∧ (demandUpdate s).draws = s.draws ∧
      (demandUpdate s).pending = s.pending := by
  unfold demandUpdate; and_intros <;> (repeat' split) <;> simp

@[simp] theorem restartInterval_frame (s : State) :
    (restartInterval s).edge = s.edge ∧ (restartInterval s).pins = s.pins ∧
      (restartInterval s).time = s.time ∧ (restartInterval s).gov = s.gov ∧
      (restartInterval s).firing = s.firing ∧ (restartInterval s).plant = s.plant ∧
      (restartInterval s).hamlet = s.hamlet ∧ (restartInterval s).shed = s.shed ∧
      (restartInterval s).saw = s.saw ∧ (restartInterval s).conds = s.conds ∧
      (restartInterval s).journal = s.journal ∧ (restartInterval s).tables = s.tables ∧
      (restartInterval s).loop = s.loop ∧ (restartInterval s).draws = s.draws ∧
      (restartInterval s).pending = s.pending := by
  unfold restartInterval; and_intros <;> simp

@[simp] theorem raiseResidual_frame (s : State) :
    (raiseResidual s).edge = s.edge ∧ (raiseResidual s).pins = s.pins ∧
      (raiseResidual s).time = s.time ∧ (raiseResidual s).gov = s.gov ∧
      (raiseResidual s).firing = s.firing ∧ (raiseResidual s).plant = s.plant ∧
      (raiseResidual s).water = s.water ∧ (raiseResidual s).hamlet = s.hamlet ∧
      (raiseResidual s).shed = s.shed ∧ (raiseResidual s).saw = s.saw ∧
      (raiseResidual s).tables = s.tables ∧ (raiseResidual s).draws = s.draws ∧
      (raiseResidual s).pending = s.pending := by
  unfold raiseResidual; and_intros <;> (repeat' split) <;> simp

@[simp] theorem chargeShortage_frame (interval : Nat) (s : State) :
    (chargeShortage interval s).edge = s.edge ∧ (chargeShortage interval s).pins = s.pins ∧
      (chargeShortage interval s).tables = s.tables ∧ (chargeShortage interval s).draws = s.draws ∧
      (chargeShortage interval s).pending = s.pending := by
  unfold chargeShortage; dsimp only; and_intros <;> (repeat' split) <;> simp

@[simp] theorem settleGate_frame (g : Nat) (s : State) :
    (settleGate g s).edge = s.edge ∧ (settleGate g s).pins = s.pins ∧
      (settleGate g s).time = s.time ∧ (settleGate g s).gov = s.gov ∧
      (settleGate g s).firing = s.firing ∧ (settleGate g s).plant = s.plant ∧
      (settleGate g s).hamlet = s.hamlet ∧ (settleGate g s).shed = s.shed ∧
      (settleGate g s).saw = s.saw ∧ (settleGate g s).conds = s.conds ∧
      (settleGate g s).journal = s.journal ∧ (settleGate g s).tables = s.tables ∧
      (settleGate g s).draws = s.draws ∧ (settleGate g s).pending = s.pending := by
  unfold settleGate; and_intros <;> simp

@[simp] theorem madeEvaluation_frame (l interval : Nat) (s : State) :
    (madeEvaluation l interval s).edge = s.edge ∧ (madeEvaluation l interval s).pins = s.pins ∧
      (madeEvaluation l interval s).tables = s.tables ∧ (madeEvaluation l interval s).draws = s.draws ∧
      (madeEvaluation l interval s).pending = s.pending := by
  unfold madeEvaluation; dsimp only; and_intros <;> (repeat' split) <;> simp

@[simp] theorem evaluate_frame (interval : Nat) (s : State) :
    (evaluate interval s).edge = s.edge ∧ (evaluate interval s).pins = s.pins ∧
      (evaluate interval s).tables = s.tables ∧ (evaluate interval s).draws = s.draws ∧
      (evaluate interval s).pending = s.pending := by
  unfold evaluate; and_intros <;> (repeat' split) <;> simp

@[simp] theorem gateEvaluation_frame (s : State) :
    (gateEvaluation s).edge = s.edge ∧ (gateEvaluation s).pins = s.pins ∧
      (gateEvaluation s).tables = s.tables ∧ (gateEvaluation s).draws = s.draws ∧
      (gateEvaluation s).pending = s.pending := by
  unfold gateEvaluation; and_intros <;> (repeat' split) <;> simp

@[simp] theorem evaluationTick_frame (s : State) :
    (evaluationTick s).edge = s.edge ∧ (evaluationTick s).pins = s.pins ∧
      (evaluationTick s).tables = s.tables ∧ (evaluationTick s).draws = s.draws ∧
      (evaluationTick s).pending = s.pending := by
  unfold evaluationTick; dsimp only; and_intros <;> (repeat' split) <;> simp

/-! ## Circuits -/

@[simp] theorem placeReclosed_frame (i : Nat) (s : State) :
    (placeReclosed i s).edge = s.edge ∧ (placeReclosed i s).pins = s.pins ∧
      (placeReclosed i s).time = s.time ∧ (placeReclosed i s).gov = s.gov ∧
      (placeReclosed i s).firing = s.firing ∧ (placeReclosed i s).plant = s.plant ∧
      (placeReclosed i s).water = s.water ∧ (placeReclosed i s).saw = s.saw ∧
      (placeReclosed i s).tables = s.tables ∧ (placeReclosed i s).draws = s.draws ∧
      (placeReclosed i s).pending = s.pending := by
  unfold placeReclosed; and_intros <;> (repeat' split) <;> simp

@[simp] theorem placeOn_frame (i : Nat) (s : State) :
    (placeOn i s).edge = s.edge ∧ (placeOn i s).pins = s.pins ∧
      (placeOn i s).time = s.time ∧ (placeOn i s).gov = s.gov ∧
      (placeOn i s).firing = s.firing ∧ (placeOn i s).plant = s.plant ∧
      (placeOn i s).water = s.water ∧ (placeOn i s).saw = s.saw ∧
      (placeOn i s).tables = s.tables ∧ (placeOn i s).draws = s.draws ∧
      (placeOn i s).pending = s.pending := by
  unfold placeOn; and_intros <;> (repeat' split) <;> simp

@[simp] theorem placeReleased_frame (i : Nat) (s : State) :
    (placeReleased i s).edge = s.edge ∧ (placeReleased i s).pins = s.pins ∧
      (placeReleased i s).time = s.time ∧ (placeReleased i s).gov = s.gov ∧
      (placeReleased i s).firing = s.firing ∧ (placeReleased i s).plant = s.plant ∧
      (placeReleased i s).water = s.water ∧ (placeReleased i s).saw = s.saw ∧
      (placeReleased i s).tables = s.tables ∧ (placeReleased i s).draws = s.draws ∧
      (placeReleased i s).pending = s.pending := by
  unfold placeReleased; and_intros <;> (repeat' split) <;> simp

@[simp] theorem lockOut_frame (i : Nat) (s : State) :
    (lockOut i s).edge = s.edge ∧ (lockOut i s).pins = s.pins ∧
      (lockOut i s).time = s.time ∧ (lockOut i s).gov = s.gov ∧
      (lockOut i s).firing = s.firing ∧ (lockOut i s).plant = s.plant ∧
      (lockOut i s).water = s.water ∧ (lockOut i s).shed = s.shed ∧
      (lockOut i s).saw = s.saw ∧ (lockOut i s).tables = s.tables ∧
      (lockOut i s).draws = s.draws ∧ (lockOut i s).pending = s.pending := by
  unfold lockOut; and_intros <;> simp

@[simp] theorem limitOpen_frame (i reading : Nat) (s : State) :
    (limitOpen i reading s).edge = s.edge ∧ (limitOpen i reading s).pins = s.pins ∧
      (limitOpen i reading s).time = s.time ∧ (limitOpen i reading s).gov = s.gov ∧
      (limitOpen i reading s).firing = s.firing ∧ (limitOpen i reading s).plant = s.plant ∧
      (limitOpen i reading s).water = s.water ∧ (limitOpen i reading s).shed = s.shed ∧
      (limitOpen i reading s).saw = s.saw ∧ (limitOpen i reading s).conds = s.conds ∧
      (limitOpen i reading s).tables = s.tables ∧ (limitOpen i reading s).draws = s.draws ∧
      (limitOpen i reading s).pending = s.pending := by
  unfold limitOpen; and_intros <;> simp

@[simp] theorem limiterTrips_frame (i reading : Nat) (s : State) :
    (limiterTrips i reading s).edge = s.edge ∧ (limiterTrips i reading s).pins = s.pins ∧
      (limiterTrips i reading s).time = s.time ∧ (limiterTrips i reading s).gov = s.gov ∧
      (limiterTrips i reading s).firing = s.firing ∧ (limiterTrips i reading s).plant = s.plant ∧
      (limiterTrips i reading s).water = s.water ∧ (limiterTrips i reading s).shed = s.shed ∧
      (limiterTrips i reading s).saw = s.saw ∧ (limiterTrips i reading s).tables = s.tables ∧
      (limiterTrips i reading s).draws = s.draws ∧ (limiterTrips i reading s).pending = s.pending := by
  unfold limiterTrips; dsimp only; and_intros <;> (repeat' split) <;> simp

@[simp] theorem setOver_frame (i n : Nat) (s : State) :
    (setOver i n s).edge = s.edge ∧ (setOver i n s).pins = s.pins ∧
      (setOver i n s).time = s.time ∧ (setOver i n s).gov = s.gov ∧
      (setOver i n s).firing = s.firing ∧ (setOver i n s).plant = s.plant ∧
      (setOver i n s).water = s.water ∧ (setOver i n s).shed = s.shed ∧
      (setOver i n s).saw = s.saw ∧ (setOver i n s).conds = s.conds ∧
      (setOver i n s).journal = s.journal ∧ (setOver i n s).tables = s.tables ∧
      (setOver i n s).loop = s.loop ∧ (setOver i n s).draws = s.draws ∧
      (setOver i n s).pending = s.pending := by
  unfold setOver; and_intros <;> simp

@[simp] theorem limiterTest_frame (i reading : Nat) (s : State) :
    (limiterTest i reading s).edge = s.edge ∧ (limiterTest i reading s).pins = s.pins ∧
      (limiterTest i reading s).time = s.time ∧ (limiterTest i reading s).gov = s.gov ∧
      (limiterTest i reading s).firing = s.firing ∧ (limiterTest i reading s).plant = s.plant ∧
      (limiterTest i reading s).water = s.water ∧ (limiterTest i reading s).shed = s.shed ∧
      (limiterTest i reading s).saw = s.saw ∧ (limiterTest i reading s).tables = s.tables ∧
      (limiterTest i reading s).draws = s.draws ∧ (limiterTest i reading s).pending = s.pending := by
  unfold limiterTest; dsimp only; and_intros <;> (repeat' split) <;> simp

@[simp] theorem limitTrip_frame (i reading : Nat) (s : State) :
    (limitTrip i reading s).edge = s.edge ∧ (limitTrip i reading s).pins = s.pins ∧
      (limitTrip i reading s).time = s.time ∧ (limitTrip i reading s).gov = s.gov ∧
      (limitTrip i reading s).firing = s.firing ∧ (limitTrip i reading s).plant = s.plant ∧
      (limitTrip i reading s).water = s.water ∧ (limitTrip i reading s).shed = s.shed ∧
      (limitTrip i reading s).saw = s.saw ∧ (limitTrip i reading s).tables = s.tables ∧
      (limitTrip i reading s).draws = s.draws ∧ (limitTrip i reading s).pending = s.pending := by
  unfold limitTrip; and_intros <;> (repeat' split) <;> simp

@[simp] theorem recloseExpires_frame (i : Nat) (s : State) :
    (recloseExpires i s).edge = s.edge ∧ (recloseExpires i s).pins = s.pins ∧
      (recloseExpires i s).time = s.time ∧ (recloseExpires i s).gov = s.gov ∧
      (recloseExpires i s).firing = s.firing ∧ (recloseExpires i s).plant = s.plant ∧
      (recloseExpires i s).water = s.water ∧ (recloseExpires i s).saw = s.saw ∧
      (recloseExpires i s).tables = s.tables ∧ (recloseExpires i s).draws = s.draws ∧
      (recloseExpires i s).pending = s.pending := by
  unfold recloseExpires; dsimp only; and_intros <;> (repeat' split) <;> simp

@[simp] theorem recloseTick_frame (i : Nat) (s : State) :
    (recloseTick i s).edge = s.edge ∧ (recloseTick i s).pins = s.pins ∧
      (recloseTick i s).time = s.time ∧ (recloseTick i s).gov = s.gov ∧
      (recloseTick i s).firing = s.firing ∧ (recloseTick i s).plant = s.plant ∧
      (recloseTick i s).water = s.water ∧ (recloseTick i s).saw = s.saw ∧
      (recloseTick i s).tables = s.tables ∧ (recloseTick i s).draws = s.draws ∧
      (recloseTick i s).pending = s.pending := by
  unfold recloseTick; and_intros <;> (repeat' split) <;> simp

@[simp] theorem countEnergy_frame (i charge : Nat) (s : State) :
    (countEnergy i charge s).edge = s.edge ∧ (countEnergy i charge s).pins = s.pins ∧
      (countEnergy i charge s).time = s.time ∧ (countEnergy i charge s).gov = s.gov ∧
      (countEnergy i charge s).firing = s.firing ∧ (countEnergy i charge s).plant = s.plant ∧
      (countEnergy i charge s).water = s.water ∧ (countEnergy i charge s).shed = s.shed ∧
      (countEnergy i charge s).saw = s.saw ∧ (countEnergy i charge s).tables = s.tables ∧
      (countEnergy i charge s).draws = s.draws ∧ (countEnergy i charge s).pending = s.pending := by
  unfold countEnergy; dsimp only; and_intros <;> (repeat' split) <;> simp

@[simp] theorem setDisagree_frame (i n : Nat) (s : State) :
    (setDisagree i n s).edge = s.edge ∧ (setDisagree i n s).pins = s.pins ∧
      (setDisagree i n s).time = s.time ∧ (setDisagree i n s).gov = s.gov ∧
      (setDisagree i n s).firing = s.firing ∧ (setDisagree i n s).plant = s.plant ∧
      (setDisagree i n s).water = s.water ∧ (setDisagree i n s).shed = s.shed ∧
      (setDisagree i n s).saw = s.saw ∧ (setDisagree i n s).conds = s.conds ∧
      (setDisagree i n s).journal = s.journal ∧ (setDisagree i n s).tables = s.tables ∧
      (setDisagree i n s).loop = s.loop ∧ (setDisagree i n s).draws = s.draws ∧
      (setDisagree i n s).pending = s.pending := by
  unfold setDisagree; and_intros <;> simp

@[simp] theorem countDisagree_frame (i : Nat) (s : State) :
    (countDisagree i s).edge = s.edge ∧ (countDisagree i s).pins = s.pins ∧
      (countDisagree i s).time = s.time ∧ (countDisagree i s).gov = s.gov ∧
      (countDisagree i s).firing = s.firing ∧ (countDisagree i s).plant = s.plant ∧
      (countDisagree i s).water = s.water ∧ (countDisagree i s).shed = s.shed ∧
      (countDisagree i s).saw = s.saw ∧ (countDisagree i s).tables = s.tables ∧
      (countDisagree i s).draws = s.draws ∧ (countDisagree i s).pending = s.pending := by
  unfold countDisagree; dsimp only; and_intros <;> (repeat' split) <;> simp

@[simp] theorem agreementCheck_frame (i : Nat) (r : BreakerReport) (s : State) :
    (agreementCheck i r s).edge = s.edge ∧ (agreementCheck i r s).pins = s.pins ∧
      (agreementCheck i r s).time = s.time ∧ (agreementCheck i r s).gov = s.gov ∧
      (agreementCheck i r s).firing = s.firing ∧ (agreementCheck i r s).plant = s.plant ∧
      (agreementCheck i r s).water = s.water ∧ (agreementCheck i r s).shed = s.shed ∧
      (agreementCheck i r s).saw = s.saw ∧ (agreementCheck i r s).tables = s.tables ∧
      (agreementCheck i r s).draws = s.draws ∧ (agreementCheck i r s).pending = s.pending := by
  unfold agreementCheck; and_intros <;> (repeat' split) <;> simp

@[simp] theorem breakerDisagree_frame (i : Nat) (r : BreakerReport) (s : State) :
    (breakerDisagree i r s).edge = s.edge ∧ (breakerDisagree i r s).pins = s.pins ∧
      (breakerDisagree i r s).time = s.time ∧ (breakerDisagree i r s).gov = s.gov ∧
      (breakerDisagree i r s).firing = s.firing ∧ (breakerDisagree i r s).plant = s.plant ∧
      (breakerDisagree i r s).water = s.water ∧ (breakerDisagree i r s).shed = s.shed ∧
      (breakerDisagree i r s).saw = s.saw ∧ (breakerDisagree i r s).tables = s.tables ∧
      (breakerDisagree i r s).draws = s.draws ∧ (breakerDisagree i r s).pending = s.pending := by
  unfold breakerDisagree; and_intros <;> (repeat' split) <;> simp

@[simp] theorem modifyFeeder_frame (k : Nat) (f : Feeder → Feeder) (s : State) :
    (modifyFeeder k f s).edge = s.edge ∧ (modifyFeeder k f s).pins = s.pins ∧
      (modifyFeeder k f s).time = s.time ∧ (modifyFeeder k f s).gov = s.gov ∧
      (modifyFeeder k f s).firing = s.firing ∧ (modifyFeeder k f s).plant = s.plant ∧
      (modifyFeeder k f s).water = s.water ∧ (modifyFeeder k f s).shed = s.shed ∧
      (modifyFeeder k f s).saw = s.saw ∧ (modifyFeeder k f s).conds = s.conds ∧
      (modifyFeeder k f s).journal = s.journal ∧ (modifyFeeder k f s).tables = s.tables ∧
      (modifyFeeder k f s).loop = s.loop ∧ (modifyFeeder k f s).draws = s.draws ∧
      (modifyFeeder k f s).pending = s.pending := by
  unfold modifyFeeder; and_intros <;> simp

@[simp] theorem examineFeeders_frame (s : State) :
    (examineFeeders s).edge = s.edge ∧ (examineFeeders s).pins = s.pins ∧
      (examineFeeders s).time = s.time ∧ (examineFeeders s).gov = s.gov ∧
      (examineFeeders s).firing = s.firing ∧ (examineFeeders s).plant = s.plant ∧
      (examineFeeders s).water = s.water ∧ (examineFeeders s).hamlet = s.hamlet ∧
      (examineFeeders s).shed = s.shed ∧ (examineFeeders s).saw = s.saw ∧
      (examineFeeders s).journal = s.journal ∧ (examineFeeders s).tables = s.tables ∧
      (examineFeeders s).loop = s.loop ∧ (examineFeeders s).draws = s.draws ∧
      (examineFeeders s).pending = s.pending := by
  unfold examineFeeders; and_intros <;> (repeat' split) <;> simp

@[simp] theorem feederHeard_frame (k : Nat) (s : State) :
    (feederHeard k s).edge = s.edge ∧ (feederHeard k s).pins = s.pins ∧
      (feederHeard k s).time = s.time ∧ (feederHeard k s).gov = s.gov ∧
      (feederHeard k s).firing = s.firing ∧ (feederHeard k s).plant = s.plant ∧
      (feederHeard k s).water = s.water ∧ (feederHeard k s).shed = s.shed ∧
      (feederHeard k s).saw = s.saw ∧ (feederHeard k s).journal = s.journal ∧
      (feederHeard k s).tables = s.tables ∧ (feederHeard k s).loop = s.loop ∧
      (feederHeard k s).draws = s.draws ∧ (feederHeard k s).pending = s.pending := by
  unfold feederHeard; dsimp only; and_intros <;> (repeat' split) <;> simp

@[simp] theorem storeRecord_frame (i reading : Nat) (r : BreakerReport) (s : State) :
    (storeRecord i reading r s).edge = s.edge ∧ (storeRecord i reading r s).pins = s.pins ∧
      (storeRecord i reading r s).time = s.time ∧ (storeRecord i reading r s).gov = s.gov ∧
      (storeRecord i reading r s).firing = s.firing ∧ (storeRecord i reading r s).plant = s.plant ∧
      (storeRecord i reading r s).water = s.water ∧ (storeRecord i reading r s).shed = s.shed ∧
      (storeRecord i reading r s).saw = s.saw ∧ (storeRecord i reading r s).conds = s.conds ∧
      (storeRecord i reading r s).journal = s.journal ∧ (storeRecord i reading r s).tables = s.tables ∧
      (storeRecord i reading r s).loop = s.loop ∧ (storeRecord i reading r s).draws = s.draws ∧
      (storeRecord i reading r s).pending = s.pending := by
  unfold storeRecord; and_intros <;> simp

@[simp] theorem limiterStep_frame (i reading : Nat) (s : State) :
    (limiterStep i reading s).edge = s.edge ∧ (limiterStep i reading s).pins = s.pins ∧
      (limiterStep i reading s).time = s.time ∧ (limiterStep i reading s).gov = s.gov ∧
      (limiterStep i reading s).firing = s.firing ∧ (limiterStep i reading s).plant = s.plant ∧
      (limiterStep i reading s).water = s.water ∧ (limiterStep i reading s).shed = s.shed ∧
      (limiterStep i reading s).saw = s.saw ∧ (limiterStep i reading s).tables = s.tables ∧
      (limiterStep i reading s).draws = s.draws ∧ (limiterStep i reading s).pending = s.pending := by
  unfold limiterStep; and_intros <;> (repeat' split) <;> simp

@[simp] theorem takeRecord_frame (i dt reading : Nat) (r : BreakerReport) (s : State) :
    (takeRecord i dt reading r s).edge = s.edge ∧ (takeRecord i dt reading r s).pins = s.pins ∧
      (takeRecord i dt reading r s).time = s.time ∧ (takeRecord i dt reading r s).gov = s.gov ∧
      (takeRecord i dt reading r s).firing = s.firing ∧ (takeRecord i dt reading r s).plant = s.plant ∧
      (takeRecord i dt reading r s).water = s.water ∧ (takeRecord i dt reading r s).shed = s.shed ∧
      (takeRecord i dt reading r s).saw = s.saw ∧ (takeRecord i dt reading r s).tables = s.tables ∧
      (takeRecord i dt reading r s).draws = s.draws ∧ (takeRecord i dt reading r s).pending = s.pending := by
  unfold takeRecord; dsimp only; and_intros <;> (repeat' split) <;> simp

@[simp] theorem feederOrderCheck_frame (k : Nat) (rs : List (Nat × Nat × BreakerReport)) (s : State) :
    (feederOrderCheck k rs s).edge = s.edge ∧ (feederOrderCheck k rs s).pins = s.pins ∧
      (feederOrderCheck k rs s).time = s.time ∧ (feederOrderCheck k rs s).gov = s.gov ∧
      (feederOrderCheck k rs s).firing = s.firing ∧ (feederOrderCheck k rs s).plant = s.plant ∧
      (feederOrderCheck k rs s).water = s.water ∧ (feederOrderCheck k rs s).hamlet = s.hamlet ∧
      (feederOrderCheck k rs s).shed = s.shed ∧ (feederOrderCheck k rs s).saw = s.saw ∧
      (feederOrderCheck k rs s).conds = s.conds ∧ (feederOrderCheck k rs s).journal = s.journal ∧
      (feederOrderCheck k rs s).tables = s.tables ∧ (feederOrderCheck k rs s).draws = s.draws ∧
      (feederOrderCheck k rs s).pending = s.pending := by
  unfold feederOrderCheck; and_intros <;> (repeat' split) <;> simp

@[simp] theorem takeRecords_frame (k dt : Nat) (rs : List (Nat × Nat × BreakerReport)) (s : State) :
    (takeRecords k dt rs s).edge = s.edge ∧ (takeRecords k dt rs s).pins = s.pins ∧
      (takeRecords k dt rs s).time = s.time ∧ (takeRecords k dt rs s).gov = s.gov ∧
      (takeRecords k dt rs s).firing = s.firing ∧ (takeRecords k dt rs s).plant = s.plant ∧
      (takeRecords k dt rs s).water = s.water ∧ (takeRecords k dt rs s).shed = s.shed ∧
      (takeRecords k dt rs s).saw = s.saw ∧ (takeRecords k dt rs s).tables = s.tables ∧
      (takeRecords k dt rs s).draws = s.draws ∧ (takeRecords k dt rs s).pending = s.pending := ⟨
    foldl_keeps State.edge _ (fun _ _ => by simp) _ _,
    foldl_keeps State.pins _ (fun _ _ => by simp) _ _,
    foldl_keeps State.time _ (fun _ _ => by simp) _ _,
    foldl_keeps State.gov _ (fun _ _ => by simp) _ _,
    foldl_keeps State.firing _ (fun _ _ => by simp) _ _,
    foldl_keeps State.plant _ (fun _ _ => by simp) _ _,
    foldl_keeps State.water _ (fun _ _ => by simp) _ _,
    foldl_keeps State.shed _ (fun _ _ => by simp) _ _,
    foldl_keeps State.saw _ (fun _ _ => by simp) _ _,
    foldl_keeps State.tables _ (fun _ _ => by simp) _ _,
    foldl_keeps State.draws _ (fun _ _ => by simp) _ _,
    foldl_keeps State.pending _ (fun _ _ => by simp) _ _⟩

@[simp] theorem feederSample_frame (k : Nat) (payload : List Byte) (s : State) :
    (feederSample k payload s).edge = s.edge ∧ (feederSample k payload s).pins = s.pins ∧
      (feederSample k payload s).time = s.time ∧ (feederSample k payload s).gov = s.gov ∧
      (feederSample k payload s).firing = s.firing ∧ (feederSample k payload s).plant = s.plant ∧
      (feederSample k payload s).water = s.water ∧ (feederSample k payload s).shed = s.shed ∧
      (feederSample k payload s).saw = s.saw ∧ (feederSample k payload s).tables = s.tables ∧
      (feederSample k payload s).draws = s.draws ∧ (feederSample k payload s).pending = s.pending := by
  unfold feederSample; and_intros <;> (repeat' split) <;> simp

@[simp] theorem feederSilenceExpires_frame (k : Nat) (s : State) :
    (feederSilenceExpires k s).edge = s.edge ∧ (feederSilenceExpires k s).pins = s.pins ∧
      (feederSilenceExpires k s).time = s.time ∧ (feederSilenceExpires k s).gov = s.gov ∧
      (feederSilenceExpires k s).firing = s.firing ∧ (feederSilenceExpires k s).plant = s.plant ∧
      (feederSilenceExpires k s).water = s.water ∧ (feederSilenceExpires k s).shed = s.shed ∧
      (feederSilenceExpires k s).saw = s.saw ∧ (feederSilenceExpires k s).tables = s.tables ∧
      (feederSilenceExpires k s).draws = s.draws ∧ (feederSilenceExpires k s).pending = s.pending := by
  unfold feederSilenceExpires; and_intros <;> (repeat' split) <;> simp

@[simp] theorem feederSilenceTick_frame (k : Nat) (s : State) :
    (feederSilenceTick k s).edge = s.edge ∧ (feederSilenceTick k s).pins = s.pins ∧
      (feederSilenceTick k s).time = s.time ∧ (feederSilenceTick k s).gov = s.gov ∧
      (feederSilenceTick k s).firing = s.firing ∧ (feederSilenceTick k s).plant = s.plant ∧
      (feederSilenceTick k s).water = s.water ∧ (feederSilenceTick k s).shed = s.shed ∧
      (feederSilenceTick k s).saw = s.saw ∧ (feederSilenceTick k s).tables = s.tables ∧
      (feederSilenceTick k s).draws = s.draws ∧ (feederSilenceTick k s).pending = s.pending := by
  unfold feederSilenceTick; dsimp only; and_intros <;> (repeat' split) <;> simp

@[simp] theorem journalAdmin_frame (i action : Nat) (s : State) :
    (journalAdmin i action s).edge = s.edge ∧ (journalAdmin i action s).pins = s.pins ∧
      (journalAdmin i action s).time = s.time ∧ (journalAdmin i action s).gov = s.gov ∧
      (journalAdmin i action s).firing = s.firing ∧ (journalAdmin i action s).plant = s.plant ∧
      (journalAdmin i action s).water = s.water ∧ (journalAdmin i action s).hamlet = s.hamlet ∧
      (journalAdmin i action s).shed = s.shed ∧ (journalAdmin i action s).saw = s.saw ∧
      (journalAdmin i action s).conds = s.conds ∧ (journalAdmin i action s).tables = s.tables ∧
      (journalAdmin i action s).loop = s.loop ∧ (journalAdmin i action s).draws = s.draws ∧
      (journalAdmin i action s).pending = s.pending := by
  unfold journalAdmin; and_intros <;> simp

@[simp] theorem adminDone_frame (i : Nat) (s : State) :
    (adminDone i s).state.edge = s.edge ∧ (adminDone i s).state.pins = s.pins ∧
      (adminDone i s).state.time = s.time ∧ (adminDone i s).state.gov = s.gov ∧
      (adminDone i s).state.firing = s.firing ∧ (adminDone i s).state.plant = s.plant ∧
      (adminDone i s).state.water = s.water ∧ (adminDone i s).state.hamlet = s.hamlet ∧
      (adminDone i s).state.shed = s.shed ∧ (adminDone i s).state.saw = s.saw ∧
      (adminDone i s).state.conds = s.conds ∧ (adminDone i s).state.journal = s.journal ∧
      (adminDone i s).state.tables = s.tables ∧ (adminDone i s).state.loop = s.loop ∧
      (adminDone i s).state.draws = s.draws ∧ (adminDone i s).state.pending = s.pending := by
  unfold adminDone; and_intros <;> simp

@[simp] theorem adminOff_frame (i : Nat) (s : State) :
    (adminOff i s).state.edge = s.edge ∧ (adminOff i s).state.pins = s.pins ∧
      (adminOff i s).state.time = s.time ∧ (adminOff i s).state.gov = s.gov ∧
      (adminOff i s).state.firing = s.firing ∧ (adminOff i s).state.plant = s.plant ∧
      (adminOff i s).state.water = s.water ∧ (adminOff i s).state.saw = s.saw ∧
      (adminOff i s).state.conds = s.conds ∧ (adminOff i s).state.tables = s.tables ∧
      (adminOff i s).state.draws = s.draws ∧ (adminOff i s).state.pending = s.pending := by
  unfold adminOff; dsimp only; and_intros <;> (repeat' split) <;> simp

@[simp] theorem adminOn_frame (i : Nat) (s : State) :
    (adminOn i s).state.edge = s.edge ∧ (adminOn i s).state.pins = s.pins ∧
      (adminOn i s).state.time = s.time ∧ (adminOn i s).state.gov = s.gov ∧
      (adminOn i s).state.firing = s.firing ∧ (adminOn i s).state.plant = s.plant ∧
      (adminOn i s).state.water = s.water ∧ (adminOn i s).state.saw = s.saw ∧
      (adminOn i s).state.tables = s.tables ∧ (adminOn i s).state.draws = s.draws ∧
      (adminOn i s).state.pending = s.pending := by
  unfold adminOn; and_intros <;> (repeat' split) <;> simp

@[simp] theorem clearStrikes_frame (i : Nat) (s : State) :
    (clearStrikes i s).edge = s.edge ∧ (clearStrikes i s).pins = s.pins ∧
      (clearStrikes i s).time = s.time ∧ (clearStrikes i s).gov = s.gov ∧
      (clearStrikes i s).firing = s.firing ∧ (clearStrikes i s).plant = s.plant ∧
      (clearStrikes i s).water = s.water ∧ (clearStrikes i s).shed = s.shed ∧
      (clearStrikes i s).saw = s.saw ∧ (clearStrikes i s).conds = s.conds ∧
      (clearStrikes i s).journal = s.journal ∧ (clearStrikes i s).tables = s.tables ∧
      (clearStrikes i s).loop = s.loop ∧ (clearStrikes i s).draws = s.draws ∧
      (clearStrikes i s).pending = s.pending := by
  unfold clearStrikes; and_intros <;> simp

@[simp] theorem adminRelease_frame (i : Nat) (s : State) :
    (adminRelease i s).state.edge = s.edge ∧ (adminRelease i s).state.pins = s.pins ∧
      (adminRelease i s).state.time = s.time ∧ (adminRelease i s).state.gov = s.gov ∧
      (adminRelease i s).state.firing = s.firing ∧ (adminRelease i s).state.plant = s.plant ∧
      (adminRelease i s).state.water = s.water ∧ (adminRelease i s).state.saw = s.saw ∧
      (adminRelease i s).state.tables = s.tables ∧ (adminRelease i s).state.draws = s.draws ∧
      (adminRelease i s).state.pending = s.pending := by
  unfold adminRelease; and_intros <;> (repeat' split) <;> simp

@[simp] theorem adminClear_frame (i : Nat) (s : State) :
    (adminClear i s).state.edge = s.edge ∧ (adminClear i s).state.pins = s.pins ∧
      (adminClear i s).state.time = s.time ∧ (adminClear i s).state.gov = s.gov ∧
      (adminClear i s).state.firing = s.firing ∧ (adminClear i s).state.plant = s.plant ∧
      (adminClear i s).state.water = s.water ∧ (adminClear i s).state.shed = s.shed ∧
      (adminClear i s).state.saw = s.saw ∧ (adminClear i s).state.conds = s.conds ∧
      (adminClear i s).state.tables = s.tables ∧ (adminClear i s).state.loop = s.loop ∧
      (adminClear i s).state.draws = s.draws ∧ (adminClear i s).state.pending = s.pending := by
  unfold adminClear; and_intros <;> simp

@[simp] theorem circuitAdmin_frame (i action : Nat) (s : State) :
    (circuitAdmin i action s).state.edge = s.edge ∧ (circuitAdmin i action s).state.pins = s.pins ∧
      (circuitAdmin i action s).state.time = s.time ∧ (circuitAdmin i action s).state.gov = s.gov ∧
      (circuitAdmin i action s).state.firing = s.firing ∧ (circuitAdmin i action s).state.plant = s.plant ∧
      (circuitAdmin i action s).state.water = s.water ∧ (circuitAdmin i action s).state.saw = s.saw ∧
      (circuitAdmin i action s).state.tables = s.tables ∧ (circuitAdmin i action s).state.draws = s.draws ∧
      (circuitAdmin i action s).state.pending = s.pending := by
  unfold circuitAdmin; and_intros <;> (repeat' split) <;> simp

/-! ## Time -/

@[simp] theorem evaluateWindows_frame (s : State) :
    (evaluateWindows s).edge = s.edge ∧ (evaluateWindows s).pins = s.pins ∧
      (evaluateWindows s).firing = s.firing ∧ (evaluateWindows s).plant = s.plant ∧
      (evaluateWindows s).water = s.water ∧ (evaluateWindows s).hamlet = s.hamlet ∧
      (evaluateWindows s).conds = s.conds ∧ (evaluateWindows s).tables = s.tables ∧
      (evaluateWindows s).draws = s.draws ∧ (evaluateWindows s).pending = s.pending := by
  unfold evaluateWindows; dsimp only; and_intros <;> (repeat' split) <;> simp

@[simp] theorem judgeTimeError_frame (s : State) :
    (judgeTimeError s).edge = s.edge ∧ (judgeTimeError s).pins = s.pins ∧
      (judgeTimeError s).time = s.time ∧ (judgeTimeError s).gov = s.gov ∧
      (judgeTimeError s).firing = s.firing ∧ (judgeTimeError s).plant = s.plant ∧
      (judgeTimeError s).water = s.water ∧ (judgeTimeError s).hamlet = s.hamlet ∧
      (judgeTimeError s).shed = s.shed ∧ (judgeTimeError s).saw = s.saw ∧
      (judgeTimeError s).tables = s.tables ∧ (judgeTimeError s).draws = s.draws ∧
      (judgeTimeError s).pending = s.pending := by
  unfold judgeTimeError; and_intros <;> (repeat' split) <;> simp

@[simp] theorem addTimeError_frame (x : Int) (s : State) :
    (addTimeError x s).edge = s.edge ∧ (addTimeError x s).pins = s.pins ∧
      (addTimeError x s).gov = s.gov ∧ (addTimeError x s).firing = s.firing ∧
      (addTimeError x s).plant = s.plant ∧ (addTimeError x s).water = s.water ∧
      (addTimeError x s).hamlet = s.hamlet ∧ (addTimeError x s).shed = s.shed ∧
      (addTimeError x s).saw = s.saw ∧ (addTimeError x s).tables = s.tables ∧
      (addTimeError x s).draws = s.draws ∧ (addTimeError x s).pending = s.pending := by
  unfold addTimeError; and_intros <;> simp

@[simp] theorem advanceClock_frame (s : State) :
    (advanceClock s).edge = s.edge ∧ (advanceClock s).pins = s.pins ∧
      (advanceClock s).firing = s.firing ∧ (advanceClock s).plant = s.plant ∧
      (advanceClock s).water = s.water ∧ (advanceClock s).hamlet = s.hamlet ∧
      (advanceClock s).conds = s.conds ∧ (advanceClock s).tables = s.tables ∧
      (advanceClock s).draws = s.draws ∧ (advanceClock s).pending = s.pending := by
  unfold advanceClock; dsimp only; and_intros <;> (repeat' split) <;> simp

@[simp] theorem chooseCorrection_frame (s : State) :
    (chooseCorrection s).edge = s.edge ∧ (chooseCorrection s).pins = s.pins ∧
      (chooseCorrection s).gov = s.gov ∧ (chooseCorrection s).firing = s.firing ∧
      (chooseCorrection s).plant = s.plant ∧ (chooseCorrection s).water = s.water ∧
      (chooseCorrection s).hamlet = s.hamlet ∧ (chooseCorrection s).shed = s.shed ∧
      (chooseCorrection s).saw = s.saw ∧ (chooseCorrection s).conds = s.conds ∧
      (chooseCorrection s).journal = s.journal ∧ (chooseCorrection s).tables = s.tables ∧
      (chooseCorrection s).loop = s.loop ∧ (chooseCorrection s).draws = s.draws ∧
      (chooseCorrection s).pending = s.pending := by
  unfold chooseCorrection; and_intros <;> (repeat' split) <;> simp

@[simp] theorem timeTick_frame (s : State) :
    (timeTick s).edge = s.edge ∧ (timeTick s).pins = s.pins ∧
      (timeTick s).firing = s.firing ∧ (timeTick s).plant = s.plant ∧
      (timeTick s).water = s.water ∧ (timeTick s).hamlet = s.hamlet ∧
      (timeTick s).tables = s.tables ∧ (timeTick s).draws = s.draws ∧
      (timeTick s).pending = s.pending := by
  unfold timeTick; and_intros <;> simp

@[simp] theorem feedersTick_frame (s : State) :
    (feedersTick s).edge = s.edge ∧ (feedersTick s).pins = s.pins ∧
      (feedersTick s).time = s.time ∧ (feedersTick s).gov = s.gov ∧
      (feedersTick s).firing = s.firing ∧ (feedersTick s).plant = s.plant ∧
      (feedersTick s).water = s.water ∧ (feedersTick s).shed = s.shed ∧
      (feedersTick s).saw = s.saw ∧ (feedersTick s).tables = s.tables ∧
      (feedersTick s).draws = s.draws ∧ (feedersTick s).pending = s.pending := ⟨
    foldl_keeps State.edge _ (fun _ _ => by simp) _ _,
    foldl_keeps State.pins _ (fun _ _ => by simp) _ _,
    foldl_keeps State.time _ (fun _ _ => by simp) _ _,
    foldl_keeps State.gov _ (fun _ _ => by simp) _ _,
    foldl_keeps State.firing _ (fun _ _ => by simp) _ _,
    foldl_keeps State.plant _ (fun _ _ => by simp) _ _,
    foldl_keeps State.water _ (fun _ _ => by simp) _ _,
    foldl_keeps State.shed _ (fun _ _ => by simp) _ _,
    foldl_keeps State.saw _ (fun _ _ => by simp) _ _,
    foldl_keeps State.tables _ (fun _ _ => by simp) _ _,
    foldl_keeps State.draws _ (fun _ _ => by simp) _ _,
    foldl_keeps State.pending _ (fun _ _ => by simp) _ _⟩

@[simp] theorem reclosesTick_frame (s : State) :
    (reclosesTick s).edge = s.edge ∧ (reclosesTick s).pins = s.pins ∧
      (reclosesTick s).time = s.time ∧ (reclosesTick s).gov = s.gov ∧
      (reclosesTick s).firing = s.firing ∧ (reclosesTick s).plant = s.plant ∧
      (reclosesTick s).water = s.water ∧ (reclosesTick s).saw = s.saw ∧
      (reclosesTick s).tables = s.tables ∧ (reclosesTick s).draws = s.draws ∧
      (reclosesTick s).pending = s.pending := ⟨
    foldl_keeps State.edge _ (fun _ _ => by simp) _ _,
    foldl_keeps State.pins _ (fun _ _ => by simp) _ _,
    foldl_keeps State.time _ (fun _ _ => by simp) _ _,
    foldl_keeps State.gov _ (fun _ _ => by simp) _ _,
    foldl_keeps State.firing _ (fun _ _ => by simp) _ _,
    foldl_keeps State.plant _ (fun _ _ => by simp) _ _,
    foldl_keeps State.water _ (fun _ _ => by simp) _ _,
    foldl_keeps State.saw _ (fun _ _ => by simp) _ _,
    foldl_keeps State.tables _ (fun _ _ => by simp) _ _,
    foldl_keeps State.draws _ (fun _ _ => by simp) _ _,
    foldl_keeps State.pending _ (fun _ _ => by simp) _ _⟩

@[simp] theorem millSecond_frame (s : State) :
    (millSecond s).edge = s.edge ∧ (millSecond s).pins = s.pins ∧
      (millSecond s).tables = s.tables ∧ (millSecond s).draws = s.draws ∧
      (millSecond s).pending = s.pending := by
  unfold millSecond; and_intros <;> simp

@[simp] theorem setClock_frame (day : Word16) (sec : Nat) (s : State) :
    (setClock day sec s).state.edge = s.edge ∧ (setClock day sec s).state.pins = s.pins ∧
      (setClock day sec s).state.firing = s.firing ∧ (setClock day sec s).state.plant = s.plant ∧
      (setClock day sec s).state.water = s.water ∧ (setClock day sec s).state.hamlet = s.hamlet ∧
      (setClock day sec s).state.conds = s.conds ∧ (setClock day sec s).state.tables = s.tables ∧
      (setClock day sec s).state.draws = s.draws ∧ (setClock day sec s).state.pending = s.pending := by
  unfold setClock; dsimp only; and_intros <;> (repeat' split) <;> simp

@[simp] theorem setTimeError_frame (te : Int) (s : State) :
    (setTimeError te s).state.edge = s.edge ∧ (setTimeError te s).state.pins = s.pins ∧
      (setTimeError te s).state.gov = s.gov ∧ (setTimeError te s).state.firing = s.firing ∧
      (setTimeError te s).state.plant = s.plant ∧ (setTimeError te s).state.water = s.water ∧
      (setTimeError te s).state.hamlet = s.hamlet ∧ (setTimeError te s).state.shed = s.shed ∧
      (setTimeError te s).state.saw = s.saw ∧ (setTimeError te s).state.tables = s.tables ∧
      (setTimeError te s).state.draws = s.draws ∧ (setTimeError te s).state.pending = s.pending := by
  unfold setTimeError; and_intros <;> (repeat' split) <;> simp

/-! ## Crossing -/

@[simp] theorem observersInOrder_frame (shedFirst : Bool) (f : Nat) (e : Int) (p : Nat) (s : State) :
    (observersInOrder shedFirst f e p s).edge = s.edge ∧
      (observersInOrder shedFirst f e p s).pins = s.pins ∧
      (observersInOrder shedFirst f e p s).time = s.time ∧
      (observersInOrder shedFirst f e p s).firing = s.firing ∧
      (observersInOrder shedFirst f e p s).plant = s.plant ∧
      (observersInOrder shedFirst f e p s).water = s.water ∧
      (observersInOrder shedFirst f e p s).tables = s.tables ∧
      (observersInOrder shedFirst f e p s).draws = s.draws ∧
      (observersInOrder shedFirst f e p s).pending = s.pending := by
  unfold observersInOrder; and_intros <;> (repeat' split) <;> simp

@[simp] theorem demandUpdates_frame (shedFirst : Bool) (f p : Nat) (t0 : Count) (lag : Nat) (s : State) :
    (demandUpdates shedFirst f p t0 lag s).edge = s.edge ∧
      (demandUpdates shedFirst f p t0 lag s).pins = s.pins ∧
      (demandUpdates shedFirst f p t0 lag s).time = s.time ∧
      (demandUpdates shedFirst f p t0 lag s).plant = s.plant ∧
      (demandUpdates shedFirst f p t0 lag s).tables = s.tables ∧
      (demandUpdates shedFirst f p t0 lag s).draws = s.draws ∧
      (demandUpdates shedFirst f p t0 lag s).pending = s.pending := by
  unfold demandUpdates; and_intros <;> simp

@[simp] theorem takersInOrder_frame (plantFirst shedFirst : Bool) (f p : Nat) (t0 : Count) (lag : Nat) (s : State) :
    (takersInOrder plantFirst shedFirst f p t0 lag s).edge = s.edge ∧
      (takersInOrder plantFirst shedFirst f p t0 lag s).pins = s.pins ∧
      (takersInOrder plantFirst shedFirst f p t0 lag s).tables = s.tables ∧
      (takersInOrder plantFirst shedFirst f p t0 lag s).draws = s.draws ∧
      (takersInOrder plantFirst shedFirst f p t0 lag s).pending = s.pending := by
  unfold takersInOrder; and_intros <;> (repeat' split) <;> simp

@[simp] theorem acceptLevel_frame (input : EdgeInput) (level : Bool) (s : State) :
    (acceptLevel input level s).pins = s.pins ∧ (acceptLevel input level s).time = s.time ∧
      (acceptLevel input level s).gov = s.gov ∧ (acceptLevel input level s).firing = s.firing ∧
      (acceptLevel input level s).plant = s.plant ∧ (acceptLevel input level s).water = s.water ∧
      (acceptLevel input level s).hamlet = s.hamlet ∧ (acceptLevel input level s).shed = s.shed ∧
      (acceptLevel input level s).saw = s.saw ∧ (acceptLevel input level s).conds = s.conds ∧
      (acceptLevel input level s).journal = s.journal ∧ (acceptLevel input level s).tables = s.tables ∧
      (acceptLevel input level s).loop = s.loop ∧ (acceptLevel input level s).draws = s.draws ∧
      (acceptLevel input level s).pending = s.pending := by
  unfold acceptLevel; and_intros <;> (repeat' split) <;> simp

@[simp] theorem raiseShaft_frame (s : State) :
    (raiseShaft s).pins = s.pins ∧ (raiseShaft s).time = s.time ∧
      (raiseShaft s).gov = s.gov ∧ (raiseShaft s).firing = s.firing ∧
      (raiseShaft s).plant = s.plant ∧ (raiseShaft s).water = s.water ∧
      (raiseShaft s).hamlet = s.hamlet ∧ (raiseShaft s).shed = s.shed ∧
      (raiseShaft s).saw = s.saw ∧ (raiseShaft s).tables = s.tables ∧
      (raiseShaft s).draws = s.draws ∧ (raiseShaft s).pending = s.pending := by
  unfold raiseShaft; and_intros <;> simp

@[simp] theorem signalEntersPresent_frame (s : State) :
    (signalEntersPresent s).pins = s.pins ∧ (signalEntersPresent s).time = s.time ∧
      (signalEntersPresent s).gov = s.gov ∧ (signalEntersPresent s).firing = s.firing ∧
      (signalEntersPresent s).water = s.water ∧ (signalEntersPresent s).hamlet = s.hamlet ∧
      (signalEntersPresent s).shed = s.shed ∧ (signalEntersPresent s).saw = s.saw ∧
      (signalEntersPresent s).tables = s.tables ∧ (signalEntersPresent s).draws = s.draws ∧
      (signalEntersPresent s).pending = s.pending := by
  unfold signalEntersPresent; dsimp only; and_intros <;> (repeat' split) <;> simp

@[simp] theorem storePeriod_frame (t : Count) (p lag : Nat) (s : State) :
    (storePeriod t p lag s).pins = s.pins ∧ (storePeriod t p lag s).time = s.time ∧
      (storePeriod t p lag s).gov = s.gov ∧ (storePeriod t p lag s).firing = s.firing ∧
      (storePeriod t p lag s).plant = s.plant ∧ (storePeriod t p lag s).water = s.water ∧
      (storePeriod t p lag s).hamlet = s.hamlet ∧ (storePeriod t p lag s).shed = s.shed ∧
      (storePeriod t p lag s).saw = s.saw ∧ (storePeriod t p lag s).conds = s.conds ∧
      (storePeriod t p lag s).journal = s.journal ∧ (storePeriod t p lag s).tables = s.tables ∧
      (storePeriod t p lag s).loop = s.loop ∧ (storePeriod t p lag s).draws = s.draws ∧
      (storePeriod t p lag s).pending = s.pending := by
  unfold storePeriod; and_intros <;> simp

@[simp] theorem recoverSignal_frame (s : State) :
    (recoverSignal s).pins = s.pins ∧ (recoverSignal s).time = s.time ∧
      (recoverSignal s).gov = s.gov ∧ (recoverSignal s).firing = s.firing ∧
      (recoverSignal s).water = s.water ∧ (recoverSignal s).hamlet = s.hamlet ∧
      (recoverSignal s).shed = s.shed ∧ (recoverSignal s).saw = s.saw ∧
      (recoverSignal s).tables = s.tables ∧ (recoverSignal s).draws = s.draws ∧
      (recoverSignal s).pending = s.pending := by
  unfold recoverSignal; and_intros <;> (repeat' split) <;> simp

@[simp] theorem validPeriodInOrder_frame (plantFirst shedFirst : Bool) (t : Count) (p lag : Nat) (s : State) :
    (validPeriodInOrder plantFirst shedFirst t p lag s).pins = s.pins ∧
      (validPeriodInOrder plantFirst shedFirst t p lag s).tables = s.tables ∧
      (validPeriodInOrder plantFirst shedFirst t p lag s).draws = s.draws ∧
      (validPeriodInOrder plantFirst shedFirst t p lag s).pending = s.pending := by
  unfold validPeriodInOrder; and_intros <;> simp

@[simp] theorem validPeriod_frame (t : Count) (p lag : Nat) (s : State) :
    (validPeriod t p lag s).pins = s.pins ∧ (validPeriod t p lag s).tables = s.tables ∧
      (validPeriod t p lag s).pending = s.pending := by
  unfold validPeriod; and_intros <;> simp

@[simp] theorem gapEdge_frame (t : Count) (lag : Nat) (s : State) :
    (gapEdge t lag s).pins = s.pins ∧ (gapEdge t lag s).time = s.time ∧
      (gapEdge t lag s).gov = s.gov ∧ (gapEdge t lag s).water = s.water ∧
      (gapEdge t lag s).hamlet = s.hamlet ∧ (gapEdge t lag s).shed = s.shed ∧
      (gapEdge t lag s).saw = s.saw ∧ (gapEdge t lag s).conds = s.conds ∧
      (gapEdge t lag s).journal = s.journal ∧ (gapEdge t lag s).tables = s.tables ∧
      (gapEdge t lag s).loop = s.loop ∧ (gapEdge t lag s).draws = s.draws ∧
      (gapEdge t lag s).pending = s.pending := by
  unfold gapEdge; and_intros <;> simp

@[simp] theorem crossingEdge_frame (t : Count) (lag : Nat) (s : State) :
    (crossingEdge t lag s).pins = s.pins ∧ (crossingEdge t lag s).tables = s.tables ∧
      (crossingEdge t lag s).pending = s.pending := by
  unfold crossingEdge; and_intros <;> (repeat' split) <;> simp

@[simp] theorem signalEntersLost_frame (s : State) :
    (signalEntersLost s).pins = s.pins ∧ (signalEntersLost s).tables = s.tables ∧
      (signalEntersLost s).draws = s.draws ∧ (signalEntersLost s).pending = s.pending := by
  unfold signalEntersLost; and_intros <;> simp

@[simp] theorem lossTimerExpires_frame (s : State) :
    (lossTimerExpires s).pins = s.pins ∧ (lossTimerExpires s).tables = s.tables ∧
      (lossTimerExpires s).draws = s.draws ∧ (lossTimerExpires s).pending = s.pending := by
  unfold lossTimerExpires; dsimp only; and_intros <;> (repeat' split) <;> simp

@[simp] theorem endShaftCause_frame (s : State) :
    (endShaftCause s).pins = s.pins ∧ (endShaftCause s).time = s.time ∧
      (endShaftCause s).gov = s.gov ∧ (endShaftCause s).firing = s.firing ∧
      (endShaftCause s).plant = s.plant ∧ (endShaftCause s).water = s.water ∧
      (endShaftCause s).hamlet = s.hamlet ∧ (endShaftCause s).shed = s.shed ∧
      (endShaftCause s).saw = s.saw ∧ (endShaftCause s).journal = s.journal ∧
      (endShaftCause s).tables = s.tables ∧ (endShaftCause s).loop = s.loop ∧
      (endShaftCause s).draws = s.draws ∧ (endShaftCause s).pending = s.pending := by
  unfold endShaftCause; and_intros <;> (repeat' split) <;> simp

@[simp] theorem recordTooth_frame (t : Count) (s : State) :
    (recordTooth t s).pins = s.pins ∧ (recordTooth t s).time = s.time ∧
      (recordTooth t s).gov = s.gov ∧ (recordTooth t s).firing = s.firing ∧
      (recordTooth t s).plant = s.plant ∧ (recordTooth t s).water = s.water ∧
      (recordTooth t s).hamlet = s.hamlet ∧ (recordTooth t s).shed = s.shed ∧
      (recordTooth t s).saw = s.saw ∧ (recordTooth t s).conds = s.conds ∧
      (recordTooth t s).journal = s.journal ∧ (recordTooth t s).tables = s.tables ∧
      (recordTooth t s).loop = s.loop ∧ (recordTooth t s).draws = s.draws ∧
      (recordTooth t s).pending = s.pending := by
  unfold recordTooth; and_intros <;> simp

@[simp] theorem toothPeriod_frame (p : Nat) (s : State) :
    (toothPeriod p s).pins = s.pins ∧ (toothPeriod p s).tables = s.tables ∧
      (toothPeriod p s).draws = s.draws ∧ (toothPeriod p s).pending = s.pending := by
  unfold toothPeriod; dsimp only; and_intros <;> (repeat' split) <;> simp

@[simp] theorem toothEdge_frame (t : Count) (s : State) :
    (toothEdge t s).pins = s.pins ∧ (toothEdge t s).tables = s.tables ∧
      (toothEdge t s).draws = s.draws ∧ (toothEdge t s).pending = s.pending := by
  unfold toothEdge; dsimp only; and_intros <;> (repeat' split) <;> simp

@[simp] theorem toothSilenceExpires_frame (s : State) :
    (toothSilenceExpires s).pins = s.pins ∧ (toothSilenceExpires s).tables = s.tables ∧
      (toothSilenceExpires s).draws = s.draws ∧ (toothSilenceExpires s).pending = s.pending := by
  unfold toothSilenceExpires; dsimp only; and_intros <;> (repeat' split) <;> simp

@[simp] theorem sampleXing_frame (s : State) :
    (sampleXing s).pins = s.pins ∧ (sampleXing s).tables = s.tables ∧
      (sampleXing s).pending = s.pending := by
  unfold sampleXing; dsimp only; and_intros <;> (repeat' split) <;> simp

@[simp] theorem sampleTooth_frame (s : State) :
    (sampleTooth s).pins = s.pins ∧ (sampleTooth s).tables = s.tables ∧
      (sampleTooth s).draws = s.draws ∧ (sampleTooth s).pending = s.pending := by
  unfold sampleTooth; dsimp only; and_intros <;> (repeat' split) <;> simp

/-! ## Tables -/

@[simp] theorem readEntries_frame (id first count : Nat) (s : State) :
    (readEntries id first count s).state.edge = s.edge ∧
      (readEntries id first count s).state.pins = s.pins ∧
      (readEntries id first count s).state.time = s.time ∧
      (readEntries id first count s).state.gov = s.gov ∧
      (readEntries id first count s).state.firing = s.firing ∧
      (readEntries id first count s).state.plant = s.plant ∧
      (readEntries id first count s).state.water = s.water ∧
      (readEntries id first count s).state.hamlet = s.hamlet ∧
      (readEntries id first count s).state.shed = s.shed ∧
      (readEntries id first count s).state.saw = s.saw ∧
      (readEntries id first count s).state.conds = s.conds ∧
      (readEntries id first count s).state.journal = s.journal ∧
      (readEntries id first count s).state.tables = s.tables ∧
      (readEntries id first count s).state.loop = s.loop ∧
      (readEntries id first count s).state.draws = s.draws ∧
      (readEntries id first count s).state.pending = s.pending := by
  unfold readEntries; and_intros <;> (repeat' split) <;> simp

@[simp] theorem storeCircuits_frame : ∀ (xs : List CircuitFields) (i : Nat) (s : State),
    (storeCircuits i xs s).edge = s.edge ∧ (storeCircuits i xs s).pins = s.pins ∧
      (storeCircuits i xs s).time = s.time ∧ (storeCircuits i xs s).gov = s.gov ∧
      (storeCircuits i xs s).firing = s.firing ∧ (storeCircuits i xs s).plant = s.plant ∧
      (storeCircuits i xs s).water = s.water ∧ (storeCircuits i xs s).shed = s.shed ∧
      (storeCircuits i xs s).saw = s.saw ∧ (storeCircuits i xs s).conds = s.conds ∧
      (storeCircuits i xs s).journal = s.journal ∧ (storeCircuits i xs s).tables = s.tables ∧
      (storeCircuits i xs s).loop = s.loop ∧ (storeCircuits i xs s).draws = s.draws ∧
      (storeCircuits i xs s).pending = s.pending
  | [], _, _ => by simp [storeCircuits]
  | x :: xs, i, s => by simp [storeCircuits, storeCircuits_frame xs]

@[simp] theorem storeWrite_frame (id first count : Nat) (bytes : List Byte) (s : State) :
    (storeWrite id first count bytes s).edge = s.edge ∧
      (storeWrite id first count bytes s).pins = s.pins ∧
      (storeWrite id first count bytes s).time = s.time ∧
      (storeWrite id first count bytes s).gov = s.gov ∧
      (storeWrite id first count bytes s).firing = s.firing ∧
      (storeWrite id first count bytes s).plant = s.plant ∧
      (storeWrite id first count bytes s).water = s.water ∧
      (storeWrite id first count bytes s).shed = s.shed ∧
      (storeWrite id first count bytes s).saw = s.saw ∧
      (storeWrite id first count bytes s).conds = s.conds ∧
      (storeWrite id first count bytes s).journal = s.journal ∧
      (storeWrite id first count bytes s).loop = s.loop ∧
      (storeWrite id first count bytes s).draws = s.draws ∧
      (storeWrite id first count bytes s).pending = s.pending := by
  unfold storeWrite; and_intros <;> (repeat' split) <;> simp

@[simp] theorem waterRemapped_frame (role : Nat) (s : State) :
    (waterRemapped role s).edge = s.edge ∧ (waterRemapped role s).pins = s.pins ∧
      (waterRemapped role s).time = s.time ∧ (waterRemapped role s).gov = s.gov ∧
      (waterRemapped role s).firing = s.firing ∧ (waterRemapped role s).plant = s.plant ∧
      (waterRemapped role s).hamlet = s.hamlet ∧ (waterRemapped role s).shed = s.shed ∧
      (waterRemapped role s).saw = s.saw ∧ (waterRemapped role s).journal = s.journal ∧
      (waterRemapped role s).tables = s.tables ∧ (waterRemapped role s).loop = s.loop ∧
      (waterRemapped role s).draws = s.draws ∧ (waterRemapped role s).pending = s.pending := by
  unfold waterRemapped; and_intros <;> (repeat' split) <;> simp

@[simp] theorem feederRemapped_frame (k : Nat) (s : State) :
    (feederRemapped k s).edge = s.edge ∧ (feederRemapped k s).pins = s.pins ∧
      (feederRemapped k s).time = s.time ∧ (feederRemapped k s).gov = s.gov ∧
      (feederRemapped k s).firing = s.firing ∧ (feederRemapped k s).plant = s.plant ∧
      (feederRemapped k s).water = s.water ∧ (feederRemapped k s).shed = s.shed ∧
      (feederRemapped k s).saw = s.saw ∧ (feederRemapped k s).journal = s.journal ∧
      (feederRemapped k s).tables = s.tables ∧ (feederRemapped k s).draws = s.draws ∧
      (feederRemapped k s).pending = s.pending := by
  unfold feederRemapped; and_intros <;> simp

@[simp] theorem sawRemapped_frame (s : State) :
    (sawRemapped s).edge = s.edge ∧ (sawRemapped s).pins = s.pins ∧
      (sawRemapped s).time = s.time ∧ (sawRemapped s).gov = s.gov ∧
      (sawRemapped s).firing = s.firing ∧ (sawRemapped s).plant = s.plant ∧
      (sawRemapped s).water = s.water ∧ (sawRemapped s).hamlet = s.hamlet ∧
      (sawRemapped s).shed = s.shed ∧ (sawRemapped s).journal = s.journal ∧
      (sawRemapped s).tables = s.tables ∧ (sawRemapped s).draws = s.draws ∧
      (sawRemapped s).pending = s.pending := by
  unfold sawRemapped; and_intros <;> simp

@[simp] theorem emptyUnmapped_frame (role : Nat) (s : State) :
    (emptyUnmapped role s).edge = s.edge ∧ (emptyUnmapped role s).pins = s.pins ∧
      (emptyUnmapped role s).time = s.time ∧ (emptyUnmapped role s).gov = s.gov ∧
      (emptyUnmapped role s).firing = s.firing ∧ (emptyUnmapped role s).plant = s.plant ∧
      (emptyUnmapped role s).water = s.water ∧ (emptyUnmapped role s).hamlet = s.hamlet ∧
      (emptyUnmapped role s).shed = s.shed ∧ (emptyUnmapped role s).saw = s.saw ∧
      (emptyUnmapped role s).conds = s.conds ∧ (emptyUnmapped role s).journal = s.journal ∧
      (emptyUnmapped role s).tables = s.tables ∧ (emptyUnmapped role s).draws = s.draws ∧
      (emptyUnmapped role s).pending = s.pending := by
  unfold emptyUnmapped; and_intros <;> (repeat' split) <;> simp

@[simp] theorem roleRemapped_frame (role : Nat) (s : State) :
    (roleRemapped role s).edge = s.edge ∧ (roleRemapped role s).pins = s.pins ∧
      (roleRemapped role s).time = s.time ∧ (roleRemapped role s).gov = s.gov ∧
      (roleRemapped role s).firing = s.firing ∧ (roleRemapped role s).plant = s.plant ∧
      (roleRemapped role s).shed = s.shed ∧ (roleRemapped role s).journal = s.journal ∧
      (roleRemapped role s).tables = s.tables ∧ (roleRemapped role s).draws = s.draws ∧
      (roleRemapped role s).pending = s.pending := by
  unfold roleRemapped; dsimp only; and_intros <;> (repeat' split) <;> simp

@[simp] theorem rolesRemapped_frame (old : List Nat) (s : State) :
    (rolesRemapped old s).edge = s.edge ∧ (rolesRemapped old s).pins = s.pins ∧
      (rolesRemapped old s).time = s.time ∧ (rolesRemapped old s).gov = s.gov ∧
      (rolesRemapped old s).firing = s.firing ∧ (rolesRemapped old s).plant = s.plant ∧
      (rolesRemapped old s).shed = s.shed ∧ (rolesRemapped old s).journal = s.journal ∧
      (rolesRemapped old s).tables = s.tables ∧ (rolesRemapped old s).draws = s.draws ∧
      (rolesRemapped old s).pending = s.pending := ⟨
    foldl_keeps State.edge _ (fun _ _ => by (repeat' split) <;> simp) _ _,
    foldl_keeps State.pins _ (fun _ _ => by (repeat' split) <;> simp) _ _,
    foldl_keeps State.time _ (fun _ _ => by (repeat' split) <;> simp) _ _,
    foldl_keeps State.gov _ (fun _ _ => by (repeat' split) <;> simp) _ _,
    foldl_keeps State.firing _ (fun _ _ => by (repeat' split) <;> simp) _ _,
    foldl_keeps State.plant _ (fun _ _ => by (repeat' split) <;> simp) _ _,
    foldl_keeps State.shed _ (fun _ _ => by (repeat' split) <;> simp) _ _,
    foldl_keeps State.journal _ (fun _ _ => by (repeat' split) <;> simp) _ _,
    foldl_keeps State.tables _ (fun _ _ => by (repeat' split) <;> simp) _ _,
    foldl_keeps State.draws _ (fun _ _ => by (repeat' split) <;> simp) _ _,
    foldl_keeps State.pending _ (fun _ _ => by (repeat' split) <;> simp) _ _⟩

@[simp] theorem gateSettingsWritten_frame (first count : Nat) (s : State) :
    (gateSettingsWritten first count s).edge = s.edge ∧
      (gateSettingsWritten first count s).pins = s.pins ∧
      (gateSettingsWritten first count s).time = s.time ∧
      (gateSettingsWritten first count s).gov = s.gov ∧
      (gateSettingsWritten first count s).firing = s.firing ∧
      (gateSettingsWritten first count s).plant = s.plant ∧
      (gateSettingsWritten first count s).hamlet = s.hamlet ∧
      (gateSettingsWritten first count s).shed = s.shed ∧
      (gateSettingsWritten first count s).saw = s.saw ∧
      (gateSettingsWritten first count s).conds = s.conds ∧
      (gateSettingsWritten first count s).journal = s.journal ∧
      (gateSettingsWritten first count s).tables = s.tables ∧
      (gateSettingsWritten first count s).draws = s.draws ∧
      (gateSettingsWritten first count s).pending = s.pending := by
  unfold gateSettingsWritten; and_intros <;> (repeat' split) <;> simp

@[simp] theorem recomputeFlow_frame (s : State) :
    (recomputeFlow s).edge = s.edge ∧ (recomputeFlow s).pins = s.pins ∧
      (recomputeFlow s).time = s.time ∧ (recomputeFlow s).gov = s.gov ∧
      (recomputeFlow s).firing = s.firing ∧ (recomputeFlow s).plant = s.plant ∧
      (recomputeFlow s).hamlet = s.hamlet ∧ (recomputeFlow s).shed = s.shed ∧
      (recomputeFlow s).saw = s.saw ∧ (recomputeFlow s).conds = s.conds ∧
      (recomputeFlow s).journal = s.journal ∧ (recomputeFlow s).tables = s.tables ∧
      (recomputeFlow s).loop = s.loop ∧ (recomputeFlow s).draws = s.draws ∧
      (recomputeFlow s).pending = s.pending := by
  unfold recomputeFlow; and_intros <;> simp

@[simp] theorem presentWritten_frame (i : Nat) (before : Bool) (s : State) :
    (presentWritten i before s).edge = s.edge ∧ (presentWritten i before s).pins = s.pins ∧
      (presentWritten i before s).time = s.time ∧ (presentWritten i before s).gov = s.gov ∧
      (presentWritten i before s).firing = s.firing ∧ (presentWritten i before s).plant = s.plant ∧
      (presentWritten i before s).water = s.water ∧ (presentWritten i before s).saw = s.saw ∧
      (presentWritten i before s).tables = s.tables ∧ (presentWritten i before s).draws = s.draws ∧
      (presentWritten i before s).pending = s.pending := by
  unfold presentWritten; and_intros <;> (repeat' split) <;> simp

@[simp] theorem circuitsWritten_frame (before : List Circuit) (first count : Nat) (s : State) :
    (circuitsWritten before first count s).edge = s.edge ∧
      (circuitsWritten before first count s).pins = s.pins ∧
      (circuitsWritten before first count s).time = s.time ∧
      (circuitsWritten before first count s).gov = s.gov ∧
      (circuitsWritten before first count s).firing = s.firing ∧
      (circuitsWritten before first count s).plant = s.plant ∧
      (circuitsWritten before first count s).water = s.water ∧
      (circuitsWritten before first count s).saw = s.saw ∧
      (circuitsWritten before first count s).tables = s.tables ∧
      (circuitsWritten before first count s).draws = s.draws ∧
      (circuitsWritten before first count s).pending = s.pending := ⟨
    foldl_keeps State.edge _ (fun _ _ => by simp) _ _,
    foldl_keeps State.pins _ (fun _ _ => by simp) _ _,
    foldl_keeps State.time _ (fun _ _ => by simp) _ _,
    foldl_keeps State.gov _ (fun _ _ => by simp) _ _,
    foldl_keeps State.firing _ (fun _ _ => by simp) _ _,
    foldl_keeps State.plant _ (fun _ _ => by simp) _ _,
    foldl_keeps State.water _ (fun _ _ => by simp) _ _,
    foldl_keeps State.saw _ (fun _ _ => by simp) _ _,
    foldl_keeps State.tables _ (fun _ _ => by simp) _ _,
    foldl_keeps State.draws _ (fun _ _ => by simp) _ _,
    foldl_keeps State.pending _ (fun _ _ => by simp) _ _⟩

@[simp] theorem afterWrite_frame (id first count : Nat) (old s : State) :
    (afterWrite id first count old s).edge = s.edge ∧ (afterWrite id first count old s).pins = s.pins ∧
      (afterWrite id first count old s).firing = s.firing ∧ (afterWrite id first count old s).plant = s.plant ∧
      (afterWrite id first count old s).tables = s.tables ∧ (afterWrite id first count old s).draws = s.draws ∧
      (afterWrite id first count old s).pending = s.pending := by
  unfold afterWrite; and_intros <;> (repeat' split) <;> simp

@[simp] theorem takeWrite_frame (id first count : Nat) (bytes : List Byte) (s : State) :
    (takeWrite id first count bytes s).state.edge = s.edge ∧
      (takeWrite id first count bytes s).state.pins = s.pins ∧
      (takeWrite id first count bytes s).state.firing = s.firing ∧
      (takeWrite id first count bytes s).state.plant = s.plant ∧
      (takeWrite id first count bytes s).state.draws = s.draws ∧
      (takeWrite id first count bytes s).state.pending = s.pending := by
  unfold takeWrite; and_intros <;> simp

@[simp] theorem writeEntries_frame (id first count : Nat) (values : List Byte) (s : State) :
    (writeEntries id first count values s).state.edge = s.edge ∧
      (writeEntries id first count values s).state.pins = s.pins ∧
      (writeEntries id first count values s).state.firing = s.firing ∧
      (writeEntries id first count values s).state.plant = s.plant ∧
      (writeEntries id first count values s).state.draws = s.draws ∧
      (writeEntries id first count values s).state.pending = s.pending := by
  unfold writeEntries; dsimp only; and_intros <;> (repeat' split) <;> simp

/-! ## Status -/

@[simp] theorem readStatus_frame (section_ : Nat) (s : State) :
    (readStatus section_ s).state.edge = s.edge ∧ (readStatus section_ s).state.pins = s.pins ∧
      (readStatus section_ s).state.time = s.time ∧ (readStatus section_ s).state.gov = s.gov ∧
      (readStatus section_ s).state.firing = s.firing ∧ (readStatus section_ s).state.plant = s.plant ∧
      (readStatus section_ s).state.water = s.water ∧ (readStatus section_ s).state.hamlet = s.hamlet ∧
      (readStatus section_ s).state.shed = s.shed ∧ (readStatus section_ s).state.saw = s.saw ∧
      (readStatus section_ s).state.conds = s.conds ∧ (readStatus section_ s).state.journal = s.journal ∧
      (readStatus section_ s).state.tables = s.tables ∧ (readStatus section_ s).state.loop = s.loop ∧
      (readStatus section_ s).state.draws = s.draws ∧ (readStatus section_ s).state.pending = s.pending := by
  unfold readStatus; and_intros <;> (repeat' split) <;> simp

@[simp] theorem readConditions_frame (s : State) :
    (readConditions s).state.edge = s.edge ∧ (readConditions s).state.pins = s.pins ∧
      (readConditions s).state.time = s.time ∧ (readConditions s).state.gov = s.gov ∧
      (readConditions s).state.firing = s.firing ∧ (readConditions s).state.plant = s.plant ∧
      (readConditions s).state.water = s.water ∧ (readConditions s).state.hamlet = s.hamlet ∧
      (readConditions s).state.shed = s.shed ∧ (readConditions s).state.saw = s.saw ∧
      (readConditions s).state.conds = s.conds ∧ (readConditions s).state.journal = s.journal ∧
      (readConditions s).state.tables = s.tables ∧ (readConditions s).state.loop = s.loop ∧
      (readConditions s).state.draws = s.draws ∧ (readConditions s).state.pending = s.pending := by
  unfold readConditions; and_intros <;> simp

/-! ## Requests -/

@[simp] theorem acknowledge_frame (set : Word32) (s : State) :
    (acknowledge set s).state.edge = s.edge ∧ (acknowledge set s).state.pins = s.pins ∧
      (acknowledge set s).state.time = s.time ∧ (acknowledge set s).state.gov = s.gov ∧
      (acknowledge set s).state.firing = s.firing ∧ (acknowledge set s).state.plant = s.plant ∧
      (acknowledge set s).state.water = s.water ∧ (acknowledge set s).state.hamlet = s.hamlet ∧
      (acknowledge set s).state.shed = s.shed ∧ (acknowledge set s).state.saw = s.saw ∧
      (acknowledge set s).state.journal = s.journal ∧ (acknowledge set s).state.tables = s.tables ∧
      (acknowledge set s).state.loop = s.loop ∧ (acknowledge set s).state.draws = s.draws ∧
      (acknowledge set s).state.pending = s.pending := by
  unfold acknowledge; dsimp only; and_intros <;> (repeat' split) <;> simp

@[simp] theorem setNotices_frame (set : Word32) (s : State) :
    (setNotices set s).state.edge = s.edge ∧ (setNotices set s).state.pins = s.pins ∧
      (setNotices set s).state.time = s.time ∧ (setNotices set s).state.gov = s.gov ∧
      (setNotices set s).state.firing = s.firing ∧ (setNotices set s).state.plant = s.plant ∧
      (setNotices set s).state.water = s.water ∧ (setNotices set s).state.hamlet = s.hamlet ∧
      (setNotices set s).state.shed = s.shed ∧ (setNotices set s).state.saw = s.saw ∧
      (setNotices set s).state.journal = s.journal ∧ (setNotices set s).state.tables = s.tables ∧
      (setNotices set s).state.loop = s.loop ∧ (setNotices set s).state.draws = s.draws ∧
      (setNotices set s).state.pending = s.pending := by
  unfold setNotices; and_intros <;> (repeat' split) <;> simp

@[simp] theorem plantReply_frame (outcome : ReqOutcome) (s : State) :
    (plantReply outcome s).state.edge = s.edge ∧ (plantReply outcome s).state.pins = s.pins ∧
      (plantReply outcome s).state.time = s.time ∧ (plantReply outcome s).state.gov = s.gov ∧
      (plantReply outcome s).state.firing = s.firing ∧ (plantReply outcome s).state.plant = s.plant ∧
      (plantReply outcome s).state.water = s.water ∧ (plantReply outcome s).state.hamlet = s.hamlet ∧
      (plantReply outcome s).state.shed = s.shed ∧ (plantReply outcome s).state.saw = s.saw ∧
      (plantReply outcome s).state.conds = s.conds ∧ (plantReply outcome s).state.journal = s.journal ∧
      (plantReply outcome s).state.tables = s.tables ∧ (plantReply outcome s).state.loop = s.loop ∧
      (plantReply outcome s).state.draws = s.draws ∧ (plantReply outcome s).state.pending = s.pending := by
  unfold plantReply; and_intros <;> simp

@[simp] theorem setPlantRunup_frame (s : State) :
    (setPlantRunup s).state.edge = s.edge ∧ (setPlantRunup s).state.pins = s.pins ∧
      (setPlantRunup s).state.tables = s.tables ∧ (setPlantRunup s).state.draws = s.draws ∧
      (setPlantRunup s).state.pending = s.pending := by
  unfold setPlantRunup; and_intros <;> (repeat' split) <;> simp

@[simp] theorem setPlantStopped_frame (s : State) :
    (setPlantStopped s).state.edge = s.edge ∧ (setPlantStopped s).state.pins = s.pins ∧
      (setPlantStopped s).state.tables = s.tables ∧ (setPlantStopped s).state.draws = s.draws ∧
      (setPlantStopped s).state.pending = s.pending := by
  unfold setPlantStopped; and_intros <;> (repeat' split) <;> simp

@[simp] theorem setPlantTripped_frame (s : State) :
    (setPlantTripped s).state.edge = s.edge ∧ (setPlantTripped s).state.pins = s.pins ∧
      (setPlantTripped s).state.tables = s.tables ∧ (setPlantTripped s).state.draws = s.draws ∧
      (setPlantTripped s).state.pending = s.pending := by
  unfold setPlantTripped; and_intros <;> (repeat' split) <;> simp

@[simp] theorem setPlant_frame (target : Nat) (s : State) :
    (setPlant target s).state.edge = s.edge ∧ (setPlant target s).state.pins = s.pins ∧
      (setPlant target s).state.tables = s.tables ∧ (setPlant target s).state.draws = s.draws ∧
      (setPlant target s).state.pending = s.pending := by
  unfold setPlant; and_intros <;> (repeat' split) <;> simp

@[simp] theorem journalFind_frame (start kind subject : Nat) (s : State) :
    (journalFind start kind subject s).state.edge = s.edge ∧
      (journalFind start kind subject s).state.pins = s.pins ∧
      (journalFind start kind subject s).state.time = s.time ∧
      (journalFind start kind subject s).state.gov = s.gov ∧
      (journalFind start kind subject s).state.firing = s.firing ∧
      (journalFind start kind subject s).state.plant = s.plant ∧
      (journalFind start kind subject s).state.water = s.water ∧
      (journalFind start kind subject s).state.hamlet = s.hamlet ∧
      (journalFind start kind subject s).state.shed = s.shed ∧
      (journalFind start kind subject s).state.saw = s.saw ∧
      (journalFind start kind subject s).state.conds = s.conds ∧
      (journalFind start kind subject s).state.journal = s.journal ∧
      (journalFind start kind subject s).state.tables = s.tables ∧
      (journalFind start kind subject s).state.loop = s.loop ∧
      (journalFind start kind subject s).state.draws = s.draws ∧
      (journalFind start kind subject s).state.pending = s.pending := by
  unfold journalFind; dsimp only; and_intros <;> (repeat' split) <;> simp

@[simp] theorem journalRead_frame (seq : Nat) (s : State) :
    (journalRead seq s).state.edge = s.edge ∧ (journalRead seq s).state.pins = s.pins ∧
      (journalRead seq s).state.time = s.time ∧ (journalRead seq s).state.gov = s.gov ∧
      (journalRead seq s).state.firing = s.firing ∧ (journalRead seq s).state.plant = s.plant ∧
      (journalRead seq s).state.water = s.water ∧ (journalRead seq s).state.hamlet = s.hamlet ∧
      (journalRead seq s).state.shed = s.shed ∧ (journalRead seq s).state.saw = s.saw ∧
      (journalRead seq s).state.conds = s.conds ∧ (journalRead seq s).state.journal = s.journal ∧
      (journalRead seq s).state.tables = s.tables ∧ (journalRead seq s).state.loop = s.loop ∧
      (journalRead seq s).state.draws = s.draws ∧ (journalRead seq s).state.pending = s.pending := by
  unfold journalRead; and_intros <;> (repeat' split) <;> simp

/-! ## Reset -/

@[simp] theorem warmBlocks_frame (s : State) :
    (warmBlocks s).edge = s.edge ∧ (warmBlocks s).pins = s.pins ∧
      (warmBlocks s).journal = s.journal ∧ (warmBlocks s).tables = s.tables ∧
      (warmBlocks s).loop = s.loop ∧ (warmBlocks s).draws = s.draws ∧
      (warmBlocks s).pending = s.pending := by
  unfold warmBlocks; and_intros <;> simp

@[simp] theorem raiseIf_frame (b : Bool) (c : Condition) (s : State) :
    (raiseIf b c s).edge = s.edge ∧ (raiseIf b c s).pins = s.pins ∧
      (raiseIf b c s).time = s.time ∧ (raiseIf b c s).gov = s.gov ∧
      (raiseIf b c s).firing = s.firing ∧ (raiseIf b c s).plant = s.plant ∧
      (raiseIf b c s).water = s.water ∧ (raiseIf b c s).hamlet = s.hamlet ∧
      (raiseIf b c s).shed = s.shed ∧ (raiseIf b c s).saw = s.saw ∧
      (raiseIf b c s).tables = s.tables ∧ (raiseIf b c s).draws = s.draws ∧
      (raiseIf b c s).pending = s.pending := by
  unfold raiseIf; and_intros <;> (repeat' split) <;> simp

@[simp] theorem reraiseShaft_frame (s : State) :
    (reraiseShaft s).pins = s.pins ∧ (reraiseShaft s).time = s.time ∧
      (reraiseShaft s).gov = s.gov ∧ (reraiseShaft s).firing = s.firing ∧
      (reraiseShaft s).plant = s.plant ∧ (reraiseShaft s).water = s.water ∧
      (reraiseShaft s).hamlet = s.hamlet ∧ (reraiseShaft s).shed = s.shed ∧
      (reraiseShaft s).saw = s.saw ∧ (reraiseShaft s).tables = s.tables ∧
      (reraiseShaft s).draws = s.draws ∧ (reraiseShaft s).pending = s.pending := by
  unfold reraiseShaft; and_intros <;> (repeat' split) <;> simp

@[simp] theorem reraise_frame (s : State) :
    (reraise s).pins = s.pins ∧ (reraise s).time = s.time ∧
      (reraise s).gov = s.gov ∧ (reraise s).firing = s.firing ∧
      (reraise s).plant = s.plant ∧ (reraise s).water = s.water ∧
      (reraise s).hamlet = s.hamlet ∧ (reraise s).shed = s.shed ∧
      (reraise s).saw = s.saw ∧ (reraise s).tables = s.tables ∧
      (reraise s).draws = s.draws ∧ (reraise s).pending = s.pending := by
  unfold reraise; and_intros <;> simp

@[simp] theorem journalRestart_frame (s : State) :
    (journalRestart s).edge = s.edge ∧ (journalRestart s).pins = s.pins ∧
      (journalRestart s).time = s.time ∧ (journalRestart s).gov = s.gov ∧
      (journalRestart s).firing = s.firing ∧ (journalRestart s).plant = s.plant ∧
      (journalRestart s).water = s.water ∧ (journalRestart s).hamlet = s.hamlet ∧
      (journalRestart s).shed = s.shed ∧ (journalRestart s).saw = s.saw ∧
      (journalRestart s).conds = s.conds ∧ (journalRestart s).tables = s.tables ∧
      (journalRestart s).loop = s.loop ∧ (journalRestart s).draws = s.draws ∧
      (journalRestart s).pending = s.pending := by
  unfold journalRestart; and_intros <;> simp

@[simp] theorem warmReset_frame (s : State) :
    (warmReset s).pins = s.pins ∧ (warmReset s).tables = s.tables ∧
      (warmReset s).draws = s.draws ∧ (warmReset s).pending = s.pending := by
  unfold warmReset; and_intros <;> simp

/-! ## Management -/

@[simp] theorem setHeld_frame (b : Bool) (s : State) :
    (setHeld b s).edge = s.edge ∧ (setHeld b s).pins = s.pins ∧
      (setHeld b s).time = s.time ∧ (setHeld b s).gov = s.gov ∧
      (setHeld b s).firing = s.firing ∧ (setHeld b s).plant = s.plant ∧
      (setHeld b s).water = s.water ∧ (setHeld b s).hamlet = s.hamlet ∧
      (setHeld b s).shed = s.shed ∧ (setHeld b s).saw = s.saw ∧
      (setHeld b s).conds = s.conds ∧ (setHeld b s).journal = s.journal ∧
      (setHeld b s).tables = s.tables ∧ (setHeld b s).draws = s.draws ∧
      (setHeld b s).pending = s.pending := by
  unfold setHeld; and_intros <;> simp

@[simp] theorem shortParameters_frame (s : State) :
    (shortParameters s).state.edge = s.edge ∧ (shortParameters s).state.pins = s.pins ∧
      (shortParameters s).state.time = s.time ∧ (shortParameters s).state.gov = s.gov ∧
      (shortParameters s).state.firing = s.firing ∧ (shortParameters s).state.plant = s.plant ∧
      (shortParameters s).state.water = s.water ∧ (shortParameters s).state.hamlet = s.hamlet ∧
      (shortParameters s).state.shed = s.shed ∧ (shortParameters s).state.saw = s.saw ∧
      (shortParameters s).state.conds = s.conds ∧ (shortParameters s).state.journal = s.journal ∧
      (shortParameters s).state.tables = s.tables ∧ (shortParameters s).state.loop = s.loop ∧
      (shortParameters s).state.draws = s.draws ∧ (shortParameters s).state.pending = s.pending := by
  unfold shortParameters; and_intros <;> simp

/-! ## Loop -/

@[simp] theorem restartLoopSilence_frame (r : Receive) (s : State) :
    (restartLoopSilence r s).edge = s.edge ∧ (restartLoopSilence r s).pins = s.pins ∧
      (restartLoopSilence r s).time = s.time ∧ (restartLoopSilence r s).gov = s.gov ∧
      (restartLoopSilence r s).firing = s.firing ∧ (restartLoopSilence r s).plant = s.plant ∧
      (restartLoopSilence r s).water = s.water ∧ (restartLoopSilence r s).hamlet = s.hamlet ∧
      (restartLoopSilence r s).shed = s.shed ∧ (restartLoopSilence r s).saw = s.saw ∧
      (restartLoopSilence r s).conds = s.conds ∧ (restartLoopSilence r s).journal = s.journal ∧
      (restartLoopSilence r s).tables = s.tables ∧ (restartLoopSilence r s).draws = s.draws ∧
      (restartLoopSilence r s).pending = s.pending := by
  unfold restartLoopSilence; and_intros <;> simp

@[simp] theorem arrival_frame (r : Receive) (s : State) :
    (arrival r s).edge = s.edge ∧ (arrival r s).pins = s.pins ∧
      (arrival r s).time = s.time ∧ (arrival r s).gov = s.gov ∧
      (arrival r s).firing = s.firing ∧ (arrival r s).plant = s.plant ∧
      (arrival r s).water = s.water ∧ (arrival r s).hamlet = s.hamlet ∧
      (arrival r s).shed = s.shed ∧ (arrival r s).saw = s.saw ∧
      (arrival r s).journal = s.journal ∧ (arrival r s).tables = s.tables ∧
      (arrival r s).draws = s.draws ∧ (arrival r s).pending = s.pending := by
  unfold arrival; dsimp only; and_intros <;> (repeat' split) <;> simp

@[simp] theorem failedArrival_frame (r : Receive) (s : State) :
    (failedArrival r s).edge = s.edge ∧ (failedArrival r s).pins = s.pins ∧
      (failedArrival r s).time = s.time ∧ (failedArrival r s).gov = s.gov ∧
      (failedArrival r s).firing = s.firing ∧ (failedArrival r s).plant = s.plant ∧
      (failedArrival r s).water = s.water ∧ (failedArrival r s).hamlet = s.hamlet ∧
      (failedArrival r s).shed = s.shed ∧ (failedArrival r s).saw = s.saw ∧
      (failedArrival r s).tables = s.tables ∧ (failedArrival r s).draws = s.draws ∧
      (failedArrival r s).pending = s.pending := by
  unfold failedArrival; and_intros <;> simp

@[simp] theorem forwardFrame_frame (f : List Byte) (s : State) :
    (forwardFrame f s).edge = s.edge ∧ (forwardFrame f s).pins = s.pins ∧
      (forwardFrame f s).time = s.time ∧ (forwardFrame f s).gov = s.gov ∧
      (forwardFrame f s).firing = s.firing ∧ (forwardFrame f s).plant = s.plant ∧
      (forwardFrame f s).water = s.water ∧ (forwardFrame f s).hamlet = s.hamlet ∧
      (forwardFrame f s).shed = s.shed ∧ (forwardFrame f s).saw = s.saw ∧
      (forwardFrame f s).tables = s.tables ∧ (forwardFrame f s).draws = s.draws ∧
      (forwardFrame f s).pending = s.pending := by
  unfold forwardFrame; and_intros <;> (repeat' split) <;> simp

@[simp] theorem loopSilenceExpires_frame (s : State) :
    (loopSilenceExpires s).edge = s.edge ∧ (loopSilenceExpires s).pins = s.pins ∧
      (loopSilenceExpires s).time = s.time ∧ (loopSilenceExpires s).gov = s.gov ∧
      (loopSilenceExpires s).firing = s.firing ∧ (loopSilenceExpires s).plant = s.plant ∧
      (loopSilenceExpires s).water = s.water ∧ (loopSilenceExpires s).hamlet = s.hamlet ∧
      (loopSilenceExpires s).shed = s.shed ∧ (loopSilenceExpires s).saw = s.saw ∧
      (loopSilenceExpires s).tables = s.tables ∧ (loopSilenceExpires s).draws = s.draws ∧
      (loopSilenceExpires s).pending = s.pending := by
  unfold loopSilenceExpires; and_intros <;> (repeat' split) <;> simp

@[simp] theorem startSending_frame (f : List Byte) (src : Source) (s : State) :
    (startSending f src s).edge = s.edge ∧ (startSending f src s).pins = s.pins ∧
      (startSending f src s).time = s.time ∧ (startSending f src s).gov = s.gov ∧
      (startSending f src s).firing = s.firing ∧ (startSending f src s).plant = s.plant ∧
      (startSending f src s).water = s.water ∧ (startSending f src s).hamlet = s.hamlet ∧
      (startSending f src s).shed = s.shed ∧ (startSending f src s).saw = s.saw ∧
      (startSending f src s).conds = s.conds ∧ (startSending f src s).journal = s.journal ∧
      (startSending f src s).tables = s.tables ∧ (startSending f src s).draws = s.draws ∧
      (startSending f src s).pending = s.pending := by
  unfold startSending; and_intros <;> simp

@[simp] theorem serveSlot_frame (i : Nat) (s : State) :
    (serveSlot i s).edge = s.edge ∧ (serveSlot i s).pins = s.pins ∧
      (serveSlot i s).time = s.time ∧ (serveSlot i s).gov = s.gov ∧
      (serveSlot i s).firing = s.firing ∧ (serveSlot i s).plant = s.plant ∧
      (serveSlot i s).water = s.water ∧ (serveSlot i s).hamlet = s.hamlet ∧
      (serveSlot i s).shed = s.shed ∧ (serveSlot i s).saw = s.saw ∧
      (serveSlot i s).conds = s.conds ∧ (serveSlot i s).journal = s.journal ∧
      (serveSlot i s).tables = s.tables ∧ (serveSlot i s).draws = s.draws ∧
      (serveSlot i s).pending = s.pending := by
  unfold serveSlot; and_intros <;> simp

@[simp] theorem sendSlot_frame (i : Nat) (s : State) :
    (sendSlot i s).edge = s.edge ∧ (sendSlot i s).pins = s.pins ∧
      (sendSlot i s).time = s.time ∧ (sendSlot i s).gov = s.gov ∧
      (sendSlot i s).firing = s.firing ∧ (sendSlot i s).plant = s.plant ∧
      (sendSlot i s).water = s.water ∧ (sendSlot i s).hamlet = s.hamlet ∧
      (sendSlot i s).shed = s.shed ∧ (sendSlot i s).saw = s.saw ∧
      (sendSlot i s).conds = s.conds ∧ (sendSlot i s).journal = s.journal ∧
      (sendSlot i s).tables = s.tables ∧ (sendSlot i s).draws = s.draws ∧
      (sendSlot i s).pending = s.pending := by
  unfold sendSlot; and_intros <;> (repeat' split) <;> simp

@[simp] theorem serveSource_frame (src : Source) (s : State) :
    (serveSource src s).edge = s.edge ∧ (serveSource src s).pins = s.pins ∧
      (serveSource src s).time = s.time ∧ (serveSource src s).gov = s.gov ∧
      (serveSource src s).firing = s.firing ∧ (serveSource src s).plant = s.plant ∧
      (serveSource src s).water = s.water ∧ (serveSource src s).hamlet = s.hamlet ∧
      (serveSource src s).shed = s.shed ∧ (serveSource src s).saw = s.saw ∧
      (serveSource src s).conds = s.conds ∧ (serveSource src s).journal = s.journal ∧
      (serveSource src s).tables = s.tables ∧ (serveSource src s).draws = s.draws ∧
      (serveSource src s).pending = s.pending := by
  unfold serveSource; and_intros <;> (repeat' split) <;> simp

@[simp] theorem arbiterStarts_frame (s : State) :
    (arbiterStarts s).edge = s.edge ∧ (arbiterStarts s).pins = s.pins ∧
      (arbiterStarts s).time = s.time ∧ (arbiterStarts s).gov = s.gov ∧
      (arbiterStarts s).firing = s.firing ∧ (arbiterStarts s).plant = s.plant ∧
      (arbiterStarts s).water = s.water ∧ (arbiterStarts s).hamlet = s.hamlet ∧
      (arbiterStarts s).shed = s.shed ∧ (arbiterStarts s).saw = s.saw ∧
      (arbiterStarts s).conds = s.conds ∧ (arbiterStarts s).journal = s.journal ∧
      (arbiterStarts s).tables = s.tables ∧ (arbiterStarts s).draws = s.draws ∧
      (arbiterStarts s).pending = s.pending := by
  unfold arbiterStarts; and_intros <;> (repeat' split) <;> simp

@[simp] theorem frameLeaves_frame (s : State) :
    (frameLeaves s).edge = s.edge ∧ (frameLeaves s).pins = s.pins ∧
      (frameLeaves s).time = s.time ∧ (frameLeaves s).gov = s.gov ∧
      (frameLeaves s).firing = s.firing ∧ (frameLeaves s).plant = s.plant ∧
      (frameLeaves s).water = s.water ∧ (frameLeaves s).hamlet = s.hamlet ∧
      (frameLeaves s).shed = s.shed ∧ (frameLeaves s).saw = s.saw ∧
      (frameLeaves s).conds = s.conds ∧ (frameLeaves s).journal = s.journal ∧
      (frameLeaves s).tables = s.tables ∧ (frameLeaves s).draws = s.draws ∧
      (frameLeaves s).pending = s.pending := by
  unfold frameLeaves; and_intros <;> (repeat' split) <;> simp

/-! ## Tick -/

@[simp] theorem timersPass_frame (s : State) :
    (timersPass s).pins = s.pins ∧ (timersPass s).time = s.time ∧
      (timersPass s).gov = s.gov ∧ (timersPass s).firing = s.firing ∧
      (timersPass s).water = s.water ∧ (timersPass s).hamlet = s.hamlet ∧
      (timersPass s).shed = s.shed ∧ (timersPass s).conds = s.conds ∧
      (timersPass s).journal = s.journal ∧ (timersPass s).tables = s.tables ∧
      (timersPass s).draws = s.draws ∧ (timersPass s).pending = s.pending := by
  unfold timersPass; and_intros <;> simp

@[simp] theorem lossTimerCount_frame (s : State) :
    (lossTimerCount s).pins = s.pins ∧ (lossTimerCount s).tables = s.tables ∧
      (lossTimerCount s).draws = s.draws ∧ (lossTimerCount s).pending = s.pending := by
  unfold lossTimerCount; and_intros <;> (repeat' split) <;> simp

@[simp] theorem toothSilenceCount_frame (s : State) :
    (toothSilenceCount s).pins = s.pins ∧ (toothSilenceCount s).tables = s.tables ∧
      (toothSilenceCount s).draws = s.draws ∧ (toothSilenceCount s).pending = s.pending := by
  unfold toothSilenceCount; and_intros <;> (repeat' split) <;> simp

@[simp] theorem signalLossCount_frame (s : State) :
    (signalLossCount s).edge = s.edge ∧ (signalLossCount s).pins = s.pins ∧
      (signalLossCount s).tables = s.tables ∧ (signalLossCount s).draws = s.draws ∧
      (signalLossCount s).pending = s.pending := by
  unfold signalLossCount; and_intros <;> (repeat' split) <;> simp

@[simp] theorem collapseCount_frame (s : State) :
    (collapseCount s).edge = s.edge ∧ (collapseCount s).pins = s.pins ∧
      (collapseCount s).tables = s.tables ∧ (collapseCount s).draws = s.draws ∧
      (collapseCount s).pending = s.pending := by
  unfold collapseCount; and_intros <;> (repeat' split) <;> simp

@[simp] theorem freqOverspeedCount_frame (s : State) :
    (freqOverspeedCount s).edge = s.edge ∧ (freqOverspeedCount s).pins = s.pins ∧
      (freqOverspeedCount s).tables = s.tables ∧ (freqOverspeedCount s).draws = s.draws ∧
      (freqOverspeedCount s).pending = s.pending := by
  unfold freqOverspeedCount; and_intros <;> (repeat' split) <;> simp

@[simp] theorem reserveCount_frame (s : State) :
    (reserveCount s).edge = s.edge ∧ (reserveCount s).pins = s.pins ∧
      (reserveCount s).time = s.time ∧ (reserveCount s).firing = s.firing ∧
      (reserveCount s).plant = s.plant ∧ (reserveCount s).water = s.water ∧
      (reserveCount s).hamlet = s.hamlet ∧ (reserveCount s).conds = s.conds ∧
      (reserveCount s).tables = s.tables ∧ (reserveCount s).draws = s.draws ∧
      (reserveCount s).pending = s.pending := by
  unfold reserveCount; and_intros <;> (repeat' split) <;> simp

@[simp] theorem settleCount_frame (s : State) :
    (settleCount s).edge = s.edge ∧ (settleCount s).pins = s.pins ∧
      (settleCount s).time = s.time ∧ (settleCount s).gov = s.gov ∧
      (settleCount s).firing = s.firing ∧ (settleCount s).plant = s.plant ∧
      (settleCount s).water = s.water ∧ (settleCount s).hamlet = s.hamlet ∧
      (settleCount s).shed = s.shed ∧ (settleCount s).conds = s.conds ∧
      (settleCount s).tables = s.tables ∧ (settleCount s).draws = s.draws ∧
      (settleCount s).pending = s.pending := by
  unfold settleCount; and_intros <;> (repeat' split) <;> simp

@[simp] theorem confirmCount_frame (s : State) :
    (confirmCount s).edge = s.edge ∧ (confirmCount s).pins = s.pins ∧
      (confirmCount s).time = s.time ∧ (confirmCount s).firing = s.firing ∧
      (confirmCount s).plant = s.plant ∧ (confirmCount s).water = s.water ∧
      (confirmCount s).hamlet = s.hamlet ∧ (confirmCount s).tables = s.tables ∧
      (confirmCount s).draws = s.draws ∧ (confirmCount s).pending = s.pending := by
  unfold confirmCount; and_intros <;> (repeat' split) <;> simp

@[simp] theorem rundownCount_frame (s : State) :
    (rundownCount s).edge = s.edge ∧ (rundownCount s).pins = s.pins ∧
      (rundownCount s).time = s.time ∧ (rundownCount s).gov = s.gov ∧
      (rundownCount s).firing = s.firing ∧ (rundownCount s).plant = s.plant ∧
      (rundownCount s).water = s.water ∧ (rundownCount s).hamlet = s.hamlet ∧
      (rundownCount s).shed = s.shed ∧ (rundownCount s).conds = s.conds ∧
      (rundownCount s).journal = s.journal ∧ (rundownCount s).tables = s.tables ∧
      (rundownCount s).draws = s.draws ∧ (rundownCount s).pending = s.pending := by
  unfold rundownCount; and_intros <;> (repeat' split) <;> simp

@[simp] theorem loopSilenceCount_frame (s : State) :
    (loopSilenceCount s).edge = s.edge ∧ (loopSilenceCount s).pins = s.pins ∧
      (loopSilenceCount s).time = s.time ∧ (loopSilenceCount s).gov = s.gov ∧
      (loopSilenceCount s).firing = s.firing ∧ (loopSilenceCount s).plant = s.plant ∧
      (loopSilenceCount s).water = s.water ∧ (loopSilenceCount s).hamlet = s.hamlet ∧
      (loopSilenceCount s).shed = s.shed ∧ (loopSilenceCount s).saw = s.saw ∧
      (loopSilenceCount s).tables = s.tables ∧ (loopSilenceCount s).draws = s.draws ∧
      (loopSilenceCount s).pending = s.pending := by
  unfold loopSilenceCount; and_intros <;> (repeat' split) <;> simp

@[simp] theorem intervalsCount_frame (s : State) :
    (intervalsCount s).edge = s.edge ∧ (intervalsCount s).pins = s.pins ∧
      (intervalsCount s).time = s.time ∧ (intervalsCount s).gov = s.gov ∧
      (intervalsCount s).firing = s.firing ∧ (intervalsCount s).plant = s.plant ∧
      (intervalsCount s).water = s.water ∧ (intervalsCount s).shed = s.shed ∧
      (intervalsCount s).saw = s.saw ∧ (intervalsCount s).conds = s.conds ∧
      (intervalsCount s).journal = s.journal ∧ (intervalsCount s).tables = s.tables ∧
      (intervalsCount s).loop = s.loop ∧ (intervalsCount s).draws = s.draws ∧
      (intervalsCount s).pending = s.pending := by
  unfold intervalsCount; and_intros <;> simp

@[simp] theorem samplesCount_frame (s : State) :
    (samplesCount s).pins = s.pins ∧ (samplesCount s).tables = s.tables ∧
      (samplesCount s).pending = s.pending := by
  unfold samplesCount; and_intros <;> (repeat' split) <;> simp

@[simp] theorem pulseStartCount_frame (s : State) :
    (pulseStartCount s).edge = s.edge ∧ (pulseStartCount s).pins = s.pins ∧
      (pulseStartCount s).time = s.time ∧ (pulseStartCount s).gov = s.gov ∧
      (pulseStartCount s).plant = s.plant ∧ (pulseStartCount s).water = s.water ∧
      (pulseStartCount s).hamlet = s.hamlet ∧ (pulseStartCount s).shed = s.shed ∧
      (pulseStartCount s).saw = s.saw ∧ (pulseStartCount s).conds = s.conds ∧
      (pulseStartCount s).journal = s.journal ∧ (pulseStartCount s).tables = s.tables ∧
      (pulseStartCount s).loop = s.loop ∧ (pulseStartCount s).draws = s.draws ∧
      (pulseStartCount s).pending = s.pending := by
  unfold pulseStartCount; and_intros <;> (repeat' split) <;> simp

@[simp] theorem pulseEndCount_frame (s : State) :
    (pulseEndCount s).edge = s.edge ∧ (pulseEndCount s).pins = s.pins ∧
      (pulseEndCount s).time = s.time ∧ (pulseEndCount s).gov = s.gov ∧
      (pulseEndCount s).plant = s.plant ∧ (pulseEndCount s).water = s.water ∧
      (pulseEndCount s).hamlet = s.hamlet ∧ (pulseEndCount s).shed = s.shed ∧
      (pulseEndCount s).saw = s.saw ∧ (pulseEndCount s).conds = s.conds ∧
      (pulseEndCount s).journal = s.journal ∧ (pulseEndCount s).tables = s.tables ∧
      (pulseEndCount s).loop = s.loop ∧ (pulseEndCount s).draws = s.draws ∧
      (pulseEndCount s).pending = s.pending := by
  unfold pulseEndCount; and_intros <;> (repeat' split) <;> simp

@[simp] theorem dividerCount_frame (s : State) :
    (dividerCount s).edge = s.edge ∧ (dividerCount s).pins = s.pins ∧
      (dividerCount s).tables = s.tables ∧ (dividerCount s).draws = s.draws ∧
      (dividerCount s).pending = s.pending := by
  unfold dividerCount; and_intros <;> (repeat' split) <;> simp

@[simp] theorem lineCount_frame (s : State) :
    (lineCount s).edge = s.edge ∧ (lineCount s).pins = s.pins ∧
      (lineCount s).time = s.time ∧ (lineCount s).gov = s.gov ∧
      (lineCount s).firing = s.firing ∧ (lineCount s).plant = s.plant ∧
      (lineCount s).water = s.water ∧ (lineCount s).hamlet = s.hamlet ∧
      (lineCount s).shed = s.shed ∧ (lineCount s).saw = s.saw ∧
      (lineCount s).conds = s.conds ∧ (lineCount s).journal = s.journal ∧
      (lineCount s).tables = s.tables ∧ (lineCount s).draws = s.draws ∧
      (lineCount s).pending = s.pending := by
  unfold lineCount; and_intros <;> (repeat' split) <;> simp

@[simp] theorem timebaseCount_frame (s : State) :
    (timebaseCount s).pins = s.pins ∧ (timebaseCount s).time = s.time ∧
      (timebaseCount s).gov = s.gov ∧ (timebaseCount s).firing = s.firing ∧
      (timebaseCount s).plant = s.plant ∧ (timebaseCount s).water = s.water ∧
      (timebaseCount s).hamlet = s.hamlet ∧ (timebaseCount s).shed = s.shed ∧
      (timebaseCount s).saw = s.saw ∧ (timebaseCount s).conds = s.conds ∧
      (timebaseCount s).journal = s.journal ∧ (timebaseCount s).tables = s.tables ∧
      (timebaseCount s).loop = s.loop ∧ (timebaseCount s).draws = s.draws ∧
      (timebaseCount s).pending = s.pending := by
  unfold timebaseCount; and_intros <;> simp

end Sys2Proof.Machine
end

