-- ==== Sys2Proof/Laws/Ops.lean ====
section
/-! SUPPORT. What each shared operation does, said once: the lemmas that later proofs cite in place of the
definitions. -/

namespace Sys2Proof.Machine

/-! ## The Condition Register -/

/-- Two conditions of one number are one condition. -/
theorem Condition.num_inj {c d : Condition} (h : c.num = d.num) : c = d := by
  cases c <;> cases d <;> first | rfl | exact absurd h (by decide)

/-- Every condition has a number below 25. -/
theorem Condition.num_lt (c : Condition) : c.num < 25 := by cases c <;> decide

/-- A raise of a condition whose flag is set changes its cause mark at most. -/
theorem raise_of_set {c : Condition} {x : Option Nat} {s : State} (h : (s.cond c).flag = true) :
    raise c x s = markCause c s := by simp [raise, h]

/-- A raise of a condition whose flag is clear sets it, journals it, and offers a notice. -/
theorem raise_of_clear {c : Condition} {x : Option Nat} {s : State} (h : (s.cond c).flag = false) :
    raise c x s = offerNotice c x
      (journalAppend .condition x c.num (setFlag c x (markCause c s))) := by simp [raise, h]

/-- A list cell after a change of another cell. -/
theorem getD_modify_ne {α : Type} (l : List α) (i j : Nat) (f : α → α) (d : α) (h : i ≠ j) :
    (l.modify i f).getD j d = l.getD j d := by
  simp [List.getD_eq_getElem?_getD, h]

/-- A list cell after its own change. -/
theorem getD_modify_self {α : Type} (l : List α) (i : Nat) (f : α → α) (d : α) (h : i < l.length) :
    (l.modify i f).getD i d = f (l.getD i d) := by
  simp [List.getD_eq_getElem?_getD, h]

/-- A raise leaves the cells of the other conditions. -/
theorem raise_cond_ne (c d : Condition) (x : Option Nat) (s : State) (h : c ≠ d) :
    (raise c x s).cond d = s.cond d := by
  have hn : c.num ≠ d.num := fun e => h (Condition.num_inj e)
  have hm : (markCause c s).cond d = s.cond d := getD_modify_ne _ _ _ _ _ hn
  have hs : ∀ t, (setFlag c x t).cond d = t.cond d := fun _ => getD_modify_ne _ _ _ _ _ hn
  have ho : ∀ t, (offerNotice c x t).cond d = t.cond d := fun t => by simp [State.cond]
  unfold raise
  split
  · exact hm
  · rw [ho, ← hm]; exact hs _

/-- After a raise the flag of its condition is set, and a persistent condition carries its cause mark. -/
theorem raise_cond_self (c : Condition) (x : Option Nat) (s : State) (h : s.conds.length = 25) :
    ((raise c x s).cond c).flag = true ∧
      ((raise c x s).cond c).cause = (persistentNum c.num || (s.cond c).cause) ∧
      ((raise c x s).cond c).notice = (s.cond c).notice ∧
      ((raise c x s).cond c).subject = if (s.cond c).flag then (s.cond c).subject else x := by
  have hc : c.num < s.conds.length := h ▸ c.num_lt
  have hm : (markCause c s).cond c = { s.cond c with cause := persistentNum c.num || (s.cond c).cause } :=
    getD_modify_self _ _ _ _ hc
  cases hf : (s.cond c).flag
  · have hs : (setFlag c x (markCause c s)).cond c =
        { (markCause c s).cond c with flag := true, subject := x } :=
      getD_modify_self _ _ _ _ (by simpa [markCause] using hc)
    have ho : ∀ t, (offerNotice c x t).cond c = t.cond c := fun t => by simp [State.cond]
    have hj : ∀ k v w t, (journalAppend k v w t).cond c = t.cond c := fun _ _ _ _ => rfl
    rw [raise_of_clear hf, ho, hj, hs, hm]
    simp
  · rw [raise_of_set hf, hm]
    simp [hf]

/-- A raise keeps the number of conditions. -/
@[simp] theorem raise_conds_length (c : Condition) (x : Option Nat) (s : State) :
    (raise c x s).conds.length = s.conds.length := by
  unfold raise
  split <;> simp [setFlag, markCause]

/-- A cause end keeps the number of conditions. -/
@[simp] theorem causeEnd_conds_length (c : Condition) (s : State) :
    (causeEnd c s).conds.length = s.conds.length := by simp [causeEnd]

/-- A cause end clears the cause mark and keeps flag, enable and subject. -/
theorem causeEnd_cond_self (c : Condition) (s : State) (h : s.conds.length = 25) :
    (causeEnd c s).cond c = { s.cond c with cause := false } := by
  have hc : c.num < s.conds.length := h ▸ c.num_lt
  exact getD_modify_self _ _ _ _ hc

/-- A notice offered is queued at the tail or dropped. -/
theorem offerNotice_answers (c : Condition) (x : Option Nat) (s : State) :
    (offerNotice c x s).loop.answers = s.loop.answers ∨
      s.answerRoom = true ∧ ∃ f, (offerNotice c x s).loop.answers = s.loop.answers ++ [f] := by
  unfold offerNotice
  split
  · rename_i h
    simp only [Bool.and_eq_true] at h
    exact .inr ⟨h.2, _, by simp; rfl⟩
  · exact .inl rfl

/-- A notice offered changes nothing of the Loop Port but the answer queue. -/
theorem offerNotice_loop (c : Condition) (x : Option Nat) (s : State) :
    (offerNotice c x s).loop = { s.loop with answers := (offerNotice c x s).loop.answers } := by
  unfold offerNotice
  split <;> simp

/-- A raise changes nothing of the Loop Port but the answer queue. -/
theorem raise_loop (c : Condition) (x : Option Nat) (s : State) :
    (raise c x s).loop = { s.loop with answers := (raise c x s).loop.answers } := by
  unfold raise
  split
  · simp
  · rw [offerNotice_loop]; simp

/-! ## The journal -/

/-- The journal after an append. -/
@[simp] theorem journalAppend_journal (k : JournalKind) (x : Option Nat) (v : Int) (s : State) :
    (journalAppend k x v s).journal = s.journal.push s.time.clock k x v := rfl

/-- The journal after a raise: as it was, or with the CONDITION entry of the raise. -/
theorem raise_journal (c : Condition) (x : Option Nat) (s : State) :
    (raise c x s).journal = s.journal ∨
      (raise c x s).journal = s.journal.push s.time.clock .condition x c.num := by
  unfold raise
  split
  · exact .inl (by simp)
  · exact .inr (by simp)

/-! ## Slots and orders -/

/-- The slots after a write. -/
@[simp] theorem writeSlot_slots (i : Nat) (o : Order) (s : State) :
    (writeSlot i o s).loop.slots = s.loop.slots.set i ⟨some o, true⟩ := rfl

/-- The gate target after it is set. -/
@[simp] theorem setGate_water (g : Nat) (s : State) :
    (setGate g s).water = { s.water with gate := g } := by
  unfold setGate
  split
  · rename_i h; simp [h]
  · simp [writeGateSlot, writeSlot]

/-- The Saw Coordinator after its order is set. -/
@[simp] theorem setSawOrder_saw (o : SawOrder) (s : State) :
    (setSawOrder o s).saw = { s.saw with order := o } := by
  unfold setSawOrder
  split
  · rename_i h; simp [h]
  · dsimp only; split <;> simp

/-- The Governor after a gain request. -/
@[simp] theorem requestGain_gov (g : GainSet) (s : State) :
    (requestGain g s).gov = { s.gov with pendingSet := if g = s.gov.active then none else some g } := rfl

/-! ## Circuits and the shed list -/

/-- The circuit table after a circuit moves. -/
@[simp] theorem moveCircuit_hamlet (i : Nat) (st : CircuitState) (s : State) :
    (moveCircuit i st s).hamlet =
      { s.hamlet with entries := s.hamlet.entries.modify i (Circuit.move st) } := by
  unfold moveCircuit
  dsimp only
  split <;> simp [modifyCircuit]

/-- An append request is taken, or leaves everything as it was. -/
theorem appendRequest_cases (i : Nat) (cause : ShedCause) (s : State) :
    (s.inPlant .run = true ∧ 1 ≤ (s.circuit i).tier ∧ s.listed i = false ∧
        appendRequest i cause s = appendTaken i cause s) ∨
      appendRequest i cause s = s := by
  unfold appendRequest
  split
  · rename_i h
    simp only [Bool.and_eq_true, decide_eq_true_eq, Bool.not_eq_true'] at h
    exact .inl ⟨h.1.1, h.1.2, h.2, rfl⟩
  · exact .inr rfl

/-- The shed list after a taken append. -/
@[simp] theorem appendTaken_shed (i : Nat) (cause : ShedCause) (s : State) :
    (appendTaken i cause s).shed =
      { s.shed with
        list := s.shed.list ++ [⟨i, cause, (s.circuit i).reading, s.secondOfDay⟩]
        restoreTimer := none } := by
  unfold appendTaken
  dsimp only
  split <;> simp [pushShed]

/-- The circuit table after a taken append. -/
@[simp] theorem appendTaken_hamlet (i : Nat) (cause : ShedCause) (s : State) :
    (appendTaken i cause s).hamlet =
      { s.hamlet with entries := s.hamlet.entries.modify i (Circuit.move .shed) } := by
  unfold appendTaken
  dsimp only
  split <;> simp

/-! ## Work in sequence -/

/-- The next piece of work runs on the state that the one before it answers. -/
@[simp] theorem andThen_next (s : State) (f : State → Host.Outcome State Fault Refusal) :
    Safety.andThen (.next s) f = f s := rfl

end Sys2Proof.Machine
end

