-- ==== Sys2Proof/Laws/PerInstr.lean ====
section
/-! SUPPORT. What holds of every command as syntax, constructor by constructor. -/

namespace Sys2Proof.Laws

/-- A well-formed command that is a request has a sender of 1..62 and a payload of at most 64 bytes, so
that a REQUEST frame can carry it (Table 9-1). -/
def RequestPayload.Statement (i : Instr) : Prop :=
  i.wf = true → ∀ x, i.request = some x → 1 ≤ x.1.toNat ∧ x.1.toNat ≤ 62 ∧ x.2.length ≤ 64

/-- A request of a good sender with at most 61 bytes of parameters can be carried. -/
theorem carried {src : Byte} {code : Nat} {tag : Word16} {params : List Byte}
    (h : sourceOk src = true) (hp : params.length ≤ 61) (x : Byte × List Byte)
    (hx : some (src, requestBytes code tag params) = some x) :
    1 ≤ x.1.toNat ∧ x.1.toNat ≤ 62 ∧ x.2.length ≤ 64 := by
  cases Option.some.inj hx
  simp only [sourceOk, Bool.and_eq_true, decide_eq_true_eq] at h
  refine ⟨h.1, h.2, ?_⟩
  show params.length + 3 ≤ 64
  omega

theorem RequestPayload.coldReset (straps : BitVec 6) :
    RequestPayload.Statement (.coldReset straps) :=
  fun _ _ hx => nomatch hx

theorem RequestPayload.acceptedRisingCrossingEdge (t : Count) (lag : Nat) :
    RequestPayload.Statement (.acceptedRisingCrossingEdge t lag) :=
  fun _ _ hx => nomatch hx

theorem RequestPayload.acceptedFallingEdge (input : EdgeInput) :
    RequestPayload.Statement (.acceptedFallingEdge input) :=
  fun _ _ hx => nomatch hx

theorem RequestPayload.lossTimerExpiry :
    RequestPayload.Statement .lossTimerExpiry :=
  fun _ _ hx => nomatch hx

theorem RequestPayload.acceptedRisingToothEdge (t : Count) :
    RequestPayload.Statement (.acceptedRisingToothEdge t) :=
  fun _ _ hx => nomatch hx

theorem RequestPayload.toothOverspeed :
    RequestPayload.Statement .toothOverspeed :=
  fun _ _ hx => nomatch hx

theorem RequestPayload.toothSilenceExpiry :
    RequestPayload.Statement .toothSilenceExpiry :=
  fun _ _ hx => nomatch hx

theorem RequestPayload.millSecond :
    RequestPayload.Statement .millSecond :=
  fun _ _ hx => nomatch hx

theorem RequestPayload.runupAccepted :
    RequestPayload.Statement .runupAccepted :=
  fun _ _ hx => nomatch hx

theorem RequestPayload.runupTimerExpiry :
    RequestPayload.Statement .runupTimerExpiry :=
  fun _ _ hx => nomatch hx

theorem RequestPayload.stopTimerExpiry :
    RequestPayload.Statement .stopTimerExpiry :=
  fun _ _ hx => nomatch hx

theorem RequestPayload.signalLossTimerExpiry :
    RequestPayload.Statement .signalLossTimerExpiry :=
  fun _ _ hx => nomatch hx

theorem RequestPayload.collapseTimerExpiry :
    RequestPayload.Statement .collapseTimerExpiry :=
  fun _ _ hx => nomatch hx

theorem RequestPayload.freqOverspeedTimerExpiry :
    RequestPayload.Statement .freqOverspeedTimerExpiry :=
  fun _ _ hx => nomatch hx

theorem RequestPayload.trimPulseStart :
    RequestPayload.Statement .trimPulseStart :=
  fun _ _ hx => nomatch hx

theorem RequestPayload.trimPulseEnd :
    RequestPayload.Statement .trimPulseEnd :=
  fun _ _ hx => nomatch hx

theorem RequestPayload.gateEvaluation :
    RequestPayload.Statement .gateEvaluation :=
  fun _ _ hx => nomatch hx

theorem RequestPayload.shortageEvent :
    RequestPayload.Statement .shortageEvent :=
  fun _ _ hx => nomatch hx

theorem RequestPayload.waterNodeSilenceExpiry (node : WaterNode) :
    RequestPayload.Statement (.waterNodeSilenceExpiry node) :=
  fun _ _ hx => nomatch hx

theorem RequestPayload.feederSilenceExpiry (slot : Nat) :
    RequestPayload.Statement (.feederSilenceExpiry slot) :=
  fun _ _ hx => nomatch hx

theorem RequestPayload.recloseExpiry (circuit : Nat) :
    RequestPayload.Statement (.recloseExpiry circuit) :=
  fun _ _ hx => nomatch hx

theorem RequestPayload.limitTrip (circuit : Nat) (reading : Nat) :
    RequestPayload.Statement (.limitTrip circuit reading) :=
  fun _ _ hx => nomatch hx

theorem RequestPayload.breakerDisagree (circuit : Nat) (report : BreakerReport) :
    RequestPayload.Statement (.breakerDisagree circuit report) :=
  fun _ _ hx => nomatch hx

theorem RequestPayload.shedTimerExpiry :
    RequestPayload.Statement .shedTimerExpiry :=
  fun _ _ hx => nomatch hx

theorem RequestPayload.restore :
    RequestPayload.Statement .restore :=
  fun _ _ hx => nomatch hx

theorem RequestPayload.reserveTimerExpiry :
    RequestPayload.Statement .reserveTimerExpiry :=
  fun _ _ hx => nomatch hx

theorem RequestPayload.sawSettleExpiry :
    RequestPayload.Statement .sawSettleExpiry :=
  fun _ _ hx => nomatch hx

theorem RequestPayload.clutchConfirmExpiry :
    RequestPayload.Statement .clutchConfirmExpiry :=
  fun _ _ hx => nomatch hx

theorem RequestPayload.rundownExpiry :
    RequestPayload.Statement .rundownExpiry :=
  fun _ _ hx => nomatch hx

theorem RequestPayload.grantExpiry :
    RequestPayload.Statement .grantExpiry :=
  fun _ _ hx => nomatch hx

theorem RequestPayload.sawSilenceExpiry :
    RequestPayload.Statement .sawSilenceExpiry :=
  fun _ _ hx => nomatch hx

theorem RequestPayload.loopSilenceExpiry :
    RequestPayload.Statement .loopSilenceExpiry :=
  fun _ _ hx => nomatch hx

theorem RequestPayload.frameArrival (bytes : List Byte) (stopBitLow : Bool) :
    RequestPayload.Statement (.frameArrival bytes stopBitLow) :=
  fun _ _ hx => nomatch hx

theorem RequestPayload.fragmentDiscard :
    RequestPayload.Statement .fragmentDiscard :=
  fun _ _ hx => nomatch hx

theorem RequestPayload.arbiterFrameStart :
    RequestPayload.Statement .arbiterFrameStart :=
  fun _ _ hx => nomatch hx

theorem RequestPayload.frameSent :
    RequestPayload.Statement .frameSent :=
  fun _ _ hx => nomatch hx

theorem RequestPayload.pondSample (payload : List Byte) :
    RequestPayload.Statement (.pondSample payload) :=
  fun _ _ hx => nomatch hx

theorem RequestPayload.gateSample (payload : List Byte) :
    RequestPayload.Statement (.gateSample payload) :=
  fun _ _ hx => nomatch hx

theorem RequestPayload.feederSample (slot : Nat) (payload : List Byte) :
    RequestPayload.Statement (.feederSample slot payload) :=
  fun _ _ hx => nomatch hx

theorem RequestPayload.sawSample (payload : List Byte) :
    RequestPayload.Statement (.sawSample payload) :=
  fun _ _ hx => nomatch hx

theorem RequestPayload.readEntries (src : Byte) (tag : Word16) (table first count : Byte) :
    RequestPayload.Statement (.readEntries src tag table first count) :=
  fun h => carried h (Nat.le_of_ble_eq_true rfl)

theorem RequestPayload.writeEntries (src : Byte) (tag : Word16) (table first count : Byte) (values : List Byte) :
    RequestPayload.Statement (.writeEntries src tag table first count values) :=
  fun h => by
    have h' : (sourceOk src && decide (values.length ≤ 58)) = true := h
    simp only [Bool.and_eq_true, decide_eq_true_eq] at h'
    exact carried h'.1 (by simp only [List.length_append, List.length_cons, List.length_nil]; omega)

theorem RequestPayload.readStatus (src : Byte) (tag : Word16) (section_ : Byte) :
    RequestPayload.Statement (.readStatus src tag section_) :=
  fun h => carried h (Nat.le_of_ble_eq_true rfl)

theorem RequestPayload.readConditions (src : Byte) (tag : Word16) :
    RequestPayload.Statement (.readConditions src tag) :=
  fun h => carried h (Nat.le_of_ble_eq_true rfl)

theorem RequestPayload.acknowledge (src : Byte) (tag : Word16) (set : Word32) :
    RequestPayload.Statement (.acknowledge src tag set) :=
  fun h => carried h (Nat.le_of_ble_eq_true rfl)

theorem RequestPayload.setNotices (src : Byte) (tag : Word16) (set : Word32) :
    RequestPayload.Statement (.setNotices src tag set) :=
  fun h => carried h (Nat.le_of_ble_eq_true rfl)

theorem RequestPayload.setPlantRunup (src : Byte) (tag : Word16) :
    RequestPayload.Statement (.setPlantRunup src tag) :=
  fun h => carried h (Nat.le_of_ble_eq_true rfl)

theorem RequestPayload.setPlantStopped (src : Byte) (tag : Word16) :
    RequestPayload.Statement (.setPlantStopped src tag) :=
  fun h => carried h (Nat.le_of_ble_eq_true rfl)

theorem RequestPayload.setPlantTripped (src : Byte) (tag : Word16) :
    RequestPayload.Statement (.setPlantTripped src tag) :=
  fun h => carried h (Nat.le_of_ble_eq_true rfl)

theorem RequestPayload.setClock (src : Byte) (tag : Word16) (day : Word16) (second : Word32) :
    RequestPayload.Statement (.setClock src tag day second) :=
  fun h => carried h (Nat.le_of_ble_eq_true rfl)

theorem RequestPayload.setTimeError (src : Byte) (tag : Word16) (te : Word16) :
    RequestPayload.Statement (.setTimeError src tag te) :=
  fun h => carried h (Nat.le_of_ble_eq_true rfl)

theorem RequestPayload.circuitAdminOff (src : Byte) (tag : Word16) (circuit : Byte) :
    RequestPayload.Statement (.circuitAdminOff src tag circuit) :=
  fun h => carried h (Nat.le_of_ble_eq_true rfl)

theorem RequestPayload.circuitAdminOn (src : Byte) (tag : Word16) (circuit : Byte) :
    RequestPayload.Statement (.circuitAdminOn src tag circuit) :=
  fun h => carried h (Nat.le_of_ble_eq_true rfl)

theorem RequestPayload.releaseLockout (src : Byte) (tag : Word16) (circuit : Byte) :
    RequestPayload.Statement (.releaseLockout src tag circuit) :=
  fun h => carried h (Nat.le_of_ble_eq_true rfl)

theorem RequestPayload.clearEnergy (src : Byte) (tag : Word16) (circuit : Byte) :
    RequestPayload.Statement (.clearEnergy src tag circuit) :=
  fun h => carried h (Nat.le_of_ble_eq_true rfl)

theorem RequestPayload.journalFind (src : Byte) (tag : Word16) (start : Word32) (kind subject : Byte) :
    RequestPayload.Statement (.journalFind src tag start kind subject) :=
  fun h => carried h (Nat.le_of_ble_eq_true rfl)

theorem RequestPayload.journalRead (src : Byte) (tag : Word16) (seq : Word32) :
    RequestPayload.Statement (.journalRead src tag seq) :=
  fun h => carried h (Nat.le_of_ble_eq_true rfl)

theorem RequestPayload.restart (src : Byte) (tag : Word16) :
    RequestPayload.Statement (.restart src tag) :=
  fun h => carried h (Nat.le_of_ble_eq_true rfl)

theorem RequestPayload.unknownRequest (src : Byte) (payload : List Byte) :
    RequestPayload.Statement (.unknownRequest src payload) :=
  fun h x hx => by
    have h' : (sourceOk src && payloadOk payload && unknownPayload payload) = true := h
    cases Option.some.inj hx
    simp only [sourceOk, payloadOk, Bool.and_eq_true, decide_eq_true_eq] at h'
    exact ⟨h'.1.1.1, h'.1.1.2, h'.1.2⟩

theorem RequestPayload.lineIdleBeforeComplete :
    RequestPayload.Statement .lineIdleBeforeComplete :=
  fun _ _ hx => nomatch hx

end Sys2Proof.Laws
end

