-- ==== Sys2Proof/Tests/Slice0.lean ====
section
/-! SUPPORT. Tests. Three kinds: ill-formed commands that WellFormed refuses; one step on a small state with
the result that the manual's tables, worked examples or rules give; and, for each statement that has
hypotheses, a state and operands that meet them (theorem witness_<Name>), at boundary values of each clause. -/

namespace Sys2Proof.Tests

set_option maxRecDepth 8000

open Sys2Proof.Machine Sys2Proof.Safety

/-! ## Helpers -/

/-- A value read from the next state of an outcome; none for a fault or a refusal. -/
def got {α : Type} (f : State → α) : Host.Outcome State Fault Refusal → Option α
  | .next t => some (f t)
  | .fault _ => none
  | .refused _ => none

/-- The state with a plant state. -/
def inState (p : PlantState) : State :=
  { State.reset with plant := { State.reset.plant with state := p } }

/-- The state with the signal PRESENT and the last edge at count 0. -/
def turning (s : State) : State :=
  { s with edge := { s.edge with
      signal := .present, tPrev := some 0, freq := some 50000, period := some 40000
      lossTimer := some 200000 } }

/-- A circuit of a tier in a state. -/
def house (tier : Nat) (st : CircuitState) : Circuit :=
  { Circuit.blank with present := true, tier := tier, state := st, reading := 500 }

/-- Circuits 0 to 6: one of each state but DARK, and one more CLOSED one of tier 2. -/
def village : List Circuit :=
  [house 0 .closed, house 2 .closed, house 3 .shed, house 1 .limitOpen,
    { house 1 .locked with strikes := 3, windowStart := some 0 }, house 1 .off, house 2 .closed] ++
    List.replicate 41 Circuit.blank

/-- A part in RUN with a village, whose circuit 2 is on the shed list. -/
def running : State :=
  let s := turning (inState .run)
  { s with
    gov := { s.gov with d := 2000, engaged := true }
    water := { s.water with gate := 400, evalTimer := some 0, level := some 2000 }
    hamlet := { s.hamlet with entries := village }
    shed := { s.shed with list := [⟨2, .frequency, 500, none⟩] } }

/-- The part of `running` with an answer queue of `n` frames. -/
def withAnswers (n : Nat) (s : State) : State :=
  { s with loop := { s.loop with answers := List.replicate n [0] } }

/-- The state with a saw state. -/
def sawIn (w : SawState) : State :=
  { running with saw := { running.saw with
      state := w, reserve := some 1, settle := some 1, confirm := some 1, rundown := some 1
      silence := some 5, silent := true } }

/-- The state with one command waiting. -/
def queued (c : Instr) (s : State) : State := { s with pending := [c] }

/-! ## WellFormed refuses -/

theorem test_wf_lag : Instr.wf (.acceptedRisingCrossingEdge 0 1009) = false := by decide
theorem test_wf_feederSlot : Instr.wf (.feederSilenceExpiry 6) = false := by decide
theorem test_wf_reclose : Instr.wf (.recloseExpiry 48) = false := by decide
theorem test_wf_limitCircuit : Instr.wf (.limitTrip 48 0) = false := by decide
theorem test_wf_limitReading : Instr.wf (.limitTrip 0 65536) = false := by decide
theorem test_wf_breakerCircuit : Instr.wf (.breakerDisagree 48 .closed) = false := by decide
theorem test_wf_breakerReport : Instr.wf (.breakerDisagree 0 .unknown) = false := by decide
theorem test_wf_frame : Instr.wf (.frameArrival [63, 1, 16, 1, 0, 0] false) = false := by decide
theorem test_wf_pondPayload : Instr.wf (.pondSample (List.replicate 65 0)) = false := by decide
theorem test_wf_gatePayload : Instr.wf (.gateSample (List.replicate 65 0)) = false := by decide
theorem test_wf_feederPayload : Instr.wf (.feederSample 0 (List.replicate 65 0)) = false := by decide
theorem test_wf_feederSampleSlot : Instr.wf (.feederSample 6 []) = false := by decide
theorem test_wf_sawPayload : Instr.wf (.sawSample (List.replicate 65 0)) = false := by decide
theorem test_wf_writeValues :
    Instr.wf (.writeEntries 5 0 2 0 1 (List.replicate 59 0)) = false := by decide
theorem test_wf_unknownKnownCode : Instr.wf (.unknownRequest 5 [13, 0, 0]) = false := by decide
theorem test_wf_unknownLong :
    Instr.wf (.unknownRequest 5 (14 :: List.replicate 64 0)) = false := by decide

/-- Every request refuses the sources 0 and 63. -/
theorem test_wf_sources :
    ([0, 63] : List Byte).all (fun a =>
      [Instr.readEntries a 0 1 0 1, .writeEntries a 0 1 0 1 [0], .readStatus a 0 0,
        .readConditions a 0, .acknowledge a 0 0, .setNotices a 0 0, .setPlantRunup a 0,
        .setPlantStopped a 0, .setPlantTripped a 0, .setClock a 0 0 0, .setTimeError a 0 0,
        .circuitAdminOff a 0 0, .circuitAdminOn a 0 0, .releaseLockout a 0 0, .clearEnergy a 0 0,
        .journalFind a 0 1 255 255, .journalRead a 0 1, .restart a 0,
        .unknownRequest a [0, 0, 0]].all fun i => !i.wf) = true := by decide

/-- No row of the table has bits, so no word spells a command. -/
theorem test_decodeTableWord : decodeTableWord 16 0 = none ∧ decodeTableWord 0 7 = none := by decide

/-! ## Bytes and frames -/

/-- The check value that R167 gives for the nine ASCII digits "123456789". -/
theorem test_crc_check :
    crc [0x31, 0x32, 0x33, 0x34, 0x35, 0x36, 0x37, 0x38, 0x39] = 0x29B1#16 := by decide

/-! ## Edges and time (chapter 1) -/

/-- Table 1-1 at its boundaries. -/
theorem test_classOfPeriod :
    classOfPeriod 30769 = .short ∧ classOfPeriod 30770 = .valid 30770 ∧
      classOfPeriod 57142 = .valid 57142 ∧ classOfPeriod 57143 = .gap := by decide

/-- R4, with the figures of section 1.4. -/
theorem test_frequency :
    frequencyOf 40000 = 50000 ∧ frequencyOf 40100 = 49875 ∧ frequencyOf 40216 = 49731 := by decide

/-- Section 1.4: the classes of the edges A to E of Table 1-2, and the period across the wrap. -/
theorem test_edges :
    let after (t : Count) : EdgeCapture := { (turning State.reset).edge with tPrev := some t }
    classify 1000000 EdgeCapture.reset = .gap ∧
      classify 1040000 (gapEdge 1000000 0 State.reset).edge = .valid 40000 ∧
      classify 1050000 (after 1040000) = .short ∧ classify 1080100 (after 1040000) = .valid 40100 ∧
      classify 1200000 (after 1080100) = .gap ∧ classify 23000 (after 16760000) = .valid 40216 := by
  decide

/-- Table 1-2, edge B: the signal is PRESENT with f 50,000, in either free order. -/
theorem test_edge_B :
    ([true, false].all fun b =>
      let t := validPeriodInOrder b b 1040000 40000 176 (gapEdge 1000000 0 State.reset)
      t.edge.signal == .present && t.edge.freq == some 50000 && t.time.te == 1) = true := by decide

/-- R6: a tooth period of 2,000 counts at 60 teeth is 1,000 rpm. -/
theorem test_speed : speedOf 2000 60 = 1000 := by decide

/-- R11: the day rolls over at second 86,399, and its number wraps. -/
theorem test_clock_rolls : DayClock.next ⟨65535, 86399⟩ = ⟨0, 0⟩ := by decide

/-- R13: NIGHT, 23:00 to 06:00, wraps past midnight; its end minute is outside. -/
theorem test_night :
    inWindow (1380, 360) 1380 = true ∧ inWindow (1380, 360) 0 = true ∧
      inWindow (1380, 360) 359 = true ∧ inWindow (1380, 360) 360 = false := by decide

/-- R16: a mill second takes NOMINAL_HZ from the time error, clamped at −30,000. -/
theorem test_mill_second_clamps :
    got (fun t => t.time.te) (exec .millSecond
      { State.reset with time := { State.reset.time with te := -29980 } }) = some (-30000) := by
  decide

/-- Table 1-5: from CORR_START the direction is −1, within CORR_STOP it is 0, between it is held. -/
theorem test_direction :
    chooseDirection 250 250 25 .zero = .minus ∧ chooseDirection (-250) 250 25 .zero = .plus ∧
      chooseDirection 25 250 25 .minus = .zero ∧ chooseDirection 26 250 25 .minus = .minus := by
  decide

/-- R7: three short tooth periods in a row, and a long one that ends the run. -/
theorem test_overspeed_count :
    overspeedCount 1738 1739 2 = 3 ∧ overspeedCount 1739 1739 2 = 0 := by decide

/-- R5: the loss timer's expiry makes the signal LOST and the frequency absent. -/
theorem test_loss :
    got (fun t => (t.edge.signal, t.edge.freq, t.edge.period)) (exec .lossTimerExpiry running) =
      some (.lost, none, some 40000) := by decide

/-- R5, R6: the loss timer runs from the edge's own time, the tooth silence from the acceptance. -/
theorem test_edge_timers :
    got (fun t => t.edge.lossTimer) (exec (.acceptedRisingCrossingEdge 100000 176) running) =
        some (some 199824) ∧
      got (fun t => t.edge.toothSilence) (exec (.acceptedRisingToothEdge 100000) running) =
        some (some 1000000) := by decide

/-- R57, R60, R61: timers that a count starts keep their whole length through it. -/
theorem test_timers_started_in_a_count :
    got (fun t => (t.edge.signal, t.plant.signalLoss, t.plant.collapse))
      (step { running with edge := { running.edge with lossTimer := some 1 } }) =
      some (.lost, some 2000000, some 4000000) := by decide

/-! ## Governor and firing (chapter 2) -/

/-- Section 2.5.1: N is 37,220, Δd 145 and the residue 100. -/
theorem test_pi_positive :
    piStep 512 64 100 ⟨2000, 40, 100, .normal, none, true⟩ =
      ⟨2145, 100, 100, .normal, none, true⟩ := by decide

/-- Section 2.5.2: Δd is −48 and the residue 128. -/
theorem test_pi_negative :
    piStep 512 64 (-30) ⟨2000, -10, 0, .normal, none, true⟩ =
      ⟨1952, -30, 128, .normal, none, true⟩ := by decide

/-- Section 2.5.3: a clamp at zero discards the residue. -/
theorem test_pi_clamp :
    piStep 512 64 (-400) ⟨30, -350, 10, .normal, none, true⟩ =
      ⟨0, -400, 0, .normal, none, true⟩ := by decide

/-- Table 2-1, its first period: the SAW gains. -/
theorem test_pi_saw :
    piStep 768 96 (-100) ⟨3000, 20, 50, .saw, none, true⟩ = ⟨2602, -100, 178, .saw, none, true⟩ := by
  decide

/-- R33: the steps and the trim of a demand. -/
theorem test_split :
    stepsOf 1023 = 0 ∧ stepsOf 1024 = 1 ∧ trimOf 2500 = 452 ∧ stepsOf 4096 = 3 ∧
      trimOf 4096 = 1024 := by decide

/-- Section 2.10.1: the conduction 625, the offset 16,948 and the first record of Table 2-5. -/
theorem test_firing_worked :
    interpUp ([0, 260, 0, 0, 0, 545, 620, 700] ++ List.replicate 55 0 ++ [3900, 4096]) 16 64 97 = 625 ∧
      rawOffset 625 20000 = 16948 ∧
      makePulse 1000000 176 400 16948 = [⟨1016948, 1017348, .waiting⟩] := by decide

/-- R36: a pulse is waiting, begun at once, or not made, by the lag. -/
theorem test_pulse_lag :
    makePulse 0 176 400 177 = [⟨177, 577, .waiting⟩] ∧
      makePulse 0 176 400 176 = [⟨176, 576, .delivering⟩] ∧ makePulse 0 600 400 200 = [] := by
  decide

/-! ## Plant (chapter 3) -/

/-- R66: after cold reset the plant is STOPPED with cause POWER_ON. -/
theorem test_reset_plant :
    State.reset.plant.state = .stopped ∧ State.reset.plant.cause = .powerOn := by decide

/-- R58, Table 3-3: a tooth overspeed trips the plant and lays the full ballast on. -/
theorem test_trip :
    got (fun t => (t.plant.state, t.plant.cause, t.gov.d, t.water.gate, t.shed.list))
      (exec .toothOverspeed running) = some (.tripped, .overspeed, 4096, 0, []) := by decide

/-- R64: a gate report of 5 with the signal LOST completes the stop. -/
theorem test_stop_done :
    got (fun t => (t.plant.state, t.plant.cause)) (exec (.gateSample [0, 5, 0]) (inState .stopping)) =
      some (.stopped, .stopDone) := by decide

/-- R62: a FAULT of the gate trips a running plant. -/
theorem test_gate_fault :
    got (fun t => (t.plant.state, t.plant.cause)) (exec (.gateSample [0, 9, 2]) running) =
      some (.tripped, .gateFault) := by decide

/-! ## Water (chapter 4) -/

/-- The tables of section 4.9, with the entries that its cases read. -/
def pondTables : TableStore :=
  { TableStore.reset with
    weir := ⟨[0, 0, 14, 26, 40, 56] ++ List.replicate 26 0 ++ [2900], []⟩
    pondCurve := ⟨[0, 0, 0, 0, 100, 200, 300, 400, 520, 640, 760, 880, 1000, 1000, 1000, 1000, 1000], []⟩ }

/-- The part before an evaluation of section 4.9.1. -/
def beforeEvaluation (gate level head sum : Nat) : State :=
  { running with
    tables := pondTables
    water := { running.water with
      gate := gate, level := some level, head := some head, demandSum := sum, demandCount := 500
      flow := some ({ running with tables := pondTables }.weirFlow head), evalTimer := some 10 } }

/-- Table 4-5: the targets after the evaluations A, B and C, with RESIDUAL_LOW after C alone. -/
theorem test_evaluations :
    got (fun t => (t.water.gate, t.water.flow, (t.cond .residualLow).flag))
        (exec .gateEvaluation (beforeEvaluation 520 2120 110 98000)) = some (530, some 46, false) ∧
      got (fun t => (t.water.gate, t.water.flow, (t.cond .residualLow).flag))
        (exec .gateEvaluation (beforeEvaluation 530 2100 108 1650000)) = some (510, some 45, false) ∧
      got (fun t => (t.water.gate, t.water.flow, (t.cond .residualLow).flag))
        (exec .gateEvaluation (beforeEvaluation 510 2080 70 0)) = some (490, some 23, true) := by
  decide

/-- R69: level and head are clamped. -/
theorem test_pond :
    got (fun t => (t.water.level, t.water.head)) (exec (.pondSample [0x10, 0, 0xFF, 0xFF]) running) =
      some (some 4000, some 0) := by decide

/-- R79: an evaluation with no pond level is skipped. -/
theorem test_evaluation_skipped :
    got (fun t => (t.water.gate, t.water.evalTimer))
      (exec .gateEvaluation
        { running with water := { running.water with level := none, evalTimer := some 10 } }) =
      some (400, some 0) := by decide

/-- R81: a pond curve of zeros limits the gate to GATE_RUN_MIN, and the interval is a short one. -/
theorem test_evaluation_short :
    got (fun t => (t.water.gate, t.water.shortage))
      (exec .gateEvaluation { running with water := { running.water with evalTimer := some 10 } }) =
      some (150, 10) := by decide

/-! ## Circuits and shedding (chapters 5 and 6) -/

/-- Table 5-5, samples 1, 2 and 4, and the saturated circuit of section 5.6.1. -/
theorem test_energy :
    let c (e r : Nat) : Circuit := { Circuit.blank with energy := e, residue := r }
    Circuit.charged 1200000 (c 12345 35800000) = c 12346 1000000 ∧
      Circuit.charged 1173000 (c 12346 1000000) = c 12346 2173000 ∧
      Circuit.charged 5000000 (c 12346 7233000) = c 12346 12233000 ∧
      Circuit.charged 2000000 (c 99999999 35000000) = c 99999999 1000000 ∧
      Circuit.saturates 2000000 (c 99999999 35000000) = true := by decide

/-- R116: of the CLOSED circuits of tier 2 the one of the highest index. -/
theorem test_candidate : shedCandidate 1 village = some 6 ∧ shedCandidate 3 village = none := by decide

/-- R98: the first strike opens the circuit; the third in the window locks it. -/
theorem test_limit_trip :
    got (fun t => (t.circuit 1).state) (exec (.limitTrip 1 2000) running) = some .limitOpen ∧
      got (fun t => (t.circuit 1).state) (exec (.limitTrip 1 2000)
        (modifyCircuit 1 (fun c => { c with strikes := 2, windowStart := some 0 }) running)) =
        some .locked := by decide

/-- Table 5-3: the strike count stops at 9. -/
theorem test_strikes_stop :
    got (fun t => (t.circuit 1).strikes) (exec (.limitTrip 1 2000)
      (modifyCircuit 1 (fun c => { c with strikes := 9, windowStart := some 0 }) running)) =
      some 9 := by decide

/-- R99: a reclose at tier 1 with the list not empty joins the list. -/
theorem test_reclose :
    got (fun t => ((t.circuit 3).state, t.shed.list.length)) (exec (.recloseExpiry 3) running) =
      some (.shed, 2) := by decide

/-- R104: the third differing report raises BREAKER_DISAGREE. -/
theorem test_disagree :
    got (fun t => (t.cond .breakerDisagree).flag) (exec (.breakerDisagree 0 .opened)
      (modifyCircuit 0 (fun c => { c with disagree := 2 }) running)) = some true := by decide

/-- R94: two circuits report; the second is above twice its allowance and trips. -/
theorem test_feeder :
    got (fun t => ((t.circuit 0).reading, (t.circuit 1).state))
      (exec (.feederSample 0 [2, 0, 0, 100, 1, 1, 0x03, 0xE9, 1])
        (modifyCircuit 1 (fun c => { c with dayAllow := 500 }) running)) =
      some (100, .limitOpen) := by decide

/-- R119: the shed timer's expiry sheds the candidate. -/
theorem test_shed :
    got (fun t => (t.circuit 6).state) (exec .shedTimerExpiry
      { running with shed := { running.shed with shedTimer := some 1 } }) = some .shed := by decide

/-- R125: a restore closes the circuit and empties the list. -/
theorem test_restore :
    got (fun t => ((t.circuit 2).state, t.shed.list)) (exec .restore
      { running with shed := { running.shed with restoreTimer := some ⟨2, 0⟩ } }) =
      some (.closed, []) := by decide

/-! ## The saw (chapter 7) -/

/-- R140: a START with the SAW window shut is refused. -/
theorem test_start_refused :
    got (fun t => (t.saw.state, t.saw.order.verdict, t.saw.order.lamp))
      (exec (.sawSample [2, 1, 0, 0])
        { running with saw := { running.saw with lastNumber := some 1 } }) =
      some (.idle, .refused, .stop) := by decide

/-- R149: the rundown's end orders the clutch released. -/
theorem test_rundown :
    got (fun t => (t.saw.releaseOrdered, t.saw.order.clutch)) (exec .rundownExpiry (sawIn .stopping)) =
      some (true, .release) := by decide

/-- R144: the settle timer's end in ENGAGING begins the cut, with a grant of 60 minutes. -/
theorem test_settle :
    got (fun t => (t.saw.state, t.saw.grant)) (exec .sawSettleExpiry (sawIn .engaging)) =
      some (.running, some 3600) := by decide

/-- R136, R157: a silence in RESERVING writes SAW_DENIED 4 and SAW 0, and then its CONDITION 10. -/
theorem test_silence_denies :
    got (fun t => t.journal.entries.map fun e => (e.kind, e.value))
      (exec .sawSilenceExpiry (sawIn .reserving)) =
      some [(.sawDenied, 4), (.saw, 0), (.condition, 10)] := by decide

/-- Section 7.11.2: the scales at the deficits 250, 260, 330, 120 and 0, and which are written. -/
theorem test_feed :
    let k := [1000, 1000, 950, 880, 800] ++ List.replicate 12 0
    ([250, 260, 330, 120, 0].map fun d => interpDown k 100 16 d) = [915, 908, 856, 990, 1000] ∧
      feedWritten 915 0 = true ∧ feedWritten 908 915 = false ∧ feedWritten 856 915 = true ∧
      feedWritten 990 856 = true ∧ feedWritten 1000 990 = true := by decide

/-! ## Conditions, journal, loop and management (chapters 8 to 10) -/

/-- R157: a second raise leaves the subject and the journal. -/
theorem test_raise_twice :
    let t := raise .energyLimit (some 7) (raise .energyLimit (some 3) State.reset)
    (t.cond .energyLimit).subject = some 3 ∧ t.journal.next = 2 := by decide

/-- R160: a persistent condition whose cause holds stays set. -/
theorem test_acknowledge :
    got (fun t => (t.cond .pondSilent).flag) (exec (.acknowledge 5 1 0x1FFFFFF)
      (raise .pondSilent none State.reset)) = some true ∧
      got (fun t => (t.cond .lockout).flag) (exec (.acknowledge 5 1 0x1FFFFFF)
        (raise .lockout none State.reset)) = some false := by decide

/-- R163: the 129th append drops the oldest entry. -/
theorem test_journal_full :
    let j : Journal := ⟨(List.range' 1 128).map fun q => ⟨q, none, .plant, none, 0⟩, 129⟩
    ((j.push none .plant none 0).entries.map fun e => e.seq) = List.range' 2 128 := by decide

/-- Section 8.7.1: the searches of the worked case, on the entries 1,001 to 1,128 and then on 1,041 to
1,168 of which 1,057 is LIMIT_TRIP for circuit 13. -/
theorem test_find :
    let before : Journal := ⟨(List.range' 1001 128).map fun q => ⟨q, none, .plant, none, 0⟩, 1129⟩
    let j : Journal := ⟨(List.range' 1041 128).map fun q =>
      if q = 1057 then ⟨q, none, .limitTrip, some 13, 0⟩ else ⟨q, none, .plant, none, 0⟩, 1169⟩
    before.search 1001 3 13 = (.partial_, 1033, none) ∧ j.startLost 1033 = true ∧
      j.search 1033 3 13 = (.found, 1058, some ⟨1057, none, .limitTrip, some 13, 0⟩) ∧
      j.search 1058 3 13 = (.partial_, 1090, none) ∧ j.search 1122 3 13 = (.partial_, 1154, none) ∧
      j.search 1154 3 13 = (.none, 1169, none) := by decide

/-- R169: straps of 0 and 63 give address 1. -/
theorem test_straps :
    addressOfStraps 0 = 1 ∧ addressOfStraps 63 = 1 ∧ addressOfStraps 62 = 62 := by decide

/-- R173: a request that finds eight frames waiting is discarded with LOOP_OVERRUN. -/
theorem test_overrun :
    got (fun t => (t.loop.answers.length, (t.cond .loopOverrun).flag))
      (exec (.readStatus 5 1 0) (withAnswers 8 running)) = some (8, true) := by decide

/-- Table 9-3: the slot served in turn 2 is FEEDER3's, in turn 5 GATE's. -/
theorem test_arbiter :
    let s : State := { running with
      tables := { running.tables with nodeMap := ⟨[10, 11, 12, 20, 21, 22, 23, 24, 25], []⟩ }
      loop := { running.loop with
        forward := [[2]], answers := [[3]], lastSource := .forward, lastSlot := 1
        slots := [⟨some (.gate 400), true⟩, ⟨none, false⟩, ⟨none, false⟩, ⟨none, false⟩,
          ⟨some (.feeder []), true⟩, ⟨none, false⟩, ⟨none, false⟩, ⟨none, false⟩] } }
    s.nextSource = some .slots ∧ s.nextSlot = some 4 ∧
      { s with loop := { s.loop with lastSource := .slots } }.nextSource = some .answers ∧
      (serveSlot 4 s).nextSlot = some 0 := by decide

/-- Section 9.7.1: LEVEL_LOW 2,700 alone is refused; with LEVEL_HIGH 3,200 in one request it is taken. -/
theorem test_write_pair :
    got (fun t => t.setting 38) (exec (.writeEntries 5 1 2 38 1 [0x0A, 0x8C]) State.reset) =
        some 1200 ∧
      got (fun t => (t.setting 38, t.setting 39))
        (exec (.writeEntries 5 1 2 38 2 [0x0A, 0x8C, 0x0C, 0x80]) State.reset) =
        some (2700, 3200) := by decide

/-- R182: RESTART is refused in RUN and taken in STOPPED. -/
theorem test_restart :
    got (fun t => t.plant.cause) (exec (.restart 5 1) running) = some .powerOn ∧
      got (fun t => t.plant.cause) (exec (.restart 5 1) State.reset) = some .restart := by decide

/-- R170: a frame of the part's own has been round the ring and is removed. -/
theorem test_own_frame :
    got (fun t => t.loop.forward) (exec (.frameArrival (buildFrame 63 1 0x10 [0, 1]) false) running) =
      some [] := by decide

/-! ## Witnesses: states and operands that meet the hypotheses of the statements -/

/-- The idle step, its quiet count and the loss timer's last count, at settings of at least 1. At a sampled
count: the sample that brings a run to CROSS_FILTER and to TOOTH_FILTER, the one before, a first one, one
equal to the filtered level, and one that completes a fall. A pulse whose start or end the count reaches, or
neither; a frame with two counts to send and with one; and a gap of two counts. -/
theorem witness_IdleStepPassesOneCount :
    let s := { running with edge := { running.edge with lossTimer := some 1 } }
    let timers (s : State) : List (Option Nat) :=
      [s.edge.lossTimer, s.edge.toothSilence, s.plant.signalLoss, s.plant.collapse,
        s.plant.freqOverspeed, s.saw.reserve, s.saw.settle, s.saw.confirm, s.saw.rundown, s.loop.silence]
    let sampled (xing tooth : InputFilter) (pin : Bool) : State := { running with
      edge := { running.edge with timebase := 15, xing := xing, tooth := tooth }
      pins := { running.pins with xing := pin, tooth := pin } }
    let a := sampled ⟨false, 11, 0⟩ ⟨false, 3, 0⟩ true
    let b := sampled ⟨false, 10, 0⟩ ⟨false, 0, 0⟩ true
    let c := sampled ⟨true, 11, 0⟩ ⟨true, 3, 0⟩ false
    let pulsed (ps : List Pulse) : State := { running with firing := { running.firing with pulses := ps } }
    let sending (n : Nat) : State := { running with loop := { running.loop with
      sending := some ⟨[0], some .answers, n⟩ } }
    running.pending = [] ∧ (running.edge.timebase + 1).toNat % 16 ≠ 0 ∧
      running.time.divider + 1 < 2000000 ∧ (∀ x ∈ timers running, x ≠ some 0 ∧ x ≠ some 1) ∧
      s.edge.lossTimer = some 1 ∧ s.edge.signal = .present ∧ s.plant.state = .run ∧
      s.plant.collapse = none ∧ 1 ≤ s.setting Setting.SIGNAL_LOSS_TIME ∧
      1 ≤ s.setting Setting.COLLAPSE_TIME ∧ (a.edge.timebase + 1).toNat % 16 = 0 ∧
      (∀ x ∈ timers a, x ≠ some 0 ∧ x ≠ some 1) ∧ a.firing.pulses = [] ∧
      a.pins.xing ≠ a.edge.xing.level ∧ a.setting Setting.CROSS_FILTER ≤ a.edge.xing.run + 1 ∧
      a.setting Setting.TOOTH_FILTER ≤ a.edge.tooth.run + 1 ∧
      ¬b.setting Setting.CROSS_FILTER ≤ b.edge.xing.run + 1 ∧ b.edge.tooth.run = 0 ∧
      c.pins.xing ≠ c.edge.xing.level ∧ running.pins.xing = running.edge.xing.level ∧
      a.time.divider + 1 < 2000000 ∧ running.firing.pulses = [] ∧
      (pulsed [⟨1, 9, .waiting⟩]).firing.pulses = [] ++ ⟨running.edge.timebase + 1, 9, .waiting⟩ :: [] ∧
      (pulsed [⟨0, 1, .delivering⟩]).firing.pulses =
        [] ++ ⟨0, running.edge.timebase + 1, .delivering⟩ :: [] ∧
      (sending 2).loop.sending = some ⟨[0], some .answers, 2⟩ ∧
      (sending 1).loop.sending = some ⟨[0], some .answers, 1⟩ ∧
      running.loop.sending = none ∧ 2 ≤ ({ running.loop with gap := 2 }).gap ∧
      (pulsed []).firing.pulses = [] := by decide

/-- The laws hold together of a part in RUN with a village, and a step of it answers a next state. -/
theorem witness_StepKeepsDemandLaw :
    ∃ t, demandLaw (queued .gateEvaluation running) = true ∧
      step (queued .gateEvaluation running) = .next t := ⟨_, by decide, rfl⟩

theorem witness_StepKeepsTimerAndTimeLaw :
    ∃ t, step (queued .millSecond running) = .next t ∧
      timerLaw (queued .millSecond running) = true ∧ timeLaw (queued .millSecond running) = true ∧
      signalLaw (queued .millSecond running) = true ∧ toothLaw (queued .millSecond running) = true :=
  ⟨_, rfl, by decide⟩

theorem witness_StepKeepsGateLaw :
    ∃ t, gateLaw (queued .gateEvaluation running) = true ∧
      settingsLaw (queued .gateEvaluation running) = true ∧
      step (queued .gateEvaluation running) = .next t := ⟨_, by decide, by decide, rfl⟩

theorem witness_StepKeepsSettingsLaw :
    ∃ t, settingsLaw (queued (.writeEntries 5 1 2 38 1 [4, 0]) running) = true ∧
      step (queued (.writeEntries 5 1 2 38 1 [4, 0]) running) = .next t := ⟨_, by decide, rfl⟩

theorem witness_StepKeepsNodeMapLaw :
    ∃ t, nodeMapLaw (queued (.writeEntries 5 1 1 0 1 [9]) State.reset) = true ∧
      step (queued (.writeEntries 5 1 1 0 1 [9]) State.reset) = .next t := ⟨_, by decide, rfl⟩

theorem witness_StepKeepsShedLaw :
    ∃ t, shedLaw (queued (.recloseExpiry 3) running) = true ∧
      step (queued (.recloseExpiry 3) running) = .next t := ⟨_, by decide, rfl⟩

theorem witness_StepKeepsSawLaw :
    ∃ t, sawLaw (queued .reserveTimerExpiry (sawIn .reserving)) = true ∧
      step (queued .reserveTimerExpiry (sawIn .reserving)) = .next t := ⟨_, by decide, rfl⟩

/-- A part with two waiting trim pulses. -/
def pulsed : State :=
  { running with firing := { running.firing with
      pulses := [⟨10, 20, .waiting⟩, ⟨30, 40, .waiting⟩], scheduled := 2 } }

theorem witness_StepKeepsFiringLaw :
    ∃ t, firingLaw (queued .trimPulseStart pulsed) = true ∧
      step (queued .trimPulseStart pulsed) = .next t := ⟨_, by decide, rfl⟩

/-- A part whose journal is full. -/
def journalled : State :=
  { running with journal := ⟨(List.range' 5 128).map fun q => ⟨q, none, .plant, none, 0⟩, 133⟩ }

theorem witness_StepKeepsJournalLaw :
    ∃ t, journalLaw (queued .toothOverspeed journalled) = true ∧
      step (queued .toothOverspeed journalled) = .next t := ⟨_, by decide, rfl⟩

theorem witness_StepKeepsLoopLaw :
    ∃ t, loopLaw (queued (.readStatus 5 1 0) (withAnswers 7 running)) = true ∧
      step (queued (.readStatus 5 1 0) (withAnswers 7 running)) = .next t := ⟨_, by decide, rfl⟩

theorem witness_BuiltFramePassesCheck :
    63 ≤ 63 ∧ 1 ≤ 62 ∧ 62 ≤ 62 ∧ 255 ≤ 255 ∧ (List.replicate 64 (7 : Byte)).length ≤ 64 := by decide

/-- A request, bytes after its parameters, and a full answer queue; for each code one byte fewer than it needs;
the targets and the action that are no command, of a present and of an ABSENT circuit. -/
theorem witness_FrameCarriesRequest :
    (Instr.setPlantRunup 62 7).wf = true ∧
      (Instr.setPlantRunup 62 7).request = some (62, [7, 0, 7, 1]) ∧
      ((Instr.setPlantRunup 62 7).requestFrame 1).isSome = true ∧
      (62 : Byte).toNat ≠ State.reset.loop.ownAddress ∧ State.reset.loop.ownAddress = 1 ∧
      ([7, 0, 7, 1] : List Byte).head? ≠ some 2 ∧ 3 ≤ ([7, 0, 7, 1] : List Byte).length ∧
      ([7, 0, 7, 1] ++ List.replicate 60 0 : List Byte).length ≤ 64 ∧
      (withAnswers 8 running).answerRoom = false ∧ running.answerRoom = true ∧
      ([1, 2, 3, 5, 6, 7, 8, 9, 10, 11, 12].all fun code =>
        decide (1 ≤ [0, 3, 3, 1, 0, 4, 4, 1, 6, 2, 2, 6, 4, 0].getD code 0)) = true ∧
      4 < (5 : Byte).toNat ∧ 3 < (4 : Byte).toNat ∧ (running.circuit 0).state ≠ .absent ∧
      (running.circuit 47).state = .absent ∧ 47 < (48 : Byte).toNat := by decide

/-- A failed frame, a whole one with a stop bit LOW, the timer running and stopped. -/
theorem witness_ArrivalsAndLoopSilence :
    frameOk [] = false ∧ State.reset.loop.silence = some 400000 ∧
      ({ State.reset with loop := { State.reset.loop with silence := none } }).loop.silence = none := by
  decide

/-- The three cases: an own frame, one for the part of another kind, and one to forward, with three and
with four frames held. -/
theorem witness_FrameForwarding :
    let own := buildFrame 63 1 0x10 [1]
    let mine := buildFrame 1 5 0x31 [1]
    let other := buildFrame 63 5 0x10 [1]
    frameOk own = true ∧ frameSrc own = 1 ∧
      frameOk mine = true ∧ frameSrc mine ≠ 1 ∧ frameDst mine = 1 ∧ frameKind mine ≠ 0x30 ∧
      frameOk other = true ∧ frameSrc other ≠ 1 ∧ frameDst other ≠ 1 ∧
      (∀ r < 9, State.reset.address r ≠ frameSrc other) ∧
      (List.replicate 3 other).length < 4 ∧ 4 ≤ (List.replicate 4 other).length := by decide

/-- A part whose nine roles are mapped. -/
def mappedPart : State :=
  { running with tables := { running.tables with
      nodeMap := ⟨[10, 11, 12, 20, 21, 22, 23, 24, 25], List.replicate 9 true⟩ } }

/-- The first and the last role. -/
theorem witness_SampleDispatch :
    nodeMapLaw mappedPart = true ∧
      ([(0, 10), (8, 25)].all fun x : Nat × Nat =>
        let f := buildFrame 63 x.2 0x10 [1]
        frameOk f && frameDst f == 63 && frameKind f == 0x10 && mappedPart.address x.1 == frameSrc f)
        = true := by decide

/-- A part whose only pending slot is that of FEEDER6, with the port's other fields given. -/
def arbiterPart (last : Source) (forward answers : List (List Byte)) (pending : Bool) : State :=
  { mappedPart with loop := { mappedPart.loop with
      lastSource := last, forward := forward, answers := answers
      slots := List.replicate 7 ⟨none, false⟩ ++ [⟨some (.feeder []), pending⟩] } }

/-- Each source in its turn and after each source that is passed over; no source waiting; a frame going
out. -/
theorem witness_OutputArbiter :
    let ready (s : State) (k : Nat) : Bool :=
      (s.loop.slots.getD k ⟨none, false⟩).pending && s.address (k + 1) != 0
    let quiet (s : State) : Bool := (List.range 8).all fun k => !ready s k
    let f : List Byte := [1]
    let last := (arbiterPart .forward [f] [] true).loop.lastSlot
    (arbiterPart .answers [f] [f] true).loop.forward = f :: [] ∧
      (arbiterPart .slots [f] [] true).loop.answers = [] ∧
      quiet (arbiterPart .forward [f] [] false) = true ∧
      (arbiterPart .slots [f] [f] true).loop.answers = f :: [] ∧
      quiet (arbiterPart .forward [f] [f] false) = true ∧
      quiet (arbiterPart .answers [] [f] false) = true ∧
      (arbiterPart .answers [] [f] true).loop.forward = [] ∧
      ready (arbiterPart .forward [f] [f] true) 7 = true ∧ last = 7 ∧
      (arbiterPart .forward [f] [] true).loop.sending = none ∧
      (arbiterPart .slots [] [] true).loop.slots[7]? = some ⟨some (.feeder []), true⟩ ∧
      mappedPart.address 8 ≠ 0 ∧
      (∀ k < 8, (k + 7 - last) % 8 < (7 + 7 - last) % 8 →
        ready (arbiterPart .forward [f] [f] true) k = false) ∧
      quiet (arbiterPart .slots [] [] false) = true ∧
      ({ mappedPart.loop with sending := some ⟨f, some .forward, 80⟩ }).sending.isSome = true := by
  decide

/-- A short edge of 30,769 counts, a gap of 57,143, and LOST with its timer stopped. -/
theorem witness_EdgesWithoutPeriod :
    running.edge.signal = .present ∧ running.edge.tPrev = some 0 ∧
      ((30769 : Count) - 0).toNat < 30770 ∧ 57142 < ((57143 : Count) - 0).toNat ∧
      State.reset.edge.signal = .lost ∧ State.reset.edge.lossTimer = none := by decide

/-- The shortest and the longest valid period; one from a gap edge while LOST; and in RUNUP the slowest
period of the acceptance band, the one beyond it, and counts below and at RUNUP_ACCEPT. A silent tooth input
at the entry to PRESENT; a time error that comes to its limit and one that stays inside; a reservation outside
RUN with the surplus at SAW_RESERVE_W and below it; and in RUN an empty list at the slowest period that is no
emergency. -/
theorem witness_ValidPeriod :
    let up (n : Nat) : State := { turning (inState .runup) with
      plant := { (inState .runup).plant with accept := n } }
    let f (p : Nat) : Int := (2000000000 / p : Nat)
    ValidEdge 30770 30770 running ∧ ValidEdge 57142 57142 running ∧
      ValidEdge 40000 40000 (gapEdge 0 0 State.reset) ∧ running.plant.state = .run ∧
      ValidEdge 40816 40816 (up 0) ∧ ValidEdge 40817 40817 (up 0) ∧ (up 0).plant.state = .runup ∧
      ((up 0).nominal - 1000 ≤ f 40816 ∧ f 40816 ≤ (up 0).nominal + 1000) ∧
      ¬(up 0).nominal - 1000 ≤ f 40817 ∧
      (up 48).plant.accept + 1 < (up 48).setting Setting.RUNUP_ACCEPT ∧
      (up 49).setting Setting.RUNUP_ACCEPT ≤ (up 49).plant.accept + 1 ∧
      ((gapEdge 0 0 State.reset).edge.signal = .lost ∧
        (gapEdge 0 0 State.reset).edge.toothSilent = true) ∧
      max (-30000) (min 30000 ((29999 : Int) + 1)) = 30000 ∧
      max (-30000) (min 30000 ((29998 : Int) + 1)) ≠ 30000 ∧
      ({ running.saw with state := .reserving }).state = .reserving ∧ (up 0).plant.state ≠ .run ∧
      running.setting Setting.SAW_RESERVE_W ≤ 1536 * running.setting Setting.BALLAST_W / 4096 ∧
      ¬running.setting Setting.SAW_RESERVE_W ≤ 1535 * running.setting Setting.BALLAST_W / 4096 ∧
      running.saw.state ≠ .reserving ∧ Shedding.reset.list = [] ∧ Shedding.reset.shedTimer = none ∧
      running.nominal - (running.setting Setting.EMERGENCY_DROP : Int) ≤ f 43478 ∧
      1 ≤ running.setting Setting.SHED_DELAY :=
  ⟨⟨by decide, 0, by decide⟩, ⟨by decide, 0, by decide⟩, ⟨by decide, 0, by decide⟩, by decide,
    ⟨by decide, 0, by decide⟩, ⟨by decide, 0, by decide⟩, by decide⟩

theorem witness_PiLaw : ValidEdge 40100 40100 running ∧ running.gov.engaged = true :=
  ⟨⟨by decide, 0, by decide⟩, by decide⟩

/-- At 49,000 mHz, the least frequency that engages in RUNUP, and just below it, in every plant state. -/
theorem witness_Engagement :
    ∀ p : PlantState, ValidEdge 40816 40816 (turning (inState p)) ∧
      ValidEdge 40817 40817 (turning (inState p)) ∧
      (turning (inState p)).gov.engaged = false ∧
      (turning (inState p)).nominal - 1000 ≤ ((2000000000 / 40816 : Nat) : Int) ∧
      ((2000000000 / 40817 : Nat) : Int) < (turning (inState p)).nominal - 1000 := fun p =>
  ⟨⟨Or.inl rfl, 0, by cases p <;> decide⟩, ⟨Or.inl rfl, 0, by cases p <;> decide⟩,
    by cases p <;> decide, by cases p <;> decide, by cases p <;> decide⟩

/-- A part in RUN with demand 0 and a firing map that is 2,048 from its first entry on. -/
def highMap : State :=
  { running with
    gov := { running.gov with d := 0 }
    tables := { running.tables with firingMap := ⟨List.replicate 65 2048, List.replicate 65 true⟩ } }

/-- A period at the nominal frequency, which leaves a demand above 0, and one below it from a demand of 0,
which leaves 0, where entry 0 of the map passes both guards. -/
theorem witness_BallastFiring :
    let after (p : Nat) (s : State) (b : Bool) : Nat :=
      (validPeriodInOrder b b (BitVec.ofNat 24 p) p 0 s).gov.d
    ValidEdge 40000 40000 running ∧ ValidEdge 40100 40100 highMap ∧ 1008 ≤ 1008 ∧
      ([true, false].all fun b => after 40000 running b != 0 && after 40100 highMap b == 0) = true ∧
      highMap.setting Setting.MIN_CONDUCTION <
        20050 * (4096 - highMap.tables.firingMap.vals.getD 0 0) / 4096 :=
  ⟨⟨by decide, 0, by decide⟩, ⟨by decide, 0, by decide⟩, by decide⟩

/-- R22, R43: a demand of 0 gives no trim pulse, though entry 0 of the map would let one pass. -/
theorem test_no_pulse_at_zero :
    ([true, false].all fun b =>
      let t := validPeriodInOrder b b 40100 40100 0 highMap
      t.firing.pulses == [] && t.firing.scheduled == 0) = true := by decide

/-- LOST; PRESENT in RUN; and PRESENT in STOPPING with the gate seen at 6. -/
theorem witness_LossTimerExpiry :
    State.reset.edge.signal = .lost ∧ running.edge.signal = .present ∧
      running.plant.state ≠ .stopping ∧
      (let s := { running with
          plant := { running.plant with state := .stopping }
          water := { running.water with gatePos := some 6 } }
       s.edge.signal = .present ∧ ∀ g, s.water.gatePos = some g → 5 < g) := by
  refine ⟨by decide, by decide, by decide, by decide, ?_⟩
  rintro g h
  cases h
  decide

/-- The first tooth; one below and one at the threshold; the third short one; the timer's cases. -/
theorem witness_ToothInput :
    State.reset.edge.toothSilent = true ∧
      (let e := { running.edge with toothSilent := false, lastTooth := some 0, overspeed := 2 }
       e.toothSilent = false ∧ e.lastTooth = some 0 ∧
       ((1738 : Count) - 0).toNat < running.setting 4 ∧ ¬((1739 : Count) - 0).toNat < running.setting 4 ∧
       min 3 (e.overspeed + 1) = 3 ∧ running.plant.state ≠ .tripped) ∧
      ({ running.edge with toothSilence := some 1 }).toothSilence.isSome = true ∧
      State.reset.edge.toothSilence = none := by decide

/-- The last second of a day, of a minute and of neither; each second-based timer below its limit and at
it, in the plant and saw state in which it runs. A mill second at which none of them ends, with a SAW window
that closes, in a reservation and in a cut. -/
theorem witness_MillSecond :
    let up (n : Nat) : State := { inState .runup with
      plant := { (inState .runup).plant with runupTimer := some n } }
    let down (n : Nat) : State := { inState .stopping with
      plant := { (inState .stopping).plant with stopTimer := some n } }
    let due (n : Nat) : State := { running with water := { running.water with evalTimer := some n } }
    let open_ (n : Nat) : State := modifyCircuit 3 (fun c => { c with reclose := some n }) running
    let cut (g : Nat) : Saw := { running.saw with state := .running, grant := some g }
    let closing (w : SawState) : State := { running with
      saw := { running.saw with state := w, grant := some 2 }
      time := { running.time with clock := some ⟨7, 61199⟩, sawOpen := true } }
    ({ State.reset.time with clock := some ⟨7, 86399⟩ }).clock = some ⟨7, 86399⟩ ∧
      86398 < 86399 ∧ (60 : Nat) % 60 = 0 ∧ State.reset.time.clock = none ∧
      (up 118).plant.state = .runup ∧ 118 + 1 < (up 118).setting Setting.RUNUP_TIMEOUT ∧
      (up 119).setting Setting.RUNUP_TIMEOUT ≤ 119 + 1 ∧
      (down 178).plant.state = .stopping ∧ 178 + 1 < (down 178).setting Setting.STOP_TIMEOUT ∧
      (down 179).setting Setting.STOP_TIMEOUT ≤ 179 + 1 ∧
      (due 8).plant.state = .run ∧ (due 8).water.evalTimer = some 8 ∧
      8 + 1 < (due 8).setting Setting.GATE_INTERVAL ∧ (due 9).setting Setting.GATE_INTERVAL ≤ 9 + 1 ∧
      (open_ 2).hamlet.entries.length = 48 ∧ (open_ 2).hamlet.feeders.length = 6 ∧
      ((open_ 2).circuit 3).state = .limitOpen ∧ ((open_ 2).circuit 3).reclose = some 2 ∧
      ((open_ 1).circuit 3).reclose = some 1 ∧ 1 ≤ ((open_ 1).circuit 3).tier ∧
      (open_ 1).shed.list ≠ [] ∧ (open_ 1).listed 3 = false ∧
      (cut 2).state = .running ∧ (cut 2).grant = some 2 ∧ (cut 1).grant = some 1 ∧
      (up 118).plant.runupTimer = some 118 ∧ (down 178).plant.stopTimer = some 178 ∧
      running.plant.runupTimer = none ∧ running.plant.stopTimer = none ∧
      running.water.pondSilence = none ∧ running.water.gateSilence = none ∧
      running.saw.silence = none ∧ (running.hamlet.feeders.all fun x => x.silence == none) = true ∧
      ((open_ 2).hamlet.entries.all fun c => c.state != .limitOpen || c.reclose == some 2) = true ∧
      (closing .reserving).time.sawOpen = true ∧ (closing .running).saw.state = .running ∧
      (got (fun t => t.time.sawOpen) (exec .millSecond (closing .reserving))) = some false ∧
      (got (fun t => t.time.sawOpen) (exec .millSecond (closing .running))) = some false := by decide

/-- The greatest start and end, and a window that wraps. -/
theorem witness_WindowContainment : 1439 ≤ 1439 ∧ 1440 ≤ 1440 ∧ 360 < 1380 ∧ 1380 ≤ 1439 := by decide

/-- The second 86,399 and one above it; a SAW window that closes, on each saw state that it ends; the time
errors at, inside and outside both limits. -/
theorem witness_ClockAndTimeError :
    let s (w : SawState) : State := { sawIn w with time := { (sawIn w).time with sawOpen := true } }
    State.reset.answerRoom = true ∧ 86399 < (86400 : Word32).toNat ∧ (86399 : Word32).toNat ≤ 86399 ∧
      (s .reserving).time.sawOpen = true ∧ (s .reserving).saw.state = .reserving ∧
      inWindow ((s .reserving).tables.windows.getD 2 (0, 0)) (86399 / 60) = false ∧
      inWindow ((s .reserving).tables.windows.getD 2 (0, 0)) (28800 / 60) = true ∧
      (s .engaging).saw.state = .engaging ∧ (s .running).saw.state = .running ∧
      (s .running).answerRoom = true ∧ running.time.sawOpen = false ∧
      30000 < (30001 : Word16).toInt ∧ (-30001 : Word16).toInt < -30000 ∧
      (29999 : Word16).toInt < 30000 ∧ -30000 < (29999 : Word16).toInt ∧
      (30000 : Word16).toInt = 30000 ∧ (-30000 : Word16).toInt = -30000 := by decide

/-- Each trip's plant state and timer, and the states in which none is taken. -/
theorem witness_Trips :
    let timed : Plant := { running.plant with
      signalLoss := some 1, collapse := some 1, freqOverspeed := some 1, runupTimer := some 1 }
    running.plant.state ≠ .tripped ∧ (inState .tripped).plant.state = .tripped ∧
      (inState .runup).plant.state = .runup ∧ (inState .run).plant.state = .run ∧
      (inState .tripped).plant.state ≠ .run ∧ running.plant.state ≠ .runup ∧
      timed.signalLoss.isSome = true ∧ timed.collapse.isSome = true ∧
      timed.freqOverspeed.isSome = true ∧ timed.runupTimer.isSome = true ∧
      running.plant.signalLoss = none ∧ running.plant.collapse = none ∧
      running.plant.freqOverspeed = none := by decide

/-- A part in RUN whose signal is LOST and whose gate is closed. -/
def readyToStop : State :=
  { running with
    edge := { running.edge with signal := .lost, lossTimer := none, freq := none }
    water := { running.water with gatePos := some 5 } }

/-- STOPPING with its timer running and stopped; the gate at 5; a running part with the signal PRESENT, and
one whose stop is complete at once. -/
theorem witness_StopEndsAndShortage :
    (inState .stopping).plant.state = .stopping ∧ (inState .stopping).plant.stopTimer = none ∧
      ({ running.plant with state := .stopping, stopTimer := some 0 }).stopTimer.isSome = true ∧
      ({ running.water with gatePos := some 5 }).gatePos = some 5 ∧ running.edge.signal = .present ∧
      running.plant.state = .run ∧ StopIncomplete running ∧ readyToStop.plant.state = .run ∧
      StopReady readyToStop ∧ (inState .runup).plant.state ≠ .run :=
  ⟨by decide, by decide, by decide, by decide, by decide, by decide, Or.inl (by decide), by decide,
    ⟨by decide, 5, by decide⟩, by decide⟩

/-- A part in RUNUP with DARK circuits of every tier. -/
def darkVillage : State :=
  { inState .runup with hamlet := { State.reset.hamlet with
      entries := [house 0 .dark, house 1 .dark, house 2 .dark, house 3 .dark, house 3 .dark] ++
        List.replicate 43 Circuit.blank } }

/-- With circuits to shed, and with none. -/
theorem witness_EntryToRun :
    darkVillage.plant.state = .runup ∧ shedLaw darkVillage = true ∧
      (∀ i < 48, (darkVillage.circuit i).tier ≤ 3) ∧ darkVillage.conds.length = 25 ∧
      (inState .runup).plant.state = .runup ∧ shedLaw (inState .runup) = true ∧
      (∀ i < 48, ((inState .runup).circuit i).state = .dark → ((inState .runup).circuit i).tier = 0) := by
  decide

/-- A part that passes the three checks of R52, and one for each check that fails. -/
theorem witness_SetPlantRunup :
    let ready : State := { State.reset with tables := { mappedPart.tables with
      firingMap := ⟨[], [true]⟩, weir := ⟨[], [true]⟩, pondCurve := ⟨[], [true]⟩ } }
    ready.answerRoom = true ∧ ready.plant.state = .stopped ∧ ready.tripSet = false ∧
      ready.runupReady = true ∧ State.reset.runupReady = false ∧ running.plant.state ≠ .stopped ∧
      (raise .hostTrip none ready).tripSet = true := by decide

theorem witness_SetPlantStopped :
    running.answerRoom = true ∧ running.plant.state = .run ∧ StopIncomplete running ∧
      readyToStop.answerRoom = true ∧ readyToStop.plant.state = .run ∧ StopReady readyToStop ∧
      (inState .runup).plant.state = .runup ∧ StopIncomplete (inState .runup) ∧
      (inState .stopping).plant.state = .stopping ∧ (inState .stopped).plant.state = .stopped ∧
      (inState .tripped).tripSet = false ∧ (inState .tripped).edge.signal = .lost ∧
      (turning (inState .tripped)).edge.signal = .present :=
  ⟨by decide, by decide, Or.inl (by decide), by decide, by decide, ⟨by decide, 5, by decide⟩, by decide,
    Or.inr (by rintro p ⟨⟩), by decide, by decide, by decide, by decide, by decide⟩

theorem witness_SetPlantTripped :
    running.answerRoom = true ∧ running.plant.state ≠ .tripped ∧
      (inState .tripped).answerRoom = true ∧ (inState .tripped).plant.state = .tripped ∧
      running.conds.length = 25 := by decide

/-- The first record to start and to end, each first in the list and behind another; and lists in which none
is waiting, none is delivering, and none stands. -/
theorem witness_TrimPulses :
    let begun := (startPulse pulsed).firing.pulses
    let both := (startPulse (startPulse pulsed)).firing.pulses
    pulsed.firing.pulses = [] ++ ⟨10, 20, .waiting⟩ :: [⟨30, 40, .waiting⟩] ∧
      begun = [⟨10, 20, .delivering⟩] ++ ⟨30, 40, .waiting⟩ :: [] ∧
      begun = [] ++ ⟨10, 20, .delivering⟩ :: [⟨30, 40, .waiting⟩] ∧
      both = [⟨10, 20, .delivering⟩, ⟨30, 40, .delivering⟩] ∧
      (∀ p ∈ both, p.stage = .delivering) ∧ (∀ p ∈ pulsed.firing.pulses, p.stage = .waiting) ∧
      [⟨10, 20, .waiting⟩, ⟨30, 40, .delivering⟩] =
        [(⟨10, 20, .waiting⟩ : Pulse)] ++ ⟨30, 40, .delivering⟩ :: [] ∧
      State.reset.firing.pulses = [] := by decide

/-- At the last entry, just below it, and with rising and falling tables. -/
theorem witness_TableInterpolation :
    0 < 25 ∧ [0, 5, 9].length = 2 + 1 ∧ 2 ≤ 50 / 25 ∧ 49 / 25 < 2 ∧
      [0, 5, 9].Pairwise (· ≤ ·) ∧ [9, 5, 0].Pairwise (· ≥ ·) := by decide

theorem witness_PondSample : ([0, 0, 0] : List Byte).length < 4 := by decide

/-- An OK gate away from its target; a FAULT in RUN; a closed gate in STOPPING with the signal LOST, and one
at 6 or PRESENT there; a gate that was silent. -/
theorem witness_GateSample :
    min ((0 : Byte).toNat * 256 + (5 : Byte).toNat) 1000 = 5 ∧ running.plant.state = .run ∧
      5 < min ((0 : Byte).toNat * 256 + (6 : Byte).toNat) 1000 ∧
      min ((3 : Byte).toNat * 256 + (0xF2 : Byte).toNat) 1000 = 1000 ∧
      running.edge.signal = .present ∧ running.water.gate = 400 ∧
      (inState .stopping).plant.state = .stopping ∧ (inState .stopping).edge.signal = .lost ∧
      (turning (inState .stopping)).edge.signal = .present ∧
      (inState .stopped).plant.state = .stopped ∧ (inState .tripped).plant.state = .tripped ∧
      ({ running.water with gateSilent := true }).gateSilent = true ∧
      ([0, 0] : List Byte).length < 3 := by decide

theorem witness_NodeSilence :
    ({ running.water with pondSilence := some 5 }).pondSilence.isSome = true ∧
      ({ running.water with gateSilence := some 5 }).gateSilence.isSome = true ∧
      (modifyFeeder 5 (fun f => { f with silence := some 5 }) running).feeder 5 =
        ⟨some 5, false, none⟩ := by decide

theorem witness_GateEvaluationSkipped :
    (inState .run).plant.state = .run ∧ running.water.evalTimer = some 0 ∧
      (inState .run).water.level = none := by decide

/-- A sufficient evaluation, a short one within the grace, and one that reaches it, with a stop that is
complete at once and one that is not. -/
theorem witness_GateEvaluationMade :
    let a := beforeEvaluation 520 2120 110 98000
    a.plant.state = .run ∧ a.water.evalTimer = some 10 ∧ a.water.level = some 2120 ∧
      a.water.pondSilent = false ∧ a.setting Setting.GATE_RUN_MIN ≤ a.wantedGate 2120 ∧
      running.wantedGate 2000 < running.setting Setting.GATE_RUN_MIN ∧
      889 + 10 < running.setting Setting.SHORTAGE_GRACE * 60 ∧
      running.setting Setting.SHORTAGE_GRACE * 60 ≤ 890 + 10 ∧
      StopIncomplete running ∧ StopReady readyToStop ∧
      readyToStop.wantedGate 2000 < readyToStop.setting Setting.GATE_RUN_MIN :=
  ⟨by decide, by decide, by decide, by decide, by decide, by decide, by decide, by decide,
    Or.inl (by decide), ⟨by decide, 5, by decide⟩, by decide⟩

/-- Eight records and none; a number above 7 and one twice; the last circuit of the last feeder, present
and ABSENT; a record that brings the energy to its greatest count; the only silent feeder; and the payloads
that are no fresh samples. -/
theorem witness_FeederSample :
    let s : State := { running with hamlet := { running.hamlet with
      entries := running.hamlet.entries.set 47 (house 3 .closed) } }
    let eight : List (Byte × Byte × Byte × Byte) := [7, 6, 5, 4, 3, 2, 1, 0].map fun m => (m, 0, 100, 1)
    let good (rs : List (Byte × Byte × Byte × Byte)) : Bool :=
      rs.all (fun r => decide (r.1.toNat ≤ 7)) && decide ((rs.map fun r => r.1).Nodup)
    let full : Circuit := { house 3 .closed with energy := 99999998 }
    5 < 6 ∧ eight.length ≤ 8 ∧ good eight = true ∧ good [] = true ∧
      good [(8, 0, 100, 1)] = false ∧ good [(7, 0, 100, 1), (7, 0, 90, 1)] = false ∧
      s.hamlet.entries.length = 48 ∧ s.hamlet.feeders.length = 6 ∧ s.conds.length = 25 ∧
      (s.circuit (5 * 8 + 7)).state ≠ .absent ∧ (running.circuit (5 * 8 + 7)).state = .absent ∧
      full.state ≠ .absent ∧ full.residue + 60000 * 600 = 36000000 ∧ full.energy + 1 = 99999999 ∧
      ((modifyFeeder 5 (fun f => { f with silent := true }) running).feeder 5).silent = true ∧
      ((List.range 6).all fun j => j == 5 || !(running.feeder j).silent) = true ∧
      8 < (9 : Byte).toNat ∧ ([0, 0, 0] : List Byte).length < 4 * (1 : Byte).toNat := by decide

/-- The first strike; a tenth in the window and one after it has passed; a circuit that is not CLOSED. -/
theorem witness_LimitTrip :
    let s : State := modifyCircuit 1 (fun c => { c with strikes := 9, windowStart := some 0 }) running
    1 < 48 ∧ running.hamlet.entries.length = 48 ∧ (running.circuit 1).state = .closed ∧
      (running.circuit 1).strikes = 0 ∧ (running.circuit 1).windowStart = none ∧
      (s.circuit 1).strikes = 9 ∧ (s.circuit 1).windowStart = some 0 ∧ (s.circuit 1).state = .closed ∧
      ¬s.setting Setting.STRIKE_WINDOW * 60 ≤ (s.time.count - 0).toNat ∧
      s.setting Setting.STRIKE_WINDOW * 60 ≤ (3600 - s.time.count).toNat ∧
      (running.circuit 3).state ≠ .closed := by decide

theorem witness_Reclose :
    running.hamlet.entries.length = 48 ∧ (running.circuit 3).state = .limitOpen ∧
      1 ≤ (running.circuit 3).tier ∧ running.shed.list ≠ [] ∧ running.plant.state = .run ∧
      running.listed 3 = false ∧ (running.circuit 1).state ≠ .limitOpen ∧
      ({ running with shed := Shedding.reset }).shed.list = [] := by decide

/-- An ABSENT entry; a present one with a disagree count below 2, of 2 and of 3. -/
theorem witness_BreakerAgreement :
    running.hamlet.entries.length = 48 ∧ (running.circuit 47).state = .absent ∧
      (running.circuit 0).state ≠ .absent ∧ (running.circuit 0).disagree < 2 ∧
      ((modifyCircuit 0 (fun c => { c with disagree := 2 }) running).circuit 0).disagree = 2 ∧
      3 ≤ ((modifyCircuit 0 (fun c => { c with disagree := 3 }) running).circuit 0).disagree := by
  decide

theorem witness_CircuitAdmin :
    let empty : State := { running with shed := Shedding.reset }
    running.answerRoom = true ∧ running.hamlet.entries.length = 48 ∧ 47 < (48 : Byte).toNat ∧
      (47 : Byte).toNat ≤ 47 ∧ (running.circuit 47).state = .absent ∧
      (running.circuit 5).state = .off ∧ 1 ≤ (running.circuit 5).tier ∧ running.listed 5 = false ∧
      (running.circuit 4).state = .locked ∧ 1 ≤ (running.circuit 4).tier ∧ running.listed 4 = false ∧
      running.shed.list ≠ [] ∧ empty.shed.list = [] ∧ (empty.circuit 4).state = .locked ∧
      (running.circuit 2).state = .shed ∧ (running.circuit 0).state = .closed ∧
      (inState .stopped).plant.state ≠ .run ∧ running.plant.state = .run ∧
      ((modifyCircuit 5 (fun c => { c with tier := 0 }) running).circuit 5).tier = 0 ∧
      ((modifyCircuit 4 (fun c => { c with tier := 0 }) running).circuit 4).tier = 0 := by decide

theorem witness_ShedCandidate :
    shedCandidate 1 village = some 6 ∧ shedCandidate 3 village = none := by decide

/-- Eight slots; the expiry with a candidate and without; an update at 45,999 mHz (an emergency, with the
lockout at 0 and at 1) and at 46,000, in every saw state; a list whose newest entry is the restore candidate
at rest alone, its cause being SAW; a candidate being timed, with its delay passed or not, and an empty list;
a reservation with a settle time to run, and one that finds SAW_RESERVE_W. -/
theorem witness_ShedTimerExpiry :
    let f (p : Nat) : Int := (2000000000 / p : Nat)
    let limit := running.nominal - (running.setting Setting.EMERGENCY_DROP : Int)
    let list : List ShedEntry := [⟨2, .frequency, 500, none⟩, ⟨6, .saw, 500, none⟩]
    running.hamlet.entries.length = 48 ∧ running.loop.slots.length = 8 ∧ running.plant.state = .run ∧
      ({ running.shed with shedTimer := some 4000000 }).shedTimer.isSome = true ∧
      shedCandidate 1 running.hamlet.entries = some 6 ∧ running.listed 6 = false ∧
      shedCandidate 1 State.reset.hamlet.entries = none ∧ running.shed.shedTimer = none ∧
      (∀ w, ValidEdge 43479 43479 (sawIn w)) ∧ ValidEdge 43478 43478 running ∧ f 43479 < limit ∧
      ¬f 43478 < limit ∧ running.shed.lockout ≤ 1 ∧ ¬(10 : Nat) ≤ 1 ∧
      1 ≤ running.setting Setting.SHED_DELAY ∧ 1 ≤ running.setting Setting.RESTORE_DELAY ∧
      (list.getLast?.map fun c => c.circuit) = some 6 ∧
      ((list.filter fun y => y.cause != .saw).getLast?.map fun c => c.circuit) = some 2 ∧
      (running.circuit 2).state = .shed ∧
      running.setting Setting.RESTORE_DELAY * 2000000 ≤ 19956521 + 43479 ∧
      ¬running.setting Setting.RESTORE_DELAY * 2000000 ≤ 19956520 + 43479 ∧
      Shedding.reset.list = [] ∧ (sawIn .reserving).saw.settle.isSome = true ∧
      running.setting Setting.SAW_RESERVE_W ≤ 1536 * running.setting Setting.BALLAST_W / 4096 :=
  ⟨by decide, by decide, by decide, by decide, by decide, by decide, by decide, by decide,
    fun w => ⟨Or.inl rfl, 0, by cases w <;> decide⟩, ⟨by decide, 0, by decide⟩, by decide⟩

/-- The newest entry, being timed, with the saw at rest; the entry behind it, of cause FREQUENCY, with the saw
RUNNING; and each case in which nothing is restored. -/
theorem witness_Restore :
    let listed (w : SawState) (r : Option RestoreTimer) : State := { sawIn w with
      shed := { running.shed with
        list := [⟨2, .frequency, 500, none⟩, ⟨6, .saw, 500, none⟩], restoreTimer := r } }
    let newest : Option ShedEntry := some ⟨2, .frequency, 500, none⟩
    let s : State := { running with shed := { running.shed with restoreTimer := some ⟨2, 0⟩ } }
    let t := listed .running (some ⟨2, 0⟩)
    let margin := s.setting Setting.RESTORE_MARGIN
    s.hamlet.entries.length = 48 ∧ s.plant.state = .run ∧ s.saw.state = .idle ∧
      s.shed.list.getLast? = newest ∧ s.shed.restoreTimer = some ⟨2, 0⟩ ∧
      500 + margin ≤ s.gov.d * s.setting Setting.BALLAST_W / 4096 ∧ (s.circuit 2).state = .shed ∧
      t.saw.state = .running ∧ (t.shed.list.filter fun y => y.cause != .saw).getLast? = newest ∧
      t.shed.restoreTimer = some ⟨2, 0⟩ ∧ (t.circuit 2).state = .shed ∧
      State.reset.plant.state ≠ .run ∧ Shedding.reset.list.getLast? = none ∧
      running.shed.restoreTimer = none ∧ (sawIn .engaging).saw.state = .engaging ∧
      ((listed .running (some ⟨6, 0⟩)).shed.restoreTimer.map fun r => r.circuit) ≠ some 2 ∧
      ¬500 + margin ≤ 0 * s.setting Setting.BALLAST_W / 4096 := by decide

/-- A new number, the last number again, and no number known in every saw state; a part that takes a START,
and one for each of its three refusals; every saw state, in ENGAGING with the clutch seen and not; a grant at
EXTEND_MIN_LEFT and below it; a silent saw. -/
theorem witness_SawSample :
    let s (w : MillTime) (k : Table) : State := { running with
      saw := { running.saw with lastNumber := some 40 }
      time := w, tables := { running.tables with feedCurve := k } }
    let openAt : MillTime := { running.time with sawOpen := true }
    let a := s openAt ⟨[], [true]⟩
    running.saw.state = .idle ∧ a.saw.lastNumber = some (40 : Byte).toNat ∧ (41 : Byte) ≠ 40 ∧
      a.plant.state = .run ∧ a.time.sawOpen = true ∧ a.tables.feedCurve.ready = true ∧
      (s openAt ⟨[], [false]⟩).tables.feedCurve.ready = false ∧
      (s running.time ⟨[], [true]⟩).time.sawOpen = false ∧
      State.reset.plant.state ≠ .run ∧ running.saw.lastNumber = none ∧
      ([SawState.idle, .reserving, .engaging, .running, .stopping].all fun w =>
        (sawIn w).saw.state == w && (sawIn w).saw.silent && (sawIn w).saw.lastNumber == none) = true ∧
      (sawIn .engaging).saw.engagedSeen = false ∧ (sawIn .stopping).saw.releaseOrdered = false ∧
      ({ running.saw with engagedSeen := true }).engagedSeen = true ∧
      ({ running.saw with releaseOrdered := true }).releaseOrdered = true ∧
      running.setting Setting.EXTEND_MIN_LEFT * 60 ≤ 180 ∧
      ¬running.setting Setting.EXTEND_MIN_LEFT * 60 ≤ 179 ∧
      3 < (4 : Byte).toNat ∧ 2 ≤ (2 : Byte).toNat ∧ ([1, 0, 0] : List Byte).length < 4 := by decide

/-- Eight slots; every saw state with its timers running, and all of them stopped; a demand update that finds
a surplus at SAW_RESERVE_W and one below it, with a settle time to run and without, and with a candidate at
SAW_FLOOR and none. -/
theorem witness_SawTimersAndSilence :
    let s : State := { sawIn .reserving with
      saw := { (sawIn .reserving).saw with settle := none }
      shed := Shedding.reset }
    ([SawState.idle, .reserving, .engaging, .running, .stopping].all fun w =>
      (sawIn w).saw.state == w && (sawIn w).saw.reserve.isSome && (sawIn w).saw.settle.isSome &&
        (sawIn w).saw.confirm.isSome && (sawIn w).saw.rundown.isSome && (sawIn w).saw.silence.isSome)
      = true ∧ (sawIn .idle).loop.slots.length = 8 ∧
      (∀ w, ValidEdge 40000 40000 (sawIn w)) ∧ ValidEdge 40000 40000 s ∧ s.saw.state = .reserving ∧
      s.saw.settle = none ∧ s.plant.state = .run ∧ s.hamlet.entries.length = 48 ∧
      (∀ x ∈ s.shed.list, x.cause ≠ .saw →
        0 < x.load + s.setting Setting.RESTORE_MARGIN) ∧
      s.nominal - (s.setting Setting.EMERGENCY_DROP : Int) ≤ ((2000000000 / 40000 : Nat) : Int) ∧
      shedCandidate (s.setting Setting.SAW_FLOOR) s.hamlet.entries = some 6 ∧ s.listed 6 = false ∧
      1 ≤ (s.circuit 6).tier ∧ 1 ≤ s.setting Setting.RESTORE_DELAY ∧ running.saw.reserve = none ∧
      running.saw.settle = none ∧ running.saw.confirm = none ∧ running.saw.rundown = none ∧
      running.saw.silence = none ∧
      shedCandidate (s.setting Setting.SAW_FLOOR) State.reset.hamlet.entries = none ∧
      s.setting Setting.SAW_RESERVE_W ≤ 1536 * s.setting Setting.BALLAST_W / 4096 ∧
      ¬s.setting Setting.SAW_RESERVE_W ≤ 1535 * s.setting Setting.BALLAST_W / 4096 :=
  ⟨by decide, by decide, fun w => ⟨Or.inl rfl, 0, by cases w <;> decide⟩,
    ⟨by decide, 0, by decide⟩, by decide⟩

/-- A place and no place in the answer queue; the spans at their bounds, by the entries of a table and by its
bytes; tables that there are not; a section and a code too high; the lengths of the lists of a part. -/
theorem witness_ReadingRequests :
    let fits (size width first count : Nat) : Bool :=
      decide (1 ≤ count) && decide (first + count ≤ size) && decide (count * width ≤ 58)
    (withAnswers 7 running).answerRoom = true ∧ (withAnswers 8 running).answerRoom = false ∧
      (Instr.readStatus 5 1 0).request.isSome = true ∧
      fits 57 2 28 29 = true ∧ fits 57 2 27 30 = false ∧ fits 57 2 29 29 = false ∧
      fits 9 1 0 9 = true ∧ fits 9 1 1 9 = false ∧ fits 65 2 64 1 = true ∧ fits 33 2 32 1 = true ∧
      fits 17 2 0 17 = true ∧ fits 3 4 0 3 = true ∧ fits 48 24 46 2 = true ∧ fits 48 24 0 3 = false ∧
      fits running.shed.list.length 8 0 1 = true ∧ fits running.shed.list.length 8 1 1 = false ∧
      fits 8 8 0 7 = true ∧ fits 8 8 0 8 = false ∧ fits 10 4 0 10 = true ∧
      10 < (11 : Byte).toNat ∧
      running.loop.slots.length = 8 ∧ running.hamlet.feeders.length = 6 ∧ running.conds.length = 25 ∧
      3 < (4 : Byte).toNat ∧ 13 < (14 : Byte).toNat ∧ running.loop.held = false ∧
      ([7, 0] : List Byte).length < 3 := by decide

/-- LEVEL_LOW and LEVEL_HIGH in one span, in order and out of it, and out of range; a span with NOMINAL_HZ
outside STOPPED; GATE_START in RUNUP and GATE_RUN_MIN raised in RUN; spans of the firing map out of range, out
of order within and at its edge, and in place; a feed curve that may only fall; tables and spans that are
refused. -/
theorem witness_WriteEntries :
    let old := State.reset.tables
    let after (new : List Nat) : List Nat := overwritten old.settings.vals 38 new
    let paired (new : List Nat) : Bool :=
      settingPairs.all fun p =>
        !(p.1 == 38 || p.2 == 39) || decide ((after new).getD p.1 0 < (after new).getD p.2 0)
    let up (a b : Nat) : Bool := decide (a ≤ b)
    let down (a b : Nat) : Bool := decide (b ≤ a)
    let firing (first : Nat) (new : List Nat) : ReqOutcome :=
      spanFault up 4096 (overwritten old.firingMap.vals first new) first new.length
    let feed (new : List Nat) : ReqOutcome :=
      spanFault down 1000 (overwritten old.feedCurve.vals 0 new) 0 new.length
    State.reset.answerRoom = true ∧ old.settings.vals.length = 57 ∧ old.settings.marks.length = 57 ∧
      38 + 2 ≤ 57 ∧ paired [2700, 3200] = true ∧ paired [2700, 2700] = false ∧
      settingInRange 38 2700 = true ∧ settingInRange 39 3200 = true ∧ settingInRange 38 4001 = false ∧
      running.plant.state ≠ .stopped ∧ (inState .runup).plant.state = .runup ∧
      running.plant.state = .run ∧ running.water.gate < 401 ∧ settingInRange 36 401 = true ∧
      old.firingMap.vals.length = 65 ∧ old.firingMap.marks.length = 65 ∧
      firing 63 [4096, 4097] = .badValue ∧ firing 63 [4095, 4096] = .done ∧
      firing 63 [4096, 4095] = .order ∧ firing 62 [1, 1] = .order ∧
      feed (List.replicate 17 1000) = .done ∧ feed [1000, 999] = .done ∧ feed [999, 1000] = .order ∧
      old.weir.vals.length = 33 ∧ old.weir.marks.length = 33 ∧
      old.pondCurve.vals.length = 17 ∧ old.pondCurve.marks.length = 17 ∧
      old.feedCurve.vals.length = 17 ∧ old.feedCurve.marks.length = 17 ∧
      10 < (11 : Byte).toNat ∧ 9 ≤ (10 : Byte).toNat ∧ 56 < (29 : Byte).toNat * 2 ∧
      48 < (47 : Byte).toNat + (2 : Byte).toNat ∧ ([0] : List Byte).length < (1 : Byte).toNat * 2 := by
  decide

/-- The node map of a mapped part in STOPPED and in RUN: a span that swaps two roles, one with an address
above 62, the own one, another role's, and one that frees a role; windows at their bounds, one above each, and
one that closes SAW. -/
theorem witness_WriteEntries_nodes_and_windows :
    let s : State := { mappedPart with plant := Plant.reset }
    let bad (first : Nat) (new : List Nat) : Bool :=
      let after := overwritten s.tables.nodeMap.vals first new
      (after.any fun a => decide (62 < a) || a == s.loop.ownAddress) ||
        (List.range 9).any fun r => (List.range r).any fun q =>
          after.getD r 0 == after.getD q 0 && after.getD r 0 != 0
    s.answerRoom = true ∧ s.tables.nodeMap.vals.length = 9 ∧ s.tables.nodeMap.marks.length = 9 ∧
      s.plant.state = .stopped ∧ mappedPart.plant.state ≠ .stopped ∧ 7 + 2 ≤ 9 ∧
      bad 7 [25, 24] = false ∧ bad 7 [25] = true ∧ bad 8 [63] = true ∧ bad 8 [62] = false ∧
      bad 8 [1] = true ∧ bad 7 [0, 0] = false ∧ s.address 7 = 24 ∧ s.address 8 = 25 ∧
      s.tables.windows.length = 3 ∧ s.tables.windowMarks.length = 3 ∧ 2 + 1 ≤ 3 ∧
      1439 < (1440 : Word16).toNat ∧ 1440 < (1441 : Word16).toNat ∧ (1439 : Word16).toNat = 1439 ∧
      (1440 : Word16).toNat = 1440 ∧ ({ s.time with sawOpen := true }).sawOpen = true ∧
      inWindow (480, 480) 500 = false ∧ s.time.clock = none ∧
      ({ s.time with clock := some ⟨0, 0⟩ }).clock = some ⟨0, 0⟩ := by decide

/-- Circuits: the fields out of range; a used circuit whose label changes, behind an entry that passes; ABSENT
entries made present, in RUN at tier 0 and above it, and outside RUN; a DARK one made absent. -/
theorem witness_WriteEntries_circuits :
    let new : CircuitFields := ⟨1, 999, 3, 0, 0, 65535⟩
    running.answerRoom = true ∧ running.hamlet.entries.length = 48 ∧
      running.tables.circuitMarks.length = 48 ∧ 43 + 5 ≤ 48 ∧
      (new.present ≤ 255 ∧ new.label ≤ 999 ∧ new.tier ≤ 3 ∧ new.nightAllow ≤ 65535) ∧
      1 < 2 ∧ 999 < 1000 ∧ 3 < 4 ∧ (running.circuit 0).state = .closed ∧
      (running.circuit 0).label ≠ new.label ∧ (running.circuit 5).state = .off ∧
      (running.circuit 6).state = .closed ∧
      ((List.range 5).all fun k => !(running.circuit (43 + k)).present && !running.listed (43 + k)) = true ∧
      running.plant.state = .run ∧ darkVillage.plant.state ≠ .run ∧
      (darkVillage.circuit 1).state = .dark ∧ (darkVillage.circuit 1).present = true ∧
      (darkVillage.circuit 47).present = false := by decide

/-- A set with bit 25 and one of all the conditions; a persistent condition whose cause holds, one whose
cause has ended, and one that is not persistent. -/
theorem witness_AcknowledgeAndNotices :
    let s := raise .lockout none (causeEnd .gateSilent
      (raise .gateSilent none (raise .pondSilent none running)))
    let active (c : Condition) : Bool :=
      (s.cond c).flag && decide (6 ≤ c.num) && decide (c.num ≤ 12) && (s.cond c).cause
    running.answerRoom = true ∧ s.conds.length = 25 ∧
      2 ^ 25 ≤ (0x2000000 : Word32).toNat ∧ (0x1FFFFFF : Word32).toNat < 2 ^ 25 ∧
      active .pondSilent = true ∧ active .gateSilent = false ∧ active .lockout = false ∧
      (s.cond .gateSilent).flag = true ∧ (s.cond .lockout).flag = true := by decide

/-- The oldest and the newest sequence held, one above the newest, and one no longer held. -/
theorem witness_JournalRead :
    journalled.answerRoom = true ∧ journalLaw journalled = true ∧
      (journalled.journal.entries.head?.map fun e => e.seq) = some (5 : Word32).toNat ∧
      (journalled.journal.entries.getLast?.map fun e => e.seq) = some (132 : Word32).toNat ∧
      journalled.journal.next ≤ (133 : Word32).toNat ∧
      (4 : Word32).toNat < journalled.journal.next ∧
      (∀ e ∈ journalled.journal.entries, e.seq ≠ (4 : Word32).toNat) := by decide

/-- A full journal of PLANT entries, sequences 5 to 132: a filter that every entry matches and one that none
does; a start below the oldest, from which 128 entries stand, of which the 32nd is 36; one from which 32
stand; one at the next sequence and one above it; an empty journal with a start below its next sequence;
filters at and beyond their bounds. -/
theorem witness_JournalAppendAndFind :
    let from_ (start : Nat) : List JournalEntry :=
      journalled.journal.entries.filter fun e => decide (start ≤ e.seq)
    let hit (kind : Byte) (e : JournalEntry) : Bool := kind == 255 || e.kind.code == kind.toNat
    journalled.answerRoom = true ∧ journalLaw journalled = true ∧
      (journalled.journal.entries.head?.map fun e => e.seq) = some 5 ∧
      ((from_ 4).head?.map fun e => hit 0 e && hit 255 e && !hit 1 e) = some true ∧
      ((from_ 4).all fun e => !hit 14 e) = true ∧ (from_ 4).length = 128 ∧
      ((from_ 4)[31]?.map fun e => e.seq) = some 36 ∧ (from_ 101).length = 32 ∧ from_ 133 = [] ∧
      (133 : Word32).toNat ≤ journalled.journal.next ∧ journalled.journal.next < (134 : Word32).toNat ∧
      journalLaw State.reset = true ∧ State.reset.journal.entries = [] ∧
      (0 : Word32).toNat < State.reset.journal.next ∧
      14 < (15 : Byte).toNat ∧ (15 : Byte) ≠ 255 ∧ 47 < (48 : Byte).toNat ∧ (48 : Byte) ≠ 255 ∧
      ¬14 < (14 : Byte).toNat ∧ ¬47 < (47 : Byte).toNat := by decide

/-- R164: without a match 32 of the 128 entries held are examined, and the search resumes behind them; a start
before the oldest is marked. -/
theorem test_find_partial :
    journalled.journal.search 0 1 255 = (.partial_, 37, none) ∧
      journalled.journal.search 101 1 255 = (.none, 133, none) ∧
      journalled.journal.startLost 4 = true ∧ journalled.journal.startLost 5 = false := by decide

/-- A tripped part with no cause holding; one with every cause but LOOP_BROKEN's; and a part in RUN. -/
theorem witness_Restart :
    let s := inState .tripped
    let held : State := { turning s with
      edge := { (turning s).edge with toothSilent := true }
      time := { s.time with te := -30000 }
      water := { s.water with pondSilent := true, gateSilent := true }
      hamlet := { s.hamlet with feeders := s.hamlet.feeders.set 5 ⟨none, true, none⟩ }
      saw := { s.saw with silent := true } }
    s.answerRoom = true ∧ s.plant.state = .tripped ∧ s.conds.length = 25 ∧
      (s.edge.shaftCause || (s.edge.toothSilent && s.edge.signal == .present)) = false ∧
      (s.time.te == -30000 || s.time.te == 30000) = false ∧ s.water.pondSilent = false ∧
      s.water.gateSilent = false ∧ (s.hamlet.feeders.any fun x => x.silent) = false ∧
      s.saw.silent = false ∧ s.loop.broken = false ∧
      held.answerRoom = true ∧ held.plant.state = .tripped ∧ held.conds.length = 25 ∧
      (held.edge.shaftCause || (held.edge.toothSilent && held.edge.signal == .present)) = true ∧
      (held.time.te == -30000 || held.time.te == 30000) = true ∧
      (held.hamlet.feeders.any fun x => x.silent) = true ∧
      running.plant.state = .run ∧ running.answerRoom = true := by decide

/-- A part whose notice is offered, and ones with the flag set, the enable off and no place free. -/
theorem witness_RaiseAndCauseEnd :
    let s : State := { running with
      conds := running.conds.set 18 ⟨false, true, false, none⟩
      tables := { running.tables with settings := { running.tables.settings with
        vals := running.tables.settings.vals.set 54 5 } } }
    s.conds.length = 25 ∧ Condition.lockout.num = 18 ∧ Condition.overspeed ≠ .lockout ∧
      (s.cond .lockout).flag = false ∧
      (s.cond .lockout).notice = true ∧ s.setting Setting.NOTICE_ADDRESS ≠ 0 ∧ s.answerRoom = true ∧
      ((raise .lockout none s).cond .lockout).flag = true ∧
      (running.cond .lockout).notice = false ∧ (withAnswers 8 s).answerRoom = false := by decide

end Sys2Proof.Tests
end

section
namespace Sys2Proof.Proofs
open Sys2Proof.Machine

/-! What `inWindow` answers on each of its three branches: an unwrapped window, a wrapped one, an empty one. -/

theorem inWindow_iff_of_lt {a b : Nat} (m : Nat) (h : a < b) :
    inWindow (a, b) m = true ↔ a ≤ m ∧ m < b := by
  simp [inWindow, h]

theorem inWindow_iff_of_gt {a b : Nat} (m : Nat) (h : b < a) :
    inWindow (a, b) m = true ↔ a ≤ m ∨ m < b := by
  simp [inWindow, h, h.not_gt]

@[simp] theorem inWindow_self (a m : Nat) : inWindow (a, a) m = false := by
  simp [inWindow]

/-- R13's reading of a window as one condition. -/
theorem inWindow_iff (a b m : Nat) :
    inWindow (a, b) m = true ↔ (a < b ∧ a ≤ m ∧ m < b) ∨ (b < a ∧ (a ≤ m ∨ m < b)) := by
  rcases Nat.lt_trichotomy a b with h | rfl | h
  · simp [inWindow_iff_of_lt m h, h, h.not_gt]
  · simp
  · simp [inWindow_iff_of_gt m h, h, h.not_gt]

/-- A window is half open: it stops before its end, wrapped or not. -/
theorem inWindow_end (a b : Nat) : inWindow (a, b) b = false := by
  rw [← Bool.not_eq_true, inWindow_iff]
  omega

/-- Settles O29: R13's condition, from which each of the special cases follows. -/
theorem windowContainment : Obligations.WindowContainment := by
  intro a b m _ _
  refine ⟨inWindow_iff a b m, ?emptyWindow, inWindow_end a b, ?wholeDay⟩
  case emptyWindow =>
    rintro rfl
    exact inWindow_self a m
  case wholeDay =>
    intro hm
    rw [inWindow_iff_of_lt m (by decide : 0 < 1440)]
    omega

end Sys2Proof.Proofs
end

section
namespace Sys2Proof.Proofs
open Sys2Proof.Machine Sys2Proof.Safety

/-! ## An accepted valid period

What stands between the command and the Governor's update: the edge is classified as a valid period, and the
blocks that take the period before or after the Governor leave what the PI law reads and writes. -/

/-- The spacing of a valid edge is classified as a valid period (R3, R5). -/
theorem classify_of_validEdge {t : Count} {p : Nat} {s : State} (h : ValidEdge t p s) :
    classify t s.edge = .valid p := by
  obtain ⟨hsignal, prev, hprev, hspacing, hlow, hhigh⟩ := h
  have hclass : classOfPeriod (t - prev).toNat = .valid p := by
    rw [hspacing, classOfPeriod, if_neg (by omega), if_pos hhigh]
  cases hs : s.edge.signal with
  | present => simp only [classify, hs, hprev, hclass]
  | lost =>
    obtain ⟨left, htimer⟩ : ∃ left, s.edge.lossTimer = some left :=
      Option.isSome_iff_exists.mp (hsignal.resolve_left (by simp [hs]))
    simp only [classify, hs, hprev, htimer, hclass]

/-- The command's meaning at a valid edge: the level is accepted and the period is taken. -/
theorem exec_acceptedRisingCrossingEdge_of_validEdge {t : Count} {p : Nat} {s : State} (lag : Nat)
    (h : ValidEdge t p s) :
    exec (.acceptedRisingCrossingEdge t lag) s =
      .next (validPeriod t p lag (acceptLevel .xing true s)) := by
  have hclass : classify t (acceptLevel .xing true s).edge = .valid p := classify_of_validEdge h
  change Host.Outcome.next (crossingEdge t lag (acceptLevel .xing true s)) = _
  rw [crossingEdge, hclass]

/-- A change of the time error leaves the correction direction (R16, R19). -/
@[simp] theorem addTimeError_direction (x : Int) (s : State) :
    (addTimeError x s).time.direction = s.time.direction := by
  simp [addTimeError]

/-- The entry to RUN leaves the Governor and the mill time (R19, R26). -/
theorem enterPlant_run_frame (cause : Cause) (s : State) :
    (enterPlant .run cause s).gov = s.gov ∧ (enterPlant .run cause s).time = s.time := by
  simp [enterPlant, sawEntry, timeEntry, governorEntry]

/-- The acceptance count, with the entry to RUN it may make, leaves the Governor and the mill time. -/
theorem acceptPeriod_gov_time (f : Nat) (s : State) :
    (acceptPeriod f s).gov = s.gov ∧ (acceptPeriod f s).time = s.time := by
  have haccepted : ∀ u, (runupAccepted u).gov = u.gov ∧ (runupAccepted u).time = u.time := by
    intro u
    unfold runupAccepted
    split
    · simp [enterPlant_run_frame]
    · simp
  unfold acceptPeriod
  dsimp only
  repeat' split
  all_goals simp [haccepted]

/-- The Plant State Controller takes a period without a change of the Governor or the mill time. -/
theorem plantPeriod_gov_time (f : Nat) (s : State) :
    (plantPeriod f s).gov = s.gov ∧ (plantPeriod f s).time = s.time := by
  simp [plantPeriod, acceptPeriod_gov_time]

/-- At a demand update the Saw Coordinator changes nothing of the Governor but the pending set: at the entry
to ENGAGING it requests the SAW set (R29, R143). -/
theorem sawUpdate_gov (f : Nat) (s : State) :
    ∃ g, (sawUpdate f s).gov = { s.gov with pendingSet := g } := by
  have hreserve : ∃ g, (reserveUpdate s).gov = { s.gov with pendingSet := g } := by
    unfold reserveUpdate
    split
    · exact ⟨_, by simp [enterEngaging]; rfl⟩
    · refine ⟨s.gov.pendingSet, ?_⟩
      repeat' split
      all_goals simp
  cases hw : s.saw.state with
  | reserving => simpa [sawUpdate, hw] using hreserve
  | running | idle | engaging | stopping => exact ⟨s.gov.pendingSet, by simp [sawUpdate, hw]⟩

/-- In either order the observers of a demand update leave the Governor but its pending set. -/
theorem observersInOrder_gov (shedFirst : Bool) (f : Nat) (e : Int) (p : Nat) (s : State) :
    ∃ g, (observersInOrder shedFirst f e p s).gov = { s.gov with pendingSet := g } := by
  cases shedFirst with
  | true => simpa [observersInOrder] using sawUpdate_gov f (sheddingUpdate f e p s)
  | false => simpa [observersInOrder] using sawUpdate_gov f s

/-- The Governor after a demand update is as its own part of the update left it, but for the pending set. -/
theorem demandUpdates_gov (shedFirst : Bool) (f p : Nat) (t : Count) (lag : Nat) (s : State) :
    ∃ g, (demandUpdates shedFirst f p t lag s).gov =
      { (governorUpdate f s).gov with pendingSet := g } := by
  simpa [demandUpdates] using observersInOrder_gov shedFirst f (s.freqError f) p
    (demandUpdate (firingUpdate p t lag (governorUpdate f s)))

/-! ## The PI law (R24) -/

/-- `N` of the PI law: the proportional and the integral term with the residue carried over. -/
def lawSum (kp ki : Nat) (e : Int) (g : Governor) : Int := kp * (e - g.ePrev) + ki * e + g.residue

/-- The demand that the PI law asks for, before it is clamped. -/
def lawDemand (kp ki : Nat) (e : Int) (g : Governor) : Int := g.d + lawSum kp ki e g / 256

theorem piStep_of_demand_neg {kp ki : Nat} {e : Int} {g : Governor} (h : lawDemand kp ki e g < 0) :
    piStep kp ki e g = { g with d := 0, residue := 0, ePrev := e } := if_pos h

theorem piStep_of_demand_high {kp ki : Nat} {e : Int} {g : Governor} (h : 4096 < lawDemand kp ki e g) :
    piStep kp ki e g = { g with d := 4096, residue := 0, ePrev := e } := by
  have hneg : ¬lawDemand kp ki e g < 0 := by omega
  exact (if_neg hneg).trans (if_pos h)

theorem piStep_of_demand_inRange {kp ki : Nat} {e : Int} {g : Governor}
    (hlow : 0 ≤ lawDemand kp ki e g) (hhigh : lawDemand kp ki e g ≤ 4096) :
    piStep kp ki e g =
      { g with d := (lawDemand kp ki e g).toNat, residue := (lawSum kp ki e g % 256).toNat, ePrev := e } :=
  (if_neg hlow.not_gt).trans (if_neg hhigh.not_gt)

/-- Whatever the demand, the PI step stores the error. -/
@[simp] theorem piStep_ePrev (kp ki : Nat) (e : Int) (g : Governor) : (piStep kp ki e g).ePrev = e := by
  unfold piStep; dsimp only; repeat' split
  all_goals rfl

/-- Whatever the demand, the PI step keeps the engaged flag. -/
@[simp] theorem piStep_engaged (kp ki : Nat) (e : Int) (g : Governor) :
    (piStep kp ki e g).engaged = g.engaged := by
  unfold piStep; dsimp only; repeat' split
  all_goals rfl

/-- A gain up to 4,095 times a value of magnitude up to `m`. -/
theorem gain_mul_bounds {k x m : Int} (hk : 0 ≤ k) (hk' : k ≤ 4095) (hx : |x| ≤ m) :
    -(4095 * m) ≤ k * x ∧ k * x ≤ 4095 * m := by
  rw [← abs_le, abs_mul, abs_of_nonneg hk]
  exact mul_le_mul hk' hx (abs_nonneg x) (by norm_num)

/-- The bounds of `N`: `61,425,255 = 4,095 * 10,000 + 4,095 * 5,000 + 255`. -/
theorem lawSum_bounds {kp ki : Nat} {e : Int} {g : Governor} (hkp : kp ≤ 4095) (hki : ki ≤ 4095)
    (he : |e| ≤ 5000) (hprev : |g.ePrev| ≤ 5000) (hres : g.residue ≤ 255) :
    -61425255 ≤ lawSum kp ki e g ∧ lawSum kp ki e g ≤ 61425255 := by
  have hstep : |e - g.ePrev| ≤ 10000 := by
    rw [abs_le] at *
    omega
  have hprop := gain_mul_bounds (Int.natCast_nonneg kp) (by exact_mod_cast hkp) hstep
  have hint := gain_mul_bounds (Int.natCast_nonneg ki) (by exact_mod_cast hki) he
  unfold lawSum
  omega

/-! ## The Governor's update with the engaged flag set (R23) -/

/-- The Governor after the gain switch that opens an update (R30). -/
theorem applyPendingGain_gov (s : State) :
    (applyPendingGain s).gov =
      { s.gov with active := s.gov.pendingSet.getD s.gov.active, pendingSet := none } := by
  cases hg : s.gov with
  | mk d ePrev residue active pendingSet engaged =>
    cases pendingSet <;> simp [applyPendingGain, hg]

/-- The Governor that the PI law leaves, with the gains of the set active after the switch. -/
def governorLaw (f : Nat) (s : State) : Governor :=
  piStep (applyPendingGain s).kp (applyPendingGain s).ki (s.freqError f) (applyPendingGain s).gov

/-- With the engaged flag set no engagement takes place, and the law runs after the switch (R23, R25). -/
theorem governorUpdate_gov_of_engaged {s : State} (f : Nat) (h : s.gov.engaged = true) :
    (governorUpdate f s).gov = governorLaw f s := by
  have hengaged : (applyPendingGain s).gov.engaged = true := by rw [applyPendingGain_gov]; exact h
  have hnot : (applyPendingGain s).engages f = false := by simp [State.engages, hengaged]
  have herror : (applyPendingGain s).freqError f = s.freqError f := by
    simp [State.freqError, State.fSet, State.nominal, State.offset, State.setting]
  simp [governorUpdate, governorLaw, engage, runLaw, hnot, hengaged, herror]

/-- All that the law reads is the Governor, the settings and the correction direction. -/
theorem governorLaw_congr {s u : State} (f : Nat) (hgov : u.gov = s.gov) (htables : u.tables = s.tables)
    (hdir : u.time.direction = s.time.direction) : governorLaw f u = governorLaw f s := by
  simp [governorLaw, applyPendingGain_gov, State.kp, State.ki, State.freqError, State.fSet,
    State.nominal, State.offset, State.setting, hgov, htables, hdir]

/-- In whichever order the Plant State Controller and the Governor take the period, the Governor ends as the
law left it, but for the pending set. -/
theorem takersInOrder_gov_of_engaged {s : State} (plantFirst shedFirst : Bool) (f p : Nat) (t : Count)
    (lag : Nat) (h : s.gov.engaged = true) :
    ∃ g, (takersInOrder plantFirst shedFirst f p t lag s).gov = { governorLaw f s with pendingSet := g } := by
  obtain ⟨hgov, htime⟩ := plantPeriod_gov_time f s
  cases plantFirst with
  | true =>
    have hlaw : (governorUpdate f (plantPeriod f s)).gov = governorLaw f s := by
      rw [governorUpdate_gov_of_engaged f (by rw [hgov, h]),
        governorLaw_congr f hgov (by simp) (by rw [htime])]
    simpa [takersInOrder, hlaw] using demandUpdates_gov shedFirst f p t lag (plantPeriod f s)
  | false =>
    simpa [takersInOrder, plantPeriod_gov_time, governorUpdate_gov_of_engaged f h] using
      demandUpdates_gov shedFirst f p t lag s

/-- The Governor after an accepted valid period with the engaged flag set. -/
theorem validPeriod_gov_of_engaged {s : State} (t : Count) (p lag : Nat) (h : s.gov.engaged = true) :
    ∃ g, (validPeriod t p lag (acceptLevel .xing true s)).gov =
      { governorLaw (frequencyOf p) s with pendingSet := g } := by
  unfold validPeriod validPeriodInOrder
  set u := addTimeError 1 (recoverSignal (storePeriod t p lag
    { acceptLevel .xing true s with draws := (acceptLevel .xing true s).draws + 1 })) with hu
  have hgov : u.gov = s.gov := by simp [hu]
  rw [← governorLaw_congr (u := u) _ hgov (by simp [hu]) (by simp [hu])]
  exact takersInOrder_gov_of_engaged _ _ _ _ _ _ (by rw [hgov, h])

/-- Settles O23: the four steps of R24 are the three branches of the PI step, on the Governor as the gain
switch leaves it. -/
theorem piLaw : Obligations.PiLaw := by
  intro t lag p s hedge hengaged kp ki e n d'
  obtain ⟨g, hgov⟩ := validPeriod_gov_of_engaged t p lag hengaged
  set v := applyPendingGain s with hv
  have hswitch := applyPendingGain_gov s
  have hkp : kp = (v.kp : Int) := by
    simp only [kp, State.kp, hv, hswitch]
    cases s.gov.pendingSet.getD s.gov.active <;> simp [State.setting]
  have hki : ki = (v.ki : Int) := by
    simp only [ki, State.ki, hv, hswitch]
    cases s.gov.pendingSet.getD s.gov.active <;> simp [State.setting]
  have hn : n = lawSum v.kp v.ki e v.gov := by
    simp only [n, lawSum, hkp, hki, hv, hswitch]
  have hd' : d' = lawDemand v.kp v.ki e v.gov := by
    simp only [d', lawDemand, hn, hv, hswitch]
  have hlaw : governorLaw (frequencyOf p) s = piStep v.kp v.ki e v.gov := rfl
  rw [hlaw] at hgov
  refine ⟨_, exec_acceptedRisingCrossingEdge_of_validEdge lag hedge, ?ePrev, ?engaged, ?below, ?above,
    ?within, by omega, by omega, ?bounds⟩
  case ePrev => rw [hgov]; simp
  case engaged => rw [hgov]; simpa [hv, hswitch] using hengaged
  case below =>
    intro hneg
    rw [hgov, piStep_of_demand_neg (hd' ▸ hneg)]
    exact ⟨rfl, rfl⟩
  case above =>
    intro hhigh
    rw [hgov, piStep_of_demand_high (hd' ▸ hhigh)]
    exact ⟨rfl, rfl⟩
  case within =>
    intro hlow hhigh
    rw [hgov, piStep_of_demand_inRange (hd' ▸ hlow) (hd' ▸ hhigh), ← hd', ← hn]
    dsimp only
    omega
  case bounds =>
    intro hkp' hki' hprevLow hprevHigh hres
    rw [hn]
    have he : |e| ≤ 5000 := abs_le.mpr ⟨le_max_left _ _, max_le (by norm_num) (min_le_left _ _)⟩
    have hprev : |v.gov.ePrev| ≤ 5000 := by
      rw [hv, hswitch]
      exact abs_le.mpr ⟨hprevLow, hprevHigh⟩
    exact lawSum_bounds (by omega) (by omega) he hprev (by rw [hv, hswitch]; exact hres)

end Sys2Proof.Proofs
end

section
namespace Sys2Proof.Proofs
open Sys2Proof.Machine Sys2Proof.Safety

/-! ## Orders and their slots

What a command does to the slots is followed operation by operation: each rewrites the slots whose orders it
changes, and operations that change the orders of different slots compose. -/

/-- The order that slot `k` would carry, none beyond the eight slots (R85, R103, R138). -/
def slotOrder (s : State) : Nat → Option Order
  | 0 => some (.gate s.water.gate)
  | 1 => some (.saw s.saw.order)
  | k + 2 => if k < 6 then some (.feeder (positions s k)) else none

/-- A slot is rewritten exactly when its order has changed, and that of a node only while its role is mapped. -/
theorem slotAfter_nil (s t : State) (k : Nat) (old : Slot) :
    slotAfter [] s t k old =
      if slotOrder t k ≠ slotOrder s k ∧ (k = 0 ∨ s.address (k + 1) ≠ 0) then ⟨slotOrder t k, true⟩
      else old := by
  match k with
  | 0 => simp [slotAfter, slotOrder]
  | 1 => simp [slotAfter, slotOrder]
  | k + 2 =>
    have hlast : k + 2 < 8 ↔ k < 6 := by omega
    by_cases hk : k < 6 <;> simp [slotAfter, slotOrder, hlast, hk]

/-- The orders are read from the gate target, the saw's order and the circuit entries. -/
theorem slotOrder_congr {s t : State} (hgate : t.water.gate = s.water.gate)
    (hsaw : t.saw.order = s.saw.order) (hhamlet : t.hamlet = s.hamlet) : slotOrder t = slotOrder s := by
  funext k
  match k with
  | 0 => simp [slotOrder, hgate]
  | 1 => simp [slotOrder, hsaw]
  | k + 2 => simp [slotOrder, positions, State.circuit, hhamlet]

/-- A write to one index of a list, as a function of the index. -/
theorem set_eq_mapIdx {α : Type} (l : List α) (k : Nat) (x : α) :
    l.set k x = l.mapIdx fun i old => if i = k then x else old := by
  refine List.ext_getElem? fun i => ?_
  rw [List.getElem?_mapIdx, List.getElem?_set]
  by_cases hi : k = i
  · subst hi
    by_cases hlen : k < l.length <;> simp [hlen]
  · simp [hi, Ne.symm hi]

/-- The operation keeps the tables, and of the Loop Port it changes the slots whose orders it changes, and
nothing else. -/
structure OrdersFollow (s t : State) : Prop where
  tables : t.tables = s.tables
  loop : t.loop = { s.loop with slots := s.loop.slots.mapIdx (slotAfter [] s t) }

/-- An operation that changes the order of no mapped slot leaves the Loop Port. -/
theorem OrdersFollow.of_loop_eq {s t : State} (htables : t.tables = s.tables) (hloop : t.loop = s.loop)
    (horder : ∀ k, slotOrder t k = slotOrder s k ∨ k ≠ 0 ∧ s.address (k + 1) = 0) : OrdersFollow s t := by
  have hkeep : slotAfter [] s t = fun _ old => old := by
    funext k old
    rw [slotAfter_nil, if_neg]
    rintro ⟨hne, hmapped⟩
    rcases horder k with h | ⟨hpos, hfree⟩
    · exact hne h
    · exact hmapped.elim hpos (· hfree)
  refine ⟨htables, ?_⟩
  rw [hloop, hkeep]
  simp [List.mapIdx_eq_zipIdx_map]

/-- An operation that changes no order leaves the Loop Port. -/
theorem OrdersFollow.of_orders_eq {s t : State} (htables : t.tables = s.tables) (hloop : t.loop = s.loop)
    (horder : slotOrder t = slotOrder s) : OrdersFollow s t :=
  .of_loop_eq htables hloop fun _ => .inl (by rw [horder])

/-- An operation that changes the order of one mapped slot writes that slot. -/
theorem OrdersFollow.of_write {s t : State} (k : Nat) (htables : t.tables = s.tables)
    (hloop : t.loop = { s.loop with slots := s.loop.slots.set k ⟨slotOrder t k, true⟩ })
    (hmapped : k = 0 ∨ s.address (k + 1) ≠ 0) (hchanged : slotOrder t k ≠ slotOrder s k)
    (hothers : ∀ j, j ≠ k → slotOrder t j = slotOrder s j) : OrdersFollow s t := by
  have hafter : slotAfter [] s t = fun j old => if j = k then ⟨slotOrder t k, true⟩ else old := by
    funext j old
    rw [slotAfter_nil]
    by_cases hj : j = k
    · subst hj; simp [hchanged, hmapped]
    · simp [hj, hothers j hj]
  exact ⟨htables, by rw [hloop, set_eq_mapIdx, hafter]⟩

/-- Two operations in sequence follow the orders where no slot's order is changed by both. -/
theorem OrdersFollow.trans {s t u : State} (hst : OrdersFollow s t) (htu : OrdersFollow t u)
    (hone : ∀ k, slotOrder t k = slotOrder s k ∨ slotOrder u k = slotOrder t k) : OrdersFollow s u := by
  have haddress : ∀ r, t.address r = s.address r := fun r => by simp [State.address, hst.tables]
  have hslot : ∀ k old, slotAfter [] t u k (slotAfter [] s t k old) = slotAfter [] s u k old := by
    intro k old
    simp only [slotAfter_nil, haddress]
    rcases hone k with h | h <;> simp [h]
  refine ⟨htu.tables.trans hst.tables, ?_⟩
  rw [htu.loop, hst.loop]
  simp [List.mapIdx_mapIdx, Function.comp_def, hslot]

/-- An earlier operation that changes no order and keeps the Loop Port may come first. -/
theorem OrdersFollow.same_trans {s t u : State} (htu : OrdersFollow t u) (htables : t.tables = s.tables)
    (hloop : t.loop = s.loop) (horder : slotOrder t = slotOrder s) : OrdersFollow s u :=
  (OrdersFollow.of_orders_eq htables hloop horder).trans htu fun _ => .inl (by rw [horder])

/-- The gate target's slot follows it (R85). -/
theorem setGate_ordersFollow (g : Nat) (s : State) : OrdersFollow s (setGate g s) := by
  by_cases hg : g = s.water.gate
  · rw [setGate, if_pos hg]
    exact .of_orders_eq rfl rfl rfl
  · refine .of_write 0 (by simp) (by rw [setGate, if_neg hg]; rfl) (.inl rfl)
      (by simp [slotOrder, hg]) fun j hj => ?_
    match j with
    | 1 => simp [slotOrder]
    | j + 2 => simp [slotOrder, positions, State.circuit]

/-- The Loop Port after the saw's order is set (R138). -/
theorem setSawOrder_loop (o : SawOrder) (s : State) :
    (setSawOrder o s).loop =
      if o = s.saw.order ∨ s.mapped Role.SAW = false then s.loop
      else { s.loop with slots := s.loop.slots.set 1 ⟨some (.saw o), true⟩ } := by
  by_cases ho : o = s.saw.order
  · rw [setSawOrder, if_pos ho, if_pos (.inl ho)]
  · cases hm : s.mapped Role.SAW <;> simp [setSawOrder, ho, hm, writeSlot, SlotNo.SAW]

/-- A change of the saw that keeps its order does not alter what setting the order does to the Loop Port. -/
theorem setSawOrder_mapSaw_loop (o : SawOrder) (f : Saw → Saw) (s : State)
    (h : (f s.saw).order = s.saw.order) : (setSawOrder o (s.mapSaw f)).loop = (setSawOrder o s).loop := by
  simp only [setSawOrder_loop, State.mapSaw_saw, h]
  rfl

/-- An operation of the saw follows its order where it treats the Loop Port as the setting of that order does. -/
theorem OrdersFollow.of_saw {s t : State} (htables : t.tables = s.tables) (hwater : t.water = s.water)
    (hhamlet : t.hamlet = s.hamlet) (hloop : t.loop = (setSawOrder t.saw.order s).loop) :
    OrdersFollow s t := by
  have hothers : ∀ k, k ≠ 1 → slotOrder t k = slotOrder s k := by
    intro k hk
    match k with
    | 0 => simp [slotOrder, hwater]
    | k + 2 => simp [slotOrder, positions, State.circuit, hhamlet]
  rw [setSawOrder_loop] at hloop
  by_cases ho : t.saw.order = s.saw.order
  · exact .of_orders_eq htables (by rw [hloop, if_pos (.inl ho)])
      (slotOrder_congr (by rw [hwater]) ho hhamlet)
  cases hm : s.mapped Role.SAW with
  | true =>
    rw [if_neg (by simp [ho, hm])] at hloop
    exact .of_write 1 htables hloop (.inr (by simpa [State.mapped] using hm)) (by simpa [slotOrder]) hothers
  | false =>
    refine .of_loop_eq htables (by rw [hloop, if_pos (.inr hm)]) fun k => ?_
    by_cases hk : k = 1
    · subst hk
      exact .inr ⟨by decide, by simpa [State.mapped] using hm⟩
    · exact .inl (hothers k hk)

/-! ## The hamlet goes dark (R103, R110) -/

@[simp] theorem wanted_darken (c : Circuit) : c.darken.wanted = false := by
  unfold Circuit.darken Circuit.wanted
  split
  · simp
  · simp_all

/-- The entries after the hamlet has gone dark. -/
@[simp] theorem goDark_hamlet (s : State) :
    (goDark s).hamlet = { s.hamlet with entries := s.hamlet.entries.map Circuit.darken } :=
  (foldl_keeps State.hamlet _ (fun _ _ => by split <;> simp) _ _).trans rfl

/-- The shed list is emptied, and its timers with it (R129). -/
@[simp] theorem goDark_shed (s : State) : (goDark s).shed = ⟨[], none, 0, none⟩ :=
  (foldl_keeps State.shed _ (fun _ _ => by split <;> simp) _ _).trans rfl

/-- No circuit is ordered CLOSE once the hamlet is dark. -/
theorem wanted_circuit_of_darkened {s t : State} (i : Nat)
    (h : t.hamlet.entries = s.hamlet.entries.map Circuit.darken) : (t.circuit i).wanted = false := by
  rw [State.circuit, h, List.getD_eq_getElem?_getD, List.getElem?_map]
  cases s.hamlet.entries[i]? with
  | none => rfl
  | some c => simp

/-- In the dark the order of a feeder has changed exactly where it carried a CLOSE. -/
theorem positions_ne_iff_of_darkened {s t : State} (k : Nat)
    (h : t.hamlet.entries = s.hamlet.entries.map Circuit.darken) :
    positions t k ≠ positions s k ↔ s.slotClosed k = true := by
  have hdark : positions t k = (List.range 8).map fun _ => false :=
    List.map_congr_left fun m _ => wanted_circuit_of_darkened _ h
  have hold : positions s k = s.feederOrder k := rfl
  rw [hdark, hold, State.slotClosed, State.feederOrder, Ne, List.map_inj_left]
  simp

/-- The Loop Port after the write of a feeder's slot. -/
theorem writeFeederSlot_loop (k : Nat) (s : State) :
    (writeFeederSlot k s).loop =
      { s.loop with slots := s.loop.slots.mapIdx fun i old =>
          if i = k + 2 ∧ s.address (i + 1) ≠ 0 then ⟨some (.feeder (positions s k)), true⟩ else old } := by
  have hrole : s.mapped (Role.feeder k) = true ↔ s.address (k + 2 + 1) ≠ 0 := by
    rw [State.mapped, show Role.feeder k = k + 2 + 1 from Nat.add_comm 3 k, bne_iff_ne]
  by_cases hm : s.address (k + 2 + 1) = 0
  · rw [writeFeederSlot, if_neg (by simp [hrole, hm])]
    have hkeep : ∀ i, ¬(i = k + 2 ∧ s.address (i + 1) ≠ 0) := by
      rintro _ ⟨rfl, h⟩; exact h hm
    simp [hkeep, List.mapIdx_eq_zipIdx_map]
  · rw [writeFeederSlot, if_pos (hrole.mpr hm)]
    have hone : ∀ i, (i = k + 2 ∧ s.address (i + 1) ≠ 0) ↔ i = k + 2 := by
      refine fun i => and_iff_left_of_imp ?_
      rintro rfl; exact hm
    simp only [hone, writeSlot, State.mapLoop, set_eq_mapIdx, SlotNo.feeder, Nat.add_comm 2 k]
    rfl

/-- The Loop Port after a run over the feeders that rewrites the slots of those chosen. -/
theorem foldl_writeFeederSlot_loop (chosen : Nat → Bool) (l : List Nat) (s : State) :
    (l.foldl (fun t k => if chosen k then writeFeederSlot k t else t) s).loop =
      { s.loop with slots := s.loop.slots.mapIdx fun i old =>
          if (∃ k ∈ l, i = k + 2 ∧ chosen k = true) ∧ s.address (i + 1) ≠ 0 then
            ⟨some (.feeder (positions s (i - 2))), true⟩
          else old } := by
  induction l generalizing s with
  | nil => simp [List.mapIdx_eq_zipIdx_map]
  | cons k l ih =>
    rw [List.foldl_cons, ih]
    by_cases hk : chosen k = true
    · have hframe : ∀ r, (writeFeederSlot k s).address r = s.address r := fun r => by simp [State.address]
      have hpos : ∀ m, positions (writeFeederSlot k s) m = positions s m := fun m => by
        simp [positions, State.circuit]
      simp only [hk, if_true, hframe, hpos, writeFeederSlot_loop, List.mapIdx_mapIdx]
      congr 2
      funext i old
      by_cases hi : i = k + 2
      · subst hi; by_cases hm : s.address (k + 2 + 1) = 0 <;> simp [hm, hk]
      · simp [hi]
    · simp [hk]

/-- The slots of the feeders follow the darkening (R103). -/
theorem goDark_ordersFollow (s : State) : OrdersFollow s (goDark s) := by
  have hentries : (goDark s).hamlet.entries = s.hamlet.entries.map Circuit.darken := by simp
  have hpos : ∀ k, positions (darken s) k = positions (goDark s) k := fun k => by
    simp only [positions, State.circuit, hentries]; rfl
  have hafter : slotAfter [] s (goDark s) = fun i old =>
      if (∃ k ∈ List.range 6, i = k + 2 ∧ s.slotClosed k = true) ∧ s.address (i + 1) ≠ 0 then
        ⟨some (.feeder (positions (goDark s) (i - 2))), true⟩
      else old := by
    funext i old
    rw [slotAfter_nil]
    match i with
    | 0 => simp [slotOrder]
    | 1 => simp [slotOrder]
    | k + 2 =>
      by_cases hk : k < 6
      · simp [slotOrder, hk, ← positions_ne_iff_of_darkened k hentries]
      · simp [slotOrder, hk]
  refine ⟨by simp, (foldl_writeFeederSlot_loop s.slotClosed _ (darken s)).trans ?_⟩
  rw [hafter]
  simp only [hpos]
  rfl

/-! ## The record of a plant entry (R45) -/

/-- A notice offered and a change of the plant commute. -/
theorem offerNotice_mapPlant (c : Condition) (x : Option Nat) (f : Plant → Plant) (s : State) :
    offerNotice c x (s.mapPlant f) = (offerNotice c x s).mapPlant f := by
  unfold offerNotice
  rw [apply_ite (State.mapPlant f)]
  rfl

/-- A raise and a change of the plant commute: the Condition Register does not read it. -/
theorem raise_mapPlant (c : Condition) (x : Option Nat) (f : Plant → Plant) (s : State) :
    raise c x (s.mapPlant f) = (raise c x s).mapPlant f := by
  cases hflag : (s.cond c).flag with
  | true => rw [raise_of_set hflag, raise_of_set (by simpa using hflag)]; rfl
  | false =>
    rw [raise_of_clear hflag, raise_of_clear (by simpa using hflag)]
    exact offerNotice_mapPlant c x f (journalAppend .condition x c.num (setFlag c x (markCause c s)))

/-- The record of an entry leaves the saw and the mill time, which the SAW entry after it reads. -/
@[simp] theorem recorded_frame (p : PlantState) (cause : Cause) (named : Option Condition) (s : State) :
    (recorded p cause named s).saw = s.saw ∧ (recorded p cause named s).time = s.time := by
  cases named <;> simp [recorded]

/-- A plant entry makes its record and takes state, cause and timers. -/
theorem recordEntry_eq (p : PlantState) (cause : Cause) (s : State) :
    recordEntry p cause s =
      (recorded p cause (causeCondition p cause) s).mapPlant (Plant.enter p cause) := by
  have hraise : raise .plantChanged none (journalAppend .plant none (p.code * 256 + cause.code)
      (s.mapPlant (Plant.enter p cause))) = (recorded p cause none s).mapPlant (Plant.enter p cause) :=
    raise_mapPlant .plantChanged none (Plant.enter p cause)
      (journalAppend .plant none (p.code * 256 + cause.code) s)
  rw [recordEntry, hraise, raiseCause]
  cases causeCondition p cause with
  | none => rfl
  | some c => exact raise_mapPlant c none (Plant.enter p cause) (recorded p cause none s)

/-- The record of a plant entry changes nothing of the Loop Port but the answer queue. -/
theorem recordEntry_loop (p : PlantState) (cause : Cause) (s : State) :
    (recordEntry p cause s).loop = { s.loop with answers := (recordEntry p cause s).loop.answers } := by
  unfold recordEntry raiseCause
  cases causeCondition p cause with
  | none => dsimp only; rw [raise_loop]; simp
  | some c => dsimp only; rw [raise_loop, raise_loop]; simp

/-! ## The saw at a plant entry (R152) -/

/-- The four things the saw can do at a plant entry, each with the SAW entry it makes. -/
theorem sawEntry_cases (p : PlantState) (s : State) :
    (sawEntry p s = s ∧ sawNote p s.saw.state = none) ∨
      (sawEntry p s = setLamp .stop s ∧ sawNote p s.saw.state = none) ∨
      (sawEntry p s = enterSawIdle .stop s ∧ sawNote p s.saw.state = some 0) ∨
      (sawEntry p s = enterSawStopping s ∧ sawNote p s.saw.state = some 4) := by
  cases p <;> cases hsaw : s.saw.state <;> simp [sawEntry, sawNote, hsaw]

/-- The journal after the saw has taken a plant entry. -/
theorem sawEntry_journal (p : PlantState) (s : State) :
    (sawEntry p s).journal =
      (sawNote p s.saw.state).elim s.journal fun v => s.journal.push s.time.clock .saw none v := by
  rcases sawEntry_cases p s with ⟨he, hn⟩ | ⟨he, hn⟩ | ⟨he, hn⟩ | ⟨he, hn⟩
  · simp [he, hn]
  · simp [he, hn]
  · simp [he, hn, enterSawIdle]
  · simp [he, hn, enterSawStopping]

/-- The saw at rest (R139). -/
@[simp] theorem enterSawIdle_saw (lamp : Lamp) (s : State) :
    (enterSawIdle lamp s).saw =
      { s.saw.rest with order := { s.saw.order with clutch := .release, feed := 0, lamp := lamp } } := by
  simp [enterSawIdle, Saw.rest]

/-- The slot of the saw follows its order at a plant entry, and no other order changes. -/
theorem sawEntry_ordersFollow (p : PlantState) (s : State) : OrdersFollow s (sawEntry p s) := by
  refine .of_saw (by simp) (by simp) (by simp) ?_
  rcases sawEntry_cases p s with ⟨he, -⟩ | ⟨he, -⟩ | ⟨he, -⟩ | ⟨he, -⟩ <;> rw [he]
  · simp [setSawOrder_loop]
  · simp [setLamp]
  · simp [enterSawIdle, setSawOrder_mapSaw_loop _ Saw.rest s rfl, Saw.rest]
  · simp [enterSawStopping, setSawOrder_mapSaw_loop]

/-! ## A plant entry (R45)

The record comes first; then each block takes the entry, none of them touching the queue of answers. -/

/-- After an entry the plant stands as Table 3-4 says. -/
theorem enterPlant_plant (p : PlantState) (cause : Cause) (s : State) :
    (enterPlant p cause s).plant = Plant.enter p cause s.plant := by
  simp [enterPlant, recordEntry]

/-- The water at an entry, and its target (Table 4-2). -/
theorem enterPlant_water (p : PlantState) (cause : Cause) (s : State) :
    (enterPlant p cause s).water = { Water.enter p s.water with gate := s.entryGate p } := by
  have hgate : ∀ t : State, t.tables = s.tables → t.entryGate p = s.entryGate p := by
    intro t ht
    cases p <;> simp [State.entryGate, State.setting, ht]
  simp [enterPlant, waterEntry, hgate]

/-- The gate's slot follows its target at a plant entry. -/
theorem waterEntry_ordersFollow (p : PlantState) (s : State) : OrdersFollow s (waterEntry p s) :=
  (setGate_ordersFollow _ _).same_trans (by simp) (by simp)
    (slotOrder_congr (by simp [Water.enter]) (by simp) (by simp))

/-- At an entry other than to RUN the slots of the feeders follow the hamlet, which may go dark. -/
theorem hamletEntry_ordersFollow {p : PlantState} (hp : p ≠ .run) (s : State) :
    OrdersFollow s (hamletEntry p s) := by
  cases p with
  | run => exact absurd rfl hp
  | runup | stopped => exact .of_orders_eq rfl rfl rfl
  | stopping | tripped => exact goDark_ordersFollow s

/-- After the record of an entry each block's orders are followed: gate, feeders and saw have slots of their
own. -/
theorem enterPlant_ordersFollow {p : PlantState} (hp : p ≠ .run) (cause : Cause) (s : State) :
    OrdersFollow (recordEntry p cause s) (enterPlant p cause s) := by
  have hfirst := (waterEntry_ordersFollow p (timeEntry p (firingEntry p
    (governorEntry p (recordEntry p cause s))))).same_trans (s := recordEntry p cause s)
    (by simp) (by simp) (slotOrder_congr (by simp) (by simp) (by simp))
  unfold enterPlant
  refine hfirst.trans ((hamletEntry_ordersFollow hp _).trans (sawEntry_ordersFollow p _) fun k => ?_)
    fun k => ?_
  · match k with
    | 0 => exact .inl (by simp [slotOrder])
    | 1 => exact .inl (by simp [slotOrder])
    | k + 2 => exact .inr (by simp [slotOrder, positions, State.circuit])
  · match k with
    | 0 => exact .inr (by simp [slotOrder])
    | 1 => exact .inl (by simp [slotOrder])
    | k + 2 => exact .inl (by simp [slotOrder, positions, State.circuit])

/-- At a plant entry other than to RUN the slots follow, and of the rest of the Loop Port only the answer
queue may change. -/
theorem enterPlant_slotsFollow {p : PlantState} (hp : p ≠ .run) (cause : Cause) (s : State) :
    SlotsFollow [] s (enterPlant p cause s) := by
  have horder : slotOrder (recordEntry p cause s) = slotOrder s :=
    slotOrder_congr (by simp) (by simp) (by simp)
  have hafter : slotAfter [] (recordEntry p cause s) (enterPlant p cause s) =
      slotAfter [] s (enterPlant p cause s) := by
    have haddress : ∀ r, (recordEntry p cause s).address r = s.address r := fun r => by
      simp [State.address]
    funext k old
    simp only [slotAfter_nil, horder, haddress]
  have hloop := (enterPlant_ordersFollow hp cause s).loop
  rw [hafter, recordEntry_loop] at hloop
  rw [SlotsFollow, hloop]

/-- The SAW entry aside, the record of an entry with what follows it is the record of the entry. -/
theorem entryRecord_eq (p : PlantState) (cause : Cause) (named : Option Condition) (s : State) :
    entryRecord p cause named s = (recorded p cause named s).mapJournal fun j =>
      (sawNote p s.saw.state).elim j fun v => j.push s.time.clock .saw none v := by
  unfold entryRecord
  cases sawNote p s.saw.state <;> rfl

/-- What a plant entry other than to RUN leaves in conditions, journal and answer queue: its record, with the
SAW entry after it. -/
theorem enterPlant_sameRecord {p : PlantState} (hp : p ≠ .run) (cause : Cause) (s : State) :
    SameRecord (entryRecord p cause (causeCondition p cause) s) (enterPlant p cause s) := by
  have hloop := (enterPlant_ordersFollow hp cause s).loop
  have hclock : ∀ t, (timeEntry p t).time.clock = t.time.clock := fun t => by cases p <;> rfl
  have hham : ∀ t, (hamletEntry p t).conds = t.conds ∧ (hamletEntry p t).journal = t.journal := by
    intro t
    cases p with
    | run => exact absurd rfl hp
    | runup | stopped => exact ⟨rfl, rfl⟩
    | stopping | tripped => simp [hamletEntry]
  have hrec := recordEntry_eq p cause s
  rw [entryRecord_eq]
  refine ⟨?conds, ?journal, ?queue⟩
  case conds => simp [enterPlant, hham, hrec]
  case journal => simp [enterPlant, sawEntry_journal, hham, hclock, hrec]
  case queue => simp [SameQueue, hloop, hrec]

/-- The blocks that no plant entry touches (Table 3-3). -/
theorem enterPlant_keptBut (p : PlantState) (cause : Cause) (s : State) :
    KeptBut [.plant, .gov, .firing, .time, .water, .hamlet, .shed, .saw, .conds, .journal, .loop] s
      (enterPlant p cause s) := by
  intro b hb
  cases b <;> simp_all [Block.same]

/-! ## Entry to RUNUP (R46) and to TRIPPED (R49) -/

/-- Entry to RUNUP leaves ballast, hamlet, shed list and saw too. -/
theorem enterPlant_runup_keptBut (cause : Cause) (s : State) :
    KeptBut [.plant, .gov, .time, .water, .conds, .journal, .loop] s (enterPlant .runup cause s) := by
  intro b hb
  cases b <;> simp_all [Block.same, enterPlant, firingEntry, hamletEntry, sawEntry]

/-- What a trip does with the saw: its lamp says STOP and it comes to rest, where it may be already. -/
theorem sawEntry_tripped_saw (s : State) :
    (sawEntry .tripped s).saw.state = .idle ∧ (sawEntry .tripped s).saw.order.lamp = .stop ∧
      (s.saw.state ≠ .idle → (sawEntry .tripped s).saw.order.clutch = .release ∧
        (sawEntry .tripped s).saw.order.feed = 0 ∧ (sawEntry .tripped s).saw.grant = none) := by
  by_cases hidle : s.saw.state = .idle
  · simp [sawEntry, setLamp, hidle]
  · have he : sawEntry .tripped s = enterSawIdle .stop s := by simp [sawEntry]
    simp [he, Saw.rest]

/-- The saw's return to rest requests the NORMAL set, which a trip has requested already. -/
theorem sawEntry_tripped_gov {s : State}
    (h : s.gov.pendingSet = if .normal = s.gov.active then none else some .normal) :
    (sawEntry .tripped s).gov = s.gov := by
  by_cases hidle : s.saw.state = .idle
  · simp [sawEntry, setLamp, hidle]
  · simp [sawEntry, enterSawIdle, ← h]

/-- The saw's return to rest relabels nothing in an empty shed list. -/
theorem sawEntry_tripped_shed {s : State} (h : s.shed = ⟨[], none, 0, none⟩) :
    (sawEntry .tripped s).shed = s.shed := by
  by_cases hidle : s.saw.state = .idle
  · simp [sawEntry, setLamp, hidle]
  · simp [sawEntry, enterSawIdle, relabel, h]

/-- A trip from any other state enters TRIPPED with its cause and the condition that Table 3-2 names. -/
theorem trip_tripped {s : State} {cause : Cause} {named : Condition} (hstate : s.plant.state ≠ .tripped)
    (hcause : causeCondition .tripped cause = some named) : Tripped cause named s (trip cause s) := by
  have htrip : trip cause s = enterPlant .tripped cause s := by simp [trip, State.inPlant, hstate]
  have hne : PlantState.tripped ≠ .run := by decide
  have hrecord := enterPlant_sameRecord hne cause s
  rw [hcause] at hrecord
  have hdark : Circuit.darken = darkened := rfl
  obtain ⟨t, hentry, hsaw⟩ : ∃ t, enterPlant .tripped cause s = sawEntry .tripped t ∧ t.saw = s.saw :=
    ⟨_, rfl, by simp⟩
  obtain ⟨hidle, hlamp, hrest⟩ := sawEntry_tripped_saw t
  rw [← hentry] at hidle hlamp hrest
  rw [hsaw] at hrest
  rw [htrip]
  refine ⟨enterPlant_plant .tripped cause s, ?gov, ?firing, ?time, enterPlant_water .tripped cause s, ?hamlet,
    ?shed, hidle, hlamp, hrest, hrecord, enterPlant_slotsFollow hne cause s,
    enterPlant_keptBut .tripped cause s⟩
  case gov =>
    rw [enterPlant, sawEntry_tripped_gov] <;> simp [governorEntry, eq_comm (a := GainSet.normal)]
  case firing => simp [enterPlant, firingEntry, setBanks]
  case time => simp [enterPlant, timeEntry]
  case hamlet => simp [enterPlant, hamletEntry, hdark]
  case shed => rw [enterPlant, sawEntry_tripped_shed] <;> simp [hamletEntry]

/-! ## The answer to SET PLANT (R51, R173, R176) -/

/-- A request that finds a place is handled while it holds it, and answered there. -/
theorem serve_of_answerRoom {s : State} (src : Byte) (tag : Word16) (code : Nat) (owner : State → Reply)
    (h : s.answerRoom = true) :
    serve src tag code owner s = placeAnswer src.toNat tag code (owner (holding s)) := if_pos h

/-- The answer carries state and cause as the request leaves them. -/
theorem placeAnswer_plantReply (src : Byte) (tag : Word16) (outcome : ReqOutcome) (s : State) :
    placeAnswer src.toNat tag Code.SET_PLANT (plantReply outcome s) =
      answered src tag 7 outcome [byteOf s.plant.state.code, byteOf s.plant.cause.code] s := rfl

/-- A request that changes nothing leaves only its answer, in the place that it held. -/
theorem placeAnswer_plantReply_holding (src : Byte) (tag : Word16) (outcome : ReqOutcome) (s : State) :
    placeAnswer src.toNat tag Code.SET_PLANT (plantReply outcome (holding s)) =
      answered src tag 7 outcome [byteOf s.plant.state.code, byteOf s.plant.cause.code] s := rfl

/-- The place held is the Loop Port's. -/
theorem keptBut_of_holding {touched : List Block} {s t : State} (hloop : .loop ∈ touched)
    (h : KeptBut touched (holding s) t) : KeptBut touched s t := by
  intro b hb
  cases b with
  | loop => exact absurd hloop hb
  | _ => exact h _ hb

theorem exec_setPlantRunup {s : State} (src : Byte) (tag : Word16) (h : s.answerRoom = true) :
    exec (.setPlantRunup src tag) s =
      .next (placeAnswer src.toNat tag Code.SET_PLANT (Machine.setPlantRunup (holding s))) :=
  congrArg Host.Outcome.next (serve_of_answerRoom src tag Code.SET_PLANT Machine.setPlantRunup h)

theorem exec_setPlantTripped {s : State} (src : Byte) (tag : Word16) (h : s.answerRoom = true) :
    exec (.setPlantTripped src tag) s =
      .next (placeAnswer src.toNat tag Code.SET_PLANT (Machine.setPlantTripped (holding s))) :=
  congrArg Host.Outcome.next (serve_of_answerRoom src tag Code.SET_PLANT Machine.setPlantTripped h)

/-- Settles O34: the three checks of R52 in their order, and the entry to RUNUP of a request that passes. -/
theorem setPlantRunup : Obligations.SetPlantRunup := by
  intro src tag s hroom now
  rw [exec_setPlantRunup src tag hroom]
  have hplant : (holding s).inPlant .stopped = (s.plant.state == .stopped) := rfl
  have htrip : (holding s).tripSet = s.tripSet := rfl
  have hready : (holding s).runupReady = s.runupReady := rfl
  refine ⟨fun hstate => ?notStopped, fun hstate hset => ?tripSet, fun hstate hset hnot => ?notReady,
    fun hstate hset hpass => ?taken⟩
  case notStopped =>
    rw [Machine.setPlantRunup, if_pos (by simp [hplant, hstate]), placeAnswer_plantReply_holding]
  case tripSet =>
    rw [Machine.setPlantRunup, if_neg (by simp [hplant, hstate]), if_pos (by rw [htrip, hset]),
      placeAnswer_plantReply_holding]
  case notReady =>
    rw [Machine.setPlantRunup, if_neg (by simp [hplant, hstate]), if_neg (by simp [htrip, hset]),
      if_pos (by simp [hready, hnot]), placeAnswer_plantReply_holding]
  case taken =>
    rw [Machine.setPlantRunup, if_neg (by simp [hplant, hstate]), if_neg (by simp [htrip, hset]),
      if_neg (by simp [hready, hpass]), placeAnswer_plantReply, enterPlant_plant]
    have hne : PlantState.runup ≠ .run := by decide
    exact ⟨enterPlant .runup .host (holding s), rfl, enterPlant_plant .runup .host (holding s),
      by simp [enterPlant, sawEntry, hamletEntry, governorEntry, holding],
      by simp [enterPlant, timeEntry, holding], enterPlant_water .runup .host (holding s),
      enterPlant_sameRecord hne .host (holding s), enterPlant_slotsFollow hne .host (holding s),
      keptBut_of_holding (by decide) (enterPlant_runup_keptBut .host (holding s))⟩

/-- Settles O36: a trip with cause HOST (R57), or in TRIPPED the raise of HOST_TRIP alone. -/
theorem setPlantTripped : Obligations.SetPlantTripped := by
  intro src tag s hroom
  rw [exec_setPlantTripped src tag hroom]
  have hplant : (holding s).inPlant .tripped = (s.plant.state == .tripped) := rfl
  refine ⟨fun hstate => ?trip, fun hstate => ?raise⟩
  case trip =>
    have htripped : Tripped .host .hostTrip (holding s) (trip .host (holding s)) := trip_tripped hstate rfl
    have ⟨hentered, _⟩ := htripped
    rw [Machine.setPlantTripped, if_neg (by simp [hplant, hstate]), placeAnswer_plantReply, hentered]
    exact ⟨trip .host (holding s), rfl, htripped⟩
  case raise =>
    have hkept : (raise .hostTrip none (holding s)).plant = s.plant := by simp [holding]
    rw [Machine.setPlantTripped, if_pos (by simp [hplant, hstate]), placeAnswer_plantReply, hkept, hstate]
    rfl

end Sys2Proof.Proofs
end

section
namespace Sys2Proof.Proofs
open Sys2Proof.Machine Sys2Proof.Safety

/-! ## The sequences held by the journal (R163)

They are consecutive and end just below the next one: so no two entries share a sequence, and none reaches the
next. -/

theorem seqs_of_journalLaw {s : State} (h : journalLaw s = true) :
    s.journal.entries.length < s.journal.next ∧
      (s.journal.entries.map fun e => e.seq) =
        List.range' (s.journal.next - s.journal.entries.length) s.journal.entries.length := by
  simp only [journalLaw, Bool.and_eq_true, decide_eq_true_eq, beq_iff_eq] at h
  obtain ⟨⟨_, hlength⟩, hseqs⟩ := h
  exact ⟨hlength, hseqs⟩

theorem seqs_nodup_of_journalLaw {s : State} (h : journalLaw s = true) :
    (s.journal.entries.map fun e => e.seq).Nodup := by
  obtain ⟨_, hseqs⟩ := seqs_of_journalLaw h
  rw [hseqs]
  exact List.nodup_range'

theorem seq_lt_next_of_journalLaw {s : State} (h : journalLaw s = true) {e : JournalEntry}
    (he : e ∈ s.journal.entries) : e.seq < s.journal.next := by
  obtain ⟨hlength, hseqs⟩ := seqs_of_journalLaw h
  have hmem : e.seq ∈ s.journal.entries.map fun e => e.seq := List.mem_map_of_mem he
  rw [hseqs, List.mem_range'_1] at hmem
  omega

/-- Where no two entries share a sequence, the search for that of an entry finds this entry. -/
theorem find?_seq_of_mem {es : List JournalEntry} (hnodup : (es.map fun e => e.seq).Nodup)
    {e : JournalEntry} (he : e ∈ es) : es.find? (fun x => x.seq == e.seq) = some e := by
  have hfound : (es.find? fun x => x.seq == e.seq).isSome :=
    List.find?_isSome.mpr ⟨e, he, beq_self_eq_true _⟩
  obtain ⟨x, hx⟩ := Option.isSome_iff_exists.mp hfound
  have hseq : x.seq = e.seq := by simpa using List.find?_some hx
  rw [hx, List.inj_on_of_nodup_map hnodup (List.mem_of_find?_eq_some hx) he hseq]

theorem find?_seq_eq_none {es : List JournalEntry} {seq : Nat} (h : ∀ e ∈ es, e.seq ≠ seq) :
    es.find? (fun x => x.seq == seq) = none :=
  List.find?_eq_none.mpr fun e he => by simpa using h e he

/-! ## JOURNAL READ (R165) -/

theorem journalRead_of_mem {s : State} (h : journalLaw s = true) {e : JournalEntry}
    (he : e ∈ s.journal.entries) : journalRead e.seq s = ⟨s, .found, e.bytes⟩ := by
  rw [journalRead, find?_seq_of_mem (seqs_nodup_of_journalLaw h) he]

theorem journalRead_of_not_held {s : State} {seq : Nat} (h : ∀ e ∈ s.journal.entries, e.seq ≠ seq) :
    journalRead seq s = ⟨s, if s.journal.next ≤ seq then .outOfRange else .none, []⟩ := by
  rw [journalRead, find?_seq_eq_none h]
  exact (apply_ite (fun o => (⟨s, o, []⟩ : Reply)) _ _ _).symm

/-- A reply that leaves the state is answered in the place held, and nothing else changes. -/
theorem exec_journalRead_of_reply {s : State} (src : Byte) (tag : Word16) {seq : Word32}
    {outcome : ReqOutcome} {data : List Byte} (hroom : s.answerRoom = true)
    (hreply : journalRead seq.toNat (holding s) = ⟨holding s, outcome, data⟩) :
    exec (.journalRead src tag seq) s = .next (answered src tag 12 outcome data s) := by
  have hserve := serve_of_answerRoom src tag Code.JOURNAL_READ (journalRead seq.toNat) hroom
  rw [hreply] at hserve
  exact congrArg Host.Outcome.next hserve

/-- Settles O57: a held sequence is below the next one and is that of one entry only, so the three answers of
R165 exclude each other. -/
theorem journalRead : Obligations.JournalRead := by
  intro src tag s seq hroom hlaw
  refine ⟨fun e he hseq => ?found, fun hnext => ?outOfRange, fun hlt hnot => ?none⟩
  case found =>
    refine exec_journalRead_of_reply src tag hroom ?_
    rw [← hseq]
    exact journalRead_of_mem (s := holding s) hlaw he
  case outOfRange =>
    have hnot : ∀ e ∈ s.journal.entries, e.seq ≠ seq.toNat := fun e he =>
      ((seq_lt_next_of_journalLaw hlaw he).trans_le hnext).ne
    have hreply := journalRead_of_not_held (s := holding s) hnot
    rw [if_pos (show (holding s).journal.next ≤ seq.toNat from hnext)] at hreply
    exact exec_journalRead_of_reply src tag hroom hreply
  case none =>
    have hreply := journalRead_of_not_held (s := holding s) hnot
    rw [if_neg (show ¬(holding s).journal.next ≤ seq.toNat from hlt.not_ge)] at hreply
    exact exec_journalRead_of_reply src tag hroom hreply

end Sys2Proof.Proofs
end

section
namespace Sys2Proof.Proofs
open Sys2Proof.Machine Sys2Proof.Safety

/-! ## What a circuit entry reads after a write -/

/-- A list cell after a change of one cell. -/
theorem getD_modify {α : Type} (l : List α) (i j : Nat) (f : α → α) (d : α) :
    (l.modify i f).getD j d = if i = j ∧ j < l.length then f (l.getD j d) else l.getD j d := by
  by_cases hij : i = j
  · subst hij
    by_cases hlen : i < l.length
    · rw [if_pos ⟨rfl, hlen⟩, getD_modify_self _ _ _ _ hlen]
    · simp [hlen, List.getD_eq_getElem?_getD]
  · rw [if_neg (fun h => hij h.1), getD_modify_ne _ _ _ _ _ hij]

/-- Reading a circuit entry after one was changed. -/
theorem circuit_modifyCircuit (i j : Nat) (f : Circuit → Circuit) (s : State) :
    (modifyCircuit i f s).circuit j =
      if i = j ∧ j < s.hamlet.entries.length then f (s.circuit j) else s.circuit j :=
  getD_modify _ _ _ _ _

/-- Reading a circuit entry after one has moved. -/
theorem circuit_moveCircuit (i j : Nat) (st : CircuitState) (s : State) :
    (moveCircuit i st s).circuit j =
      if i = j ∧ j < s.hamlet.entries.length then (s.circuit j).move st else s.circuit j := by
  rw [State.circuit, moveCircuit_hamlet]
  exact getD_modify _ _ _ _ _

/-- Reading a circuit entry after a taken append. -/
theorem circuit_appendTaken (i j : Nat) (cause : ShedCause) (s : State) :
    (appendTaken i cause s).circuit j =
      if i = j ∧ j < s.hamlet.entries.length then (s.circuit j).move .shed else s.circuit j := by
  rw [State.circuit, appendTaken_hamlet]
  exact getD_modify _ _ _ _ _

/-- The circuit entries are read from the hamlet alone. -/
theorem circuit_congr {s t : State} (h : t.hamlet = s.hamlet) (i : Nat) : t.circuit i = s.circuit i := by
  rw [State.circuit, State.circuit, h]

/-- Whether a circuit is listed is read from the shed list alone. -/
theorem listed_congr {s t : State} (h : t.shed = s.shed) (i : Nat) : t.listed i = s.listed i := by
  rw [State.listed, State.listed, h]

/-- An index past the entries reads as a blank circuit. -/
theorem circuit_of_le {s : State} {i : Nat} (h : s.hamlet.entries.length ≤ i) :
    s.circuit i = Circuit.blank := by
  simp [State.circuit, List.getD_eq_getElem?_getD, h]

/-- An entry inside the table is read at its place. -/
theorem circuit_of_lt {s : State} {i : Nat} (h : i < s.hamlet.entries.length) :
    s.circuit i = s.hamlet.entries[i] := by
  simp [State.circuit, List.getD_eq_getElem?_getD, h]

/-- A circuit whose state is not that of a blank entry is in the table. -/
theorem lt_length_of_state_ne_absent {s : State} {i : Nat} (h : (s.circuit i).state ≠ .absent) :
    i < s.hamlet.entries.length := by
  by_contra hi
  exact h (by rw [circuit_of_le (Nat.le_of_not_lt hi)]; rfl)

@[simp] theorem move_state (st : CircuitState) (c : Circuit) : (c.move st).state = st := rfl
@[simp] theorem move_tier (st : CircuitState) (c : Circuit) : (c.move st).tier = c.tier := rfl
@[simp] theorem move_strikes (st : CircuitState) (c : Circuit) : (c.move st).strikes = c.strikes := rfl
@[simp] theorem move_reading (st : CircuitState) (c : Circuit) : (c.move st).reading = c.reading := rfl
@[simp] theorem move_present (st : CircuitState) (c : Circuit) : (c.move st).present = c.present := rfl

/-! ## The laws, as one family

`Law.holds` gathers the laws that every step keeps; the gate's law is taken together with that of the
settings, on whose ranges it rests. `held` is no law of the part: it says that the place of the request being
handled is not given away before its answer, and every operation but the answer itself keeps it. -/

inductive Law where
  | demand | timer | time | signal | tooth | gate | settings | nodeMap | shed | saw | firing | journal | loop
  | held

def Law.holds : Law → State → Bool
  | .demand, s => demandLaw s
  | .timer, s => timerLaw s
  | .time, s => timeLaw s
  | .signal, s => signalLaw s
  | .tooth, s => toothLaw s
  | .gate, s => settingsLaw s && gateLaw s
  | .settings, s => settingsLaw s
  | .nodeMap, s => nodeMapLaw s
  | .shed, s => shedLaw s
  | .saw, s => sawLaw s
  | .firing, s => firingLaw s
  | .journal, s => journalLaw s
  | .loop, s => loopLaw s
  | .held, s => s.loop.held

/-- The blocks from which a law is read. -/
def Law.reads : Law → List Block
  | .demand => [.gov, .plant]
  | .timer => [.plant, .water]
  | .time => [.time, .plant]
  | .signal => [.edge, .plant]
  | .tooth => [.edge]
  | .gate => [.water, .plant, .tables]
  | .settings => [.tables]
  | .nodeMap => [.tables, .loop]
  | .shed => [.hamlet, .shed, .plant]
  | .saw => [.saw, .plant]
  | .firing => [.firing]
  | .journal => [.journal]
  | .loop => [.loop]
  | .held => [.loop]

/-- The law holds in `t` if it holds in `s`. -/
def Law.Kept (L : Law) (s t : State) : Prop := L.holds s = true → L.holds t = true

/-- Every law that holds in `s` holds in `t`. -/
def Keeps (s t : State) : Prop := ∀ L : Law, L.Kept s t

theorem Law.Kept.rfl {L : Law} {s : State} : L.Kept s s := id

theorem Law.Kept.trans {L : Law} {s t u : State} (hst : L.Kept s t) (htu : L.Kept t u) : L.Kept s u :=
  htu ∘ hst

theorem Keeps.rfl {s : State} : Keeps s s := fun _ => id

theorem Keeps.trans {s t u : State} (hst : Keeps s t) (htu : Keeps t u) : Keeps s u :=
  fun L => (hst L).trans (htu L)

theorem Law.Kept.of_eq {L : Law} {s t : State} (h : L.holds t = L.holds s) : L.Kept s t := by
  rw [Law.Kept, h]
  exact id

/-! ### The fields from which each law is read -/

section
variable {s t : State}

theorem demandLaw_congr (hd : t.gov.d = s.gov.d) (hres : t.gov.residue = s.gov.residue)
    (heng : t.gov.engaged = s.gov.engaged) (hstate : t.plant.state = s.plant.state) :
    demandLaw t = demandLaw s := by simp only [demandLaw, hd, hres, heng, hstate]

theorem timerLaw_congr (hplant : t.plant = s.plant) (htimer : t.water.evalTimer.isSome = s.water.evalTimer.isSome) :
    timerLaw t = timerLaw s := by simp only [timerLaw, State.inPlant, hplant, htimer]

theorem timeLaw_congr (hte : t.time.te = s.time.te) (hdir : t.time.direction = s.time.direction)
    (hstate : t.plant.state = s.plant.state) : timeLaw t = timeLaw s := by
  simp only [timeLaw, State.inPlant, hte, hdir, hstate]

theorem signalLaw_congr (hedge : t.edge = s.edge) (hplant : t.plant = s.plant) :
    signalLaw t = signalLaw s := by simp only [signalLaw, hedge, hplant]

theorem toothLaw_congr (hsilence : t.edge.toothSilence.isSome = s.edge.toothSilence.isSome)
    (hsilent : t.edge.toothSilent = s.edge.toothSilent) (hperiod : t.edge.toothPeriod = s.edge.toothPeriod)
    (hover : t.edge.overspeed = s.edge.overspeed) : toothLaw t = toothLaw s := by
  simp only [toothLaw, hsilence, hsilent, hperiod, hover]

theorem setting_congr (htables : t.tables = s.tables) (i : Nat) : t.setting i = s.setting i := by
  rw [State.setting, State.setting, htables]

theorem settingsLaw_congr (htables : t.tables = s.tables) : settingsLaw t = settingsLaw s := by
  simp only [settingsLaw, setting_congr htables, htables]

theorem gateLaw_congr (hgate : t.water.gate = s.water.gate) (hstate : t.plant.state = s.plant.state)
    (htables : t.tables = s.tables) : gateLaw t = gateLaw s := by
  simp only [gateLaw, setting_congr htables, hgate, hstate]

theorem nodeMapLaw_congr (hmap : t.tables = s.tables) (hown : t.loop.ownAddress = s.loop.ownAddress) :
    nodeMapLaw t = nodeMapLaw s := by simp only [nodeMapLaw, hmap, hown]

theorem shedLaw_congr (hentries : t.hamlet.entries = s.hamlet.entries) (hlist : t.shed.list = s.shed.list)
    (hstate : t.plant.state = s.plant.state) : shedLaw t = shedLaw s := by
  simp only [shedLaw, State.listed, State.inPlant, hentries, hlist, hstate]

theorem sawLaw_congr (hstate : t.saw.state = s.saw.state)
    (hclutch : t.saw.order.clutch = s.saw.order.clutch) (hfeed : t.saw.order.feed = s.saw.order.feed)
    (hgrant : t.saw.grant.isSome = s.saw.grant.isSome) (hrelease : t.saw.releaseOrdered = s.saw.releaseOrdered)
    (hplant : t.plant.state = s.plant.state) : sawLaw t = sawLaw s := by
  simp only [sawLaw, mayEngage, State.inPlant, hstate, hclutch, hfeed, hgrant, hrelease, hplant]

theorem loopLaw_congr (hforward : t.loop.forward = s.loop.forward) (hanswers : t.loop.answers = s.loop.answers)
    (hheld : t.loop.held = s.loop.held) (hslots : t.loop.slots = s.loop.slots) : loopLaw t = loopLaw s := by
  simp only [loopLaw, hforward, hanswers, hheld, hslots]

end

/-- A law holds alike in two states that agree in the blocks it reads. -/
theorem Law.holds_congr (L : Law) {s t : State} (h : ∀ b ∈ L.reads, b.same s t) :
    L.holds t = L.holds s := by
  cases L <;> simp only [Law.reads, List.forall_mem_cons, Block.same, List.not_mem_nil, false_imp_iff,
    implies_true, and_true] at h
  case demand => exact demandLaw_congr (by rw [h.1]) (by rw [h.1]) (by rw [h.1]) (by rw [h.2])
  case timer => exact timerLaw_congr h.1 (by rw [h.2])
  case time => exact timeLaw_congr (by rw [h.1]) (by rw [h.1]) (by rw [h.2])
  case signal => exact signalLaw_congr h.1 h.2
  case tooth => exact toothLaw_congr (by rw [h]) (by rw [h]) (by rw [h]) (by rw [h])
  case gate =>
    obtain ⟨hwater, hplant, htables⟩ := h
    exact congrArg₂ and (settingsLaw_congr htables) (gateLaw_congr (by rw [hwater]) (by rw [hplant]) htables)
  case settings => exact settingsLaw_congr h
  case nodeMap => exact nodeMapLaw_congr h.1 (by rw [h.2])
  case shed => exact shedLaw_congr (by rw [h.1]) (by rw [h.2.1]) (by rw [h.2.2])
  case saw =>
    exact sawLaw_congr (by rw [h.1]) (by rw [h.1]) (by rw [h.1]) (by rw [h.1]) (by rw [h.1]) (by rw [h.2])
  case firing => simp only [Law.holds, firingLaw, h]
  case journal => simp only [Law.holds, journalLaw, h]
  case loop => exact loopLaw_congr (by rw [h]) (by rw [h]) (by rw [h]) (by rw [h])
  case held => simp only [Law.holds, h]

/-- An operation keeps each law that reads none of the blocks it touches. -/
theorem Law.kept_of_keptBut {L : Law} {touched : List Block} {s t : State} (h : KeptBut touched s t)
    (hreads : ∀ b ∈ L.reads, b ∉ touched) : L.Kept s t :=
  .of_eq (L.holds_congr fun b hb => h b (hreads b hb))

/-- An operation keeps every law if it keeps those that read a block it touches. -/
theorem Keeps.of_keptBut {touched : List Block} {s t : State} (h : KeptBut touched s t)
    (hlaws : ∀ L : Law, (∃ b ∈ L.reads, b ∈ touched) → L.Kept s t) : Keeps s t := by
  intro L
  by_cases hL : ∃ b ∈ L.reads, b ∈ touched
  · exact hlaws L hL
  · exact Law.kept_of_keptBut h fun b hb hmem => hL ⟨b, hb, hmem⟩

end Sys2Proof.Proofs
end

section
namespace Sys2Proof.Proofs
open Sys2Proof.Machine Sys2Proof.Safety

/-! ## An update of one block

What such an update must keep is what the laws read of the block. -/

theorem keptBut_mapEdge (f : EdgeCapture → EdgeCapture) (s : State) : KeptBut [.edge] s (s.mapEdge f) := by
  intro b hb; cases b <;> first | rfl | simp at hb
theorem keptBut_mapTime (f : MillTime → MillTime) (s : State) : KeptBut [.time] s (s.mapTime f) := by
  intro b hb; cases b <;> first | rfl | simp at hb
theorem keptBut_mapGov (f : Governor → Governor) (s : State) : KeptBut [.gov] s (s.mapGov f) := by
  intro b hb; cases b <;> first | rfl | simp at hb
theorem keptBut_mapFiring (f : Firing → Firing) (s : State) : KeptBut [.firing] s (s.mapFiring f) := by
  intro b hb; cases b <;> first | rfl | simp at hb
theorem keptBut_mapPlant (f : Plant → Plant) (s : State) : KeptBut [.plant] s (s.mapPlant f) := by
  intro b hb; cases b <;> first | rfl | simp at hb
theorem keptBut_mapWater (f : Water → Water) (s : State) : KeptBut [.water] s (s.mapWater f) := by
  intro b hb; cases b <;> first | rfl | simp at hb
theorem keptBut_mapHamlet (f : Hamlet → Hamlet) (s : State) : KeptBut [.hamlet] s (s.mapHamlet f) := by
  intro b hb; cases b <;> first | rfl | simp at hb
theorem keptBut_mapShed (f : Shedding → Shedding) (s : State) : KeptBut [.shed] s (s.mapShed f) := by
  intro b hb; cases b <;> first | rfl | simp at hb
theorem keptBut_mapSaw (f : Saw → Saw) (s : State) : KeptBut [.saw] s (s.mapSaw f) := by
  intro b hb; cases b <;> first | rfl | simp at hb
theorem keptBut_mapConds (f : List CondCell → List CondCell) (s : State) :
    KeptBut [.conds] s (s.mapConds f) := by
  intro b hb; cases b <;> first | rfl | simp at hb
theorem keptBut_mapJournal (f : Journal → Journal) (s : State) : KeptBut [.journal] s (s.mapJournal f) := by
  intro b hb; cases b <;> first | rfl | simp at hb
theorem keptBut_mapTables (f : TableStore → TableStore) (s : State) :
    KeptBut [.tables] s (s.mapTables f) := by
  intro b hb; cases b <;> first | rfl | simp at hb
theorem keptBut_mapLoop (f : LoopPort → LoopPort) (s : State) : KeptBut [.loop] s (s.mapLoop f) := by
  intro b hb; cases b <;> first | rfl | simp at hb

/-- The signal's and the tooth input's laws are all that is read of the Edge Capture Unit. -/
theorem keeps_mapEdge {f : EdgeCapture → EdgeCapture} {s : State}
    (hsignal : Law.signal.Kept s (s.mapEdge f)) (htooth : Law.tooth.Kept s (s.mapEdge f)) :
    Keeps s (s.mapEdge f) :=
  .of_keptBut (keptBut_mapEdge f s) fun L hL => by
    cases L <;> first | exact hsignal | exact htooth | simp [Law.reads] at hL

/-- An update of the Edge Capture Unit that alters neither the signal nor what the laws read of the teeth. -/
theorem keeps_mapEdge_of_same {f : EdgeCapture → EdgeCapture} {s : State}
    (hsignal : (f s.edge).signal = s.edge.signal) (hfreq : (f s.edge).freq = s.edge.freq)
    (hloss : s.edge.lossTimer.isSome = true → (f s.edge).lossTimer.isSome = true)
    (hsilence : (f s.edge).toothSilence.isSome = s.edge.toothSilence.isSome)
    (hsilent : (f s.edge).toothSilent = s.edge.toothSilent)
    (hperiod : (f s.edge).toothPeriod = s.edge.toothPeriod)
    (hover : (f s.edge).overspeed = s.edge.overspeed) : Keeps s (s.mapEdge f) := by
  refine keeps_mapEdge ?_ ?_
  · intro h
    simp only [Law.holds, signalLaw, State.mapEdge_edge, State.mapEdge_plant, hsignal, hfreq,
      Bool.and_eq_true, Bool.or_eq_true] at h ⊢
    exact ⟨⟨h.1.1, h.1.2.imp_left hloss⟩, h.2⟩
  · exact .of_eq (toothLaw_congr hsilence hsilent hperiod hover)

theorem keeps_mapTime {f : MillTime → MillTime} {s : State} (htime : Law.time.Kept s (s.mapTime f)) :
    Keeps s (s.mapTime f) :=
  .of_keptBut (keptBut_mapTime f s) fun L hL => by cases L <;> first | exact htime | simp [Law.reads] at hL

/-- An update of the mill time that keeps the time error and the correction. -/
theorem keeps_mapTime_of_same {f : MillTime → MillTime} {s : State} (hte : (f s.time).te = s.time.te)
    (hdir : (f s.time).direction = s.time.direction) : Keeps s (s.mapTime f) :=
  keeps_mapTime (.of_eq (timeLaw_congr hte hdir rfl))

theorem keeps_mapGov {f : Governor → Governor} {s : State} (hdemand : Law.demand.Kept s (s.mapGov f)) :
    Keeps s (s.mapGov f) :=
  .of_keptBut (keptBut_mapGov f s) fun L hL => by cases L <;> first | exact hdemand | simp [Law.reads] at hL

/-- An update of the Governor that keeps demand, residue and engaged flag. -/
theorem keeps_mapGov_of_same {f : Governor → Governor} {s : State} (hd : (f s.gov).d = s.gov.d)
    (hres : (f s.gov).residue = s.gov.residue) (heng : (f s.gov).engaged = s.gov.engaged) :
    Keeps s (s.mapGov f) :=
  keeps_mapGov (.of_eq (demandLaw_congr hd hres heng rfl))

theorem keeps_mapFiring {f : Firing → Firing} {s : State} (hfiring : Law.firing.Kept s (s.mapFiring f)) :
    Keeps s (s.mapFiring f) :=
  .of_keptBut (keptBut_mapFiring f s) fun L hL => by
    cases L <;> first | exact hfiring | simp [Law.reads] at hL

/-- An update of the plant that is no entry: the laws of the timers and of the signal read more of it than
its state. -/
theorem keeps_mapPlant {f : Plant → Plant} {s : State} (hstate : (f s.plant).state = s.plant.state)
    (htimer : Law.timer.Kept s (s.mapPlant f)) (hsignal : Law.signal.Kept s (s.mapPlant f)) :
    Keeps s (s.mapPlant f) :=
  .of_keptBut (keptBut_mapPlant f s) fun L hL => by
    cases L with
    | timer => exact htimer
    | signal => exact hsignal
    | demand => exact .of_eq (demandLaw_congr rfl rfl rfl hstate)
    | time => exact .of_eq (timeLaw_congr rfl rfl hstate)
    | gate => exact .of_eq (congrArg₂ and (settingsLaw_congr rfl) (gateLaw_congr rfl hstate rfl))
    | shed => exact .of_eq (shedLaw_congr rfl rfl hstate)
    | saw => exact .of_eq (sawLaw_congr rfl rfl rfl rfl rfl hstate)
    | _ => simp [Law.reads] at hL

/-- An update of the plant that starts no protection timer. -/
theorem keeps_mapPlant_of_same {f : Plant → Plant} {s : State} (hstate : (f s.plant).state = s.plant.state)
    (hrunup : (f s.plant).runupTimer.isSome = s.plant.runupTimer.isSome)
    (hstop : (f s.plant).stopTimer.isSome = s.plant.stopTimer.isSome)
    (hloss : (f s.plant).signalLoss.isSome = true → s.plant.signalLoss.isSome = true)
    (hcollapse : (f s.plant).collapse.isSome = true → s.plant.collapse.isSome = true)
    (hover : (f s.plant).freqOverspeed.isSome = true → s.plant.freqOverspeed.isSome = true) :
    Keeps s (s.mapPlant f) := by
  refine keeps_mapPlant hstate ?_ ?_
  · simp only [Law.Kept, Law.holds, timerLaw, State.inPlant, State.mapPlant_plant, State.mapPlant_water, hstate,
      hrunup, hstop]
    grind
  · simp only [Law.Kept, Law.holds, signalLaw, State.mapPlant_plant, State.mapPlant_edge]
    grind

theorem keeps_mapWater {f : Water → Water} {s : State} (htimer : Law.timer.Kept s (s.mapWater f))
    (hgate : Law.gate.Kept s (s.mapWater f)) : Keeps s (s.mapWater f) :=
  .of_keptBut (keptBut_mapWater f s) fun L hL => by
    cases L <;> first | exact htimer | exact hgate | simp [Law.reads] at hL

/-- An update of the water that keeps the gate's target and neither starts nor stops the evaluation timer. -/
theorem keeps_mapWater_of_same {f : Water → Water} {s : State} (hgate : (f s.water).gate = s.water.gate)
    (htimer : (f s.water).evalTimer.isSome = s.water.evalTimer.isSome) : Keeps s (s.mapWater f) :=
  keeps_mapWater (.of_eq (timerLaw_congr rfl htimer))
    (.of_eq (congrArg₂ and (settingsLaw_congr rfl) (gateLaw_congr hgate rfl rfl)))

theorem keeps_mapHamlet {f : Hamlet → Hamlet} {s : State} (hshed : Law.shed.Kept s (s.mapHamlet f)) :
    Keeps s (s.mapHamlet f) :=
  .of_keptBut (keptBut_mapHamlet f s) fun L hL => by
    cases L <;> first | exact hshed | simp [Law.reads] at hL

theorem keeps_mapShed {f : Shedding → Shedding} {s : State} (hshed : Law.shed.Kept s (s.mapShed f)) :
    Keeps s (s.mapShed f) :=
  .of_keptBut (keptBut_mapShed f s) fun L hL => by
    cases L <;> first | exact hshed | simp [Law.reads] at hL

/-- An update of the Load Shedding Unit that keeps the list. -/
theorem keeps_mapShed_of_same {f : Shedding → Shedding} {s : State} (hlist : (f s.shed).list = s.shed.list) :
    Keeps s (s.mapShed f) :=
  keeps_mapShed (.of_eq (shedLaw_congr rfl hlist rfl))

theorem keeps_mapSaw {f : Saw → Saw} {s : State} (hsaw : Law.saw.Kept s (s.mapSaw f)) :
    Keeps s (s.mapSaw f) :=
  .of_keptBut (keptBut_mapSaw f s) fun L hL => by cases L <;> first | exact hsaw | simp [Law.reads] at hL

/-- An update of the saw that keeps its state, its order but for lamp and echo, and the grant's presence. -/
theorem keeps_mapSaw_of_same {f : Saw → Saw} {s : State} (hstate : (f s.saw).state = s.saw.state)
    (hclutch : (f s.saw).order.clutch = s.saw.order.clutch) (hfeed : (f s.saw).order.feed = s.saw.order.feed)
    (hgrant : (f s.saw).grant.isSome = s.saw.grant.isSome)
    (hrelease : (f s.saw).releaseOrdered = s.saw.releaseOrdered) : Keeps s (s.mapSaw f) :=
  keeps_mapSaw (.of_eq (sawLaw_congr hstate hclutch hfeed hgrant hrelease rfl))

theorem keeps_mapConds (f : List CondCell → List CondCell) (s : State) : Keeps s (s.mapConds f) :=
  .of_keptBut (keptBut_mapConds f s) fun L hL => by cases L <;> simp [Law.reads] at hL

theorem keeps_mapJournal {f : Journal → Journal} {s : State} (hjournal : Law.journal.Kept s (s.mapJournal f)) :
    Keeps s (s.mapJournal f) :=
  .of_keptBut (keptBut_mapJournal f s) fun L hL => by
    cases L <;> first | exact hjournal | simp [Law.reads] at hL

theorem keeps_mapTables {f : TableStore → TableStore} {s : State} (hgate : Law.gate.Kept s (s.mapTables f))
    (hsettings : Law.settings.Kept s (s.mapTables f)) (hmap : Law.nodeMap.Kept s (s.mapTables f)) :
    Keeps s (s.mapTables f) :=
  .of_keptBut (keptBut_mapTables f s) fun L hL => by
    cases L <;> first | exact hgate | exact hsettings | exact hmap | simp [Law.reads] at hL

theorem keeps_mapLoop {f : LoopPort → LoopPort} {s : State} (hloop : Law.loop.Kept s (s.mapLoop f))
    (hown : (f s.loop).ownAddress = s.loop.ownAddress) (hheld : (f s.loop).held = s.loop.held) :
    Keeps s (s.mapLoop f) :=
  .of_keptBut (keptBut_mapLoop f s) fun L hL => by
    cases L with
    | loop => exact hloop
    | nodeMap => exact .of_eq (nodeMapLaw_congr rfl hown)
    | held => exact .of_eq hheld
    | _ => simp [Law.reads] at hL

/-- An update of the Loop Port that alters neither its queues nor its slots. -/
theorem keeps_mapLoop_of_same {f : LoopPort → LoopPort} {s : State}
    (hown : (f s.loop).ownAddress = s.loop.ownAddress) (hheld : (f s.loop).held = s.loop.held)
    (hforward : (f s.loop).forward = s.loop.forward) (hanswers : (f s.loop).answers = s.loop.answers)
    (hslots : (f s.loop).slots = s.loop.slots) : Keeps s (s.mapLoop f) :=
  keeps_mapLoop (.of_eq (loopLaw_congr hforward hanswers hheld hslots)) hown hheld

/-! ## The journal's law (R163) -/

/-- Entries with consecutive sequences from `first` on, and one more with the sequence after them. -/
theorem seqs_append {es : List JournalEntry} {first : Nat} {e : JournalEntry}
    (hseqs : (es.map fun x => x.seq) = List.range' first es.length) (he : e.seq = first + es.length) :
    ((es ++ [e]).map fun x => x.seq) = List.range' first (es ++ [e]).length := by
  rw [List.map_append, hseqs, List.length_append, List.length_singleton, List.range'_concat, one_mul,
    List.map_singleton, he]

/-- An append keeps the sequences consecutive and the entries within 128, at a full journal and at the end of
the sequence numbers too. -/
theorem journalLaw_push {s t : State} (time : Option DayClock) (kind : JournalKind) (subject : Option Nat)
    (value : Int) (ht : t.journal = s.journal.push time kind subject value) : Law.journal.Kept s t := by
  intro h
  simp only [Law.holds, journalLaw, Bool.and_eq_true, decide_eq_true_eq, beq_iff_eq] at h ⊢
  obtain ⟨⟨⟨hlen, hnext⟩, hlt⟩, hseq⟩ := h
  rw [ht, Journal.push]
  by_cases hend : s.journal.next = 4294967295
  · simp [hend]
  simp only [hend, if_false]
  generalize hheld : (if 128 ≤ s.journal.entries.length then s.journal.entries.drop 1 else s.journal.entries) =
    held
  have hshort : held.length ≤ 127 ∧ held.length ≤ s.journal.entries.length := by
    subst hheld; split <;> simp <;> omega
  have hheldSeq : (held.map fun x => x.seq) = List.range' (s.journal.next - held.length) held.length := by
    subst hheld
    split
    · rw [List.map_drop, hseq, List.drop_range', List.length_drop]
      congr 1
      omega
    · exact hseq
  have hseqs := seqs_append (e := ⟨s.journal.next, time, kind, subject, value⟩) hheldSeq
    (show s.journal.next = _ from (Nat.sub_add_cancel (by omega)).symm)
  rw [hseqs]
  simp only [List.length_append, List.length_singleton]
  refine ⟨⟨⟨by omega, by omega⟩, by omega⟩, ?_⟩
  congr 1
  omega

theorem journalAppend_keeps (kind : JournalKind) (subject : Option Nat) (value : Int) (s : State) :
    Keeps s (journalAppend kind subject value s) :=
  keeps_mapJournal (journalLaw_push _ _ _ _ rfl)

/-! ## The queues and the slots (R159, R173, R174) -/

/-- What the law of the Loop Port asks. -/
theorem loopLaw_iff (s : State) : loopLaw s = true ↔
    s.loop.forward.length ≤ 4 ∧ s.loop.answers.length + (if s.loop.held then 1 else 0) ≤ 8 ∧
      s.loop.slots.length = 8 ∧ ∀ x ∈ s.loop.slots, x.pending = true → x.contents.isSome = true := by
  simp only [loopLaw, Bool.and_eq_true, decide_eq_true_eq, List.all_eq_true, Bool.or_eq_true, Bool.not_eq_true',
    ← Bool.not_eq_true, ← imp_iff_not_or, and_assoc]

theorem answerRoom_iff (s : State) :
    s.answerRoom = true ↔ s.loop.answers.length + (if s.loop.held then 1 else 0) < 8 := by
  simp [State.answerRoom]

theorem offerNotice_keeps (c : Condition) (subject : Option Nat) (s : State) :
    Keeps s (offerNotice c subject s) := by
  unfold offerNotice
  split
  case isFalse => exact .rfl
  case isTrue h =>
    simp only [Bool.and_eq_true, answerRoom_iff] at h
    refine keeps_mapLoop ?_ rfl rfl
    simp only [Law.Kept, Law.holds, loopLaw_iff, State.mapLoop_loop, List.length_append, List.length_singleton]
    rintro ⟨hforward, -, hslots⟩
    exact ⟨hforward, Nat.add_right_comm _ 1 _ ▸ h.2, hslots⟩

theorem raise_keeps (c : Condition) (subject : Option Nat) (s : State) : Keeps s (raise c subject s) := by
  unfold raise
  split
  · exact keeps_mapConds _ s
  · exact (keeps_mapConds _ s).trans ((keeps_mapConds _ _).trans
      ((journalAppend_keeps _ _ _ _).trans (offerNotice_keeps _ _ _)))

theorem causeEnd_keeps (c : Condition) (s : State) : Keeps s (causeEnd c s) := keeps_mapConds _ s

/-- A change of one slot to contents that are there if it is pending. -/
theorem setSlot_keeps (k : Nat) (x : Slot) (hx : x.pending = true → x.contents.isSome = true) (s : State) :
    Keeps s (s.mapLoop fun l => { l with slots := l.slots.set k x }) := by
  refine keeps_mapLoop ?_ rfl rfl
  simp only [Law.Kept, Law.holds, loopLaw_iff, State.mapLoop_loop, List.length_set]
  rintro ⟨hforward, hanswers, hlength, hslots⟩
  refine ⟨hforward, hanswers, hlength, fun y hy => ?_⟩
  rcases List.mem_or_eq_of_mem_set hy with hmem | rfl
  · exact hslots y hmem
  · exact hx

theorem writeSlot_keeps (k : Nat) (o : Order) (s : State) : Keeps s (writeSlot k o s) :=
  setSlot_keeps k _ (fun _ => rfl) s

theorem emptySlot_keeps (k : Nat) (s : State) : Keeps s (emptySlot k s) :=
  setSlot_keeps k _ (by simp) s

theorem writeGateSlot_keeps (s : State) : Keeps s (writeGateSlot s) := writeSlot_keeps _ _ s

theorem writeFeederSlot_keeps (k : Nat) (s : State) : Keeps s (writeFeederSlot k s) := by
  unfold writeFeederSlot
  split
  · exact writeSlot_keeps _ _ s
  · exact .rfl

theorem writeSawSlot_keeps (s : State) : Keeps s (writeSawSlot s) := by
  unfold writeSawSlot
  split
  · exact writeSlot_keeps _ _ s
  · exact .rfl

theorem requestGain_keeps (g : GainSet) (s : State) : Keeps s (requestGain g s) :=
  keeps_mapGov_of_same rfl rfl rfl

end Sys2Proof.Proofs
end

section
namespace Sys2Proof.Proofs
open Sys2Proof.Machine Sys2Proof.Safety

/-! ## The law of the shed list (R110, R114) -/

/-- The law of the shed list, circuit by circuit; an index past the table reads as a blank circuit, of which
it says nothing. -/
structure ShedLaw (s : State) : Prop where
  length : s.hamlet.entries.length = 48
  nodup : (s.shed.list.map fun e => e.circuit).Nodup
  inside : ∀ e ∈ s.shed.list, e.circuit < 48
  shed_iff : ∀ i, (s.circuit i).state = .shed ↔ s.listed i = true
  tier : ∀ i, (s.circuit i).state = .shed → 1 ≤ (s.circuit i).tier
  strikes : ∀ i, (s.circuit i).strikes ≤ 9
  quiet : s.plant.state = .run ∨ s.shed.list = [] ∧ ∀ i, circuitInUse (s.circuit i) = false

/-- What holds of every entry of the table, and of a blank one, holds of every circuit read. -/
theorem forall_circuit_iff {s : State} {P : Circuit → Nat → Prop}
    (hblank : ∀ i, s.hamlet.entries.length ≤ i → P Circuit.blank i) :
    (∀ x ∈ s.hamlet.entries.zipIdx, P x.1 x.2) ↔ ∀ i, P (s.circuit i) i := by
  constructor
  · intro h i
    by_cases hi : i < s.hamlet.entries.length
    · rw [circuit_of_lt hi]
      exact h (_, i) (by simp [List.mem_zipIdx_iff_getElem?, hi])
    · rw [circuit_of_le (Nat.le_of_not_lt hi)]
      exact hblank i (Nat.le_of_not_lt hi)
  · rintro h ⟨c, i⟩ hmem
    rw [List.mem_zipIdx_iff_getElem?] at hmem
    have hc : s.circuit i = c := by simp [State.circuit, List.getD_eq_getElem?_getD, hmem]
    exact hc ▸ h i

theorem listed_iff {s : State} {i : Nat} : s.listed i = true ↔ ∃ e ∈ s.shed.list, e.circuit = i := by
  simp [State.listed]

theorem forall_entries_iff {s : State} {P : Circuit → Prop} (hblank : P Circuit.blank) :
    (∀ c ∈ s.hamlet.entries, P c) ↔ ∀ i, P (s.circuit i) := by
  rw [← forall_circuit_iff (P := fun c _ => P c) fun _ _ => hblank]
  constructor
  · rintro h ⟨c, i⟩ hmem
    exact h c (List.fst_mem_of_mem_zipIdx hmem)
  · intro h c hc
    obtain ⟨i, hi, rfl⟩ := List.getElem_of_mem hc
    exact h (_, i) (by simp [List.mem_zipIdx_iff_getElem?, hi])

theorem shedLaw_iff {s : State} : shedLaw s = true ↔ ShedLaw s := by
  have hquiet : (∀ c ∈ s.hamlet.entries, circuitInUse c = false) ↔ ∀ i, circuitInUse (s.circuit i) = false :=
    forall_entries_iff rfl
  have hstrikes : (∀ c ∈ s.hamlet.entries, c.strikes ≤ 9) ↔ ∀ i, (s.circuit i).strikes ≤ 9 :=
    forall_entries_iff (by decide)
  simp only [shedLaw, Bool.and_eq_true, decide_eq_true_eq, List.all_eq_true, Bool.or_eq_true, State.inPlant,
    beq_iff_eq, Bool.not_eq_true', hstrikes, hquiet, List.isEmpty_iff, bne_iff_ne]
  constructor
  · rintro ⟨⟨⟨⟨⟨hlen, hnodup⟩, hinside⟩, hentries⟩, hstrikes⟩, hquiet⟩
    have hout : ∀ i, s.hamlet.entries.length ≤ i → s.listed i = false := by
      intro i hi
      rw [← Bool.not_eq_true, listed_iff]
      rintro ⟨e, he, rfl⟩
      exact absurd (hinside e he) (by omega)
    rw [forall_circuit_iff (P := fun c i => ((c.state == .shed) = s.listed i) ∧ (c.state ≠ .shed ∨ 1 ≤ c.tier))
      fun i hi => by simp [hout i hi, Circuit.blank]] at hentries
    refine ⟨hlen, hnodup, hinside, fun i => ?_, fun i hi => ((hentries i).2.resolve_left (not_not.mpr hi)),
      hstrikes, hquiet⟩
    rw [← (hentries i).1, beq_iff_eq]
  · rintro ⟨hlen, hnodup, hinside, hshed, htier, hstrikes, hquiet⟩
    refine ⟨⟨⟨⟨⟨hlen, hnodup⟩, hinside⟩, ?_⟩, hstrikes⟩, hquiet⟩
    have hall : ∀ i, ((s.circuit i).state == .shed) = s.listed i ∧
        ((s.circuit i).state ≠ .shed ∨ 1 ≤ (s.circuit i).tier) := fun i =>
      ⟨Bool.eq_iff_iff.mpr (beq_iff_eq.trans (hshed i)), not_or_of_imp (htier i)⟩
    rwa [forall_circuit_iff (P := fun c i => ((c.state == .shed) = s.listed i) ∧ (c.state ≠ .shed ∨ 1 ≤ c.tier))
      fun i hi => by simpa [circuit_of_le hi] using hall i]

/-- A change of circuits that lists and removes none, and takes none into use outside RUN. -/
theorem ShedLaw.of_circuits {s t : State} (h : ShedLaw s)
    (hlength : t.hamlet.entries.length = s.hamlet.entries.length) (hlist : t.shed.list = s.shed.list)
    (hplant : t.plant.state = s.plant.state)
    (hcircuit : ∀ i, ((t.circuit i).state = .shed ↔ (s.circuit i).state = .shed) ∧
      ((s.circuit i).state = .shed → (t.circuit i).tier = (s.circuit i).tier) ∧
      ((s.circuit i).strikes ≤ 9 → (t.circuit i).strikes ≤ 9) ∧
      (s.plant.state = .run ∨ (circuitInUse (s.circuit i) = false → circuitInUse (t.circuit i) = false))) :
    ShedLaw t where
  length := hlength.trans h.length
  nodup := hlist ▸ h.nodup
  inside := hlist ▸ h.inside
  shed_iff i := by rw [(hcircuit i).1, h.shed_iff, State.listed, State.listed, hlist]
  tier i hi := by
    have hs := (hcircuit i).1.mp hi
    rw [(hcircuit i).2.1 hs]
    exact h.tier i hs
  strikes i := (hcircuit i).2.2.1 (h.strikes i)
  quiet := by
    rcases h.quiet with hrun | ⟨hnil, huse⟩
    · exact .inl (hplant.trans hrun)
    · by_cases hrun : s.plant.state = .run
      · exact .inl (hplant.trans hrun)
      · exact .inr ⟨hlist.trans hnil, fun i => (hcircuit i).2.2.2.resolve_left hrun (huse i)⟩

/-- A change of one circuit that keeps its state and tier, and its strikes within 9. -/
theorem modifyCircuit_keeps {i : Nat} {f : Circuit → Circuit} {s : State}
    (hstate : (f (s.circuit i)).state = (s.circuit i).state)
    (htier : (f (s.circuit i)).tier = (s.circuit i).tier ∨ (s.circuit i).state ≠ .shed)
    (hstrikes : (s.circuit i).strikes ≤ 9 → (f (s.circuit i)).strikes ≤ 9) : Keeps s (modifyCircuit i f s) := by
  refine keeps_mapHamlet fun h => shedLaw_iff.mpr ((shedLaw_iff.mp h).of_circuits (by simp) rfl rfl fun j => ?_)
  have hread := circuit_modifyCircuit i j f s
  rw [modifyCircuit] at hread
  rw [hread]
  by_cases hj : i = j ∧ j < s.hamlet.entries.length
  · obtain ⟨rfl, hlt⟩ := hj
    simp only [hlt, and_self, if_true]
    exact ⟨by rw [hstate], fun hs => htier.resolve_right (not_not.mpr hs), hstrikes,
      .inr fun hu => by rwa [circuitInUse, hstate]⟩
  · rw [if_neg hj]
    exact ⟨Iff.rfl, fun _ => rfl, id, .inr id⟩

/-- A circuit in this state is supplied or waits to be. -/
theorem circuitInUse_eq_false_of_state {c : Circuit} (h : c.state ≠ .closed) (h' : c.state ≠ .limitOpen)
    (h'' : c.state ≠ .shed) : circuitInUse c = false := by
  unfold circuitInUse
  cases hc : c.state <;> simp_all

/-- A circuit that is not SHED and moves to another state than SHED; into use it comes in RUN only. -/
theorem moveCircuit_keeps {i : Nat} {st : CircuitState} {s : State} (hfrom : (s.circuit i).state ≠ .shed)
    (hto : st ≠ .shed)
    (huse : (st = .closed ∨ st = .limitOpen) → s.plant.state = .run ∨ circuitInUse (s.circuit i) = true) :
    Keeps s (moveCircuit i st s) := by
  have hmove : Keeps s (modifyCircuit i (Circuit.move st) s) := by
    refine keeps_mapHamlet fun h =>
      shedLaw_iff.mpr ((shedLaw_iff.mp h).of_circuits (by simp) rfl rfl fun j => ?_)
    have hread := circuit_modifyCircuit i j (Circuit.move st) s
    rw [modifyCircuit] at hread
    rw [hread]
    by_cases hj : i = j ∧ j < s.hamlet.entries.length
    · obtain ⟨rfl, hlt⟩ := hj
      simp only [hlt, and_self, if_true, move_state, move_tier, move_strikes]
      refine ⟨by simp [hfrom, hto], fun _ => trivial, id, ?_⟩
      by_cases hst : st = .closed ∨ st = .limitOpen
      · rcases huse hst with hrun | hu
        · exact .inl hrun
        · exact .inr fun hf => by rw [hf] at hu; cases hu
      · rw [not_or] at hst
        exact .inr fun _ => circuitInUse_eq_false_of_state hst.1 hst.2 hto
    · rw [if_neg hj]
      exact ⟨Iff.rfl, fun _ => rfl, id, .inr id⟩
  unfold moveCircuit
  dsimp only
  split
  · exact hmove
  · exact hmove.trans (writeFeederSlot_keeps _ _)

/-! ## Appends to the list and removals from it (R115, R126) -/

/-- The laws that are read neither of the circuits, nor of the shed list, nor of the plant: an operation that
moves a circuit and lists it keeps them at each of its parts. -/
def Law.Apart (L : Law) : Prop := Block.hamlet ∉ L.reads ∧ Block.shed ∉ L.reads

theorem kept_mapHamlet {L : Law} (hL : L.Apart) (f : Hamlet → Hamlet) (s : State) :
    L.Kept s (s.mapHamlet f) :=
  Law.kept_of_keptBut (keptBut_mapHamlet f s) fun _ hb hmem => hL.1 (List.mem_singleton.mp hmem ▸ hb)

theorem kept_mapShed {L : Law} (hL : L.Apart) (f : Shedding → Shedding) (s : State) :
    L.Kept s (s.mapShed f) :=
  Law.kept_of_keptBut (keptBut_mapShed f s) fun _ hb hmem => hL.2 (List.mem_singleton.mp hmem ▸ hb)

theorem Law.apart_or_shed (L : Law) : L.Apart ∨ L = .shed := by
  cases L <;> simp [Law.Apart, Law.reads]

theorem kept_moveCircuit {L : Law} (hL : L.Apart) (i : Nat) (st : CircuitState) (s : State) :
    L.Kept s (moveCircuit i st s) := by
  unfold moveCircuit
  dsimp only
  split
  · exact kept_mapHamlet hL _ s
  · exact (kept_mapHamlet hL _ s).trans (writeFeederSlot_keeps _ _ L)

/-- A taken append lists a circuit of tier 1 or more, which moves to SHED. -/
theorem appendTaken_keeps {i : Nat} (cause : ShedCause) {s : State} (hrun : s.plant.state = .run)
    (htier : 1 ≤ (s.circuit i).tier) (hlisted : s.listed i = false) : Keeps s (appendTaken i cause s) := by
  intro L
  rcases L.apart_or_shed with hL | rfl
  · unfold appendTaken
    dsimp only
    have hmove : ∀ e, L.Kept s (journalAppend .shed (some i) cause.code (moveCircuit i .shed (pushShed e s))) :=
      fun e => ((kept_mapShed hL _ s).trans (kept_moveCircuit hL i .shed _)).trans
        (journalAppend_keeps _ _ _ _ L)
    split
    · exact (hmove _).trans (raise_keeps _ _ _ L)
    · exact hmove _
  intro h
  obtain ⟨hlen, hnodup, hinside, hshed, htiers, hstrikes, -⟩ := shedLaw_iff.mp h
  have hi : i < 48 := by
    by_contra hge
    rw [circuit_of_le (by omega)] at htier
    exact absurd htier (by decide)
  have hnot : ∀ e ∈ s.shed.list, e.circuit ≠ i := by
    intro e he hei
    rw [← Bool.not_eq_true, listed_iff] at hlisted
    exact hlisted ⟨e, he, hei⟩
  have hread : ∀ j, (appendTaken i cause s).circuit j =
      if i = j then (s.circuit j).move .shed else s.circuit j := by
    intro j
    rw [circuit_appendTaken, hlen]
    by_cases hij : i = j
    · simp [hij, hij ▸ hi]
    · simp [hij]
  have hlist : ∀ j, (appendTaken i cause s).listed j = true ↔ s.listed j = true ∨ i = j := by
    intro j
    simp [State.listed]
  refine shedLaw_iff.mpr ⟨by simp [hlen], ?_, ?_, fun j => ?_, fun j => ?_, fun j => ?_, .inl (by simp [hrun])⟩
  · rw [appendTaken_shed, List.map_append, List.nodup_append]
    refine ⟨hnodup, by simp, ?_⟩
    rintro _ ha _ hb rfl
    obtain ⟨e, he, rfl⟩ := List.mem_map.mp ha
    simp only [List.map_cons, List.map_nil, List.mem_singleton] at hb
    exact hnot e he hb
  · intro e he
    rw [appendTaken_shed, List.mem_append, List.mem_singleton] at he
    rcases he with he | rfl
    · exact hinside e he
    · exact hi
  · rw [hread, hlist, ← hshed]
    by_cases hij : i = j <;> simp [hij]
  · rw [hread]
    by_cases hij : i = j
    · subst hij
      simpa using htier
    · simpa [hij] using htiers j
  · rw [hread]
    by_cases hij : i = j <;> simpa [hij] using hstrikes j

/-- An append request keeps the laws: it is taken with its own checks, or changes nothing. -/
theorem appendRequest_keeps (i : Nat) (cause : ShedCause) (s : State) : Keeps s (appendRequest i cause s) := by
  rcases appendRequest_cases i cause s with ⟨hrun, htier, hlisted, heq⟩ | heq
  · rw [heq]
    exact appendTaken_keeps cause (by simpa [State.inPlant] using hrun) htier hlisted
  · rw [heq]
    exact .rfl

/-- A circuit leaves the list and moves out of SHED; to CLOSED it moves in RUN only. -/
theorem moveCircuit_removeShed_keeps {i : Nat} {st : CircuitState} {s : State} (hto : st ≠ .shed)
    (huse : (st = .closed ∨ st = .limitOpen) → s.plant.state = .run) :
    Keeps s (moveCircuit i st (removeShed i s)) := by
  intro L
  rcases L.apart_or_shed with hL | rfl
  · exact (kept_mapShed hL _ s).trans (kept_moveCircuit hL i st _)
  intro h
  obtain ⟨hlen, hnodup, hinside, hshed, htiers, hstrikes, hquiet⟩ := shedLaw_iff.mp h
  have hsub : (moveCircuit i st (removeShed i s)).shed.list = s.shed.list.filter fun e => e.circuit != i := by
    simp [removeShed]
  have hread : ∀ j, (moveCircuit i st (removeShed i s)).circuit j =
      if i = j ∧ j < 48 then (s.circuit j).move st else s.circuit j := by
    intro j
    rw [circuit_moveCircuit]
    simp [hlen, removeShed]
  have hlist : ∀ j, (moveCircuit i st (removeShed i s)).listed j = true ↔ s.listed j = true ∧ i ≠ j := by
    intro j
    simp only [listed_iff, hsub, List.mem_filter, bne_iff_ne]
    constructor
    · rintro ⟨e, ⟨he, hne⟩, rfl⟩
      exact ⟨⟨e, he, rfl⟩, hne.symm⟩
    · rintro ⟨⟨e, he, rfl⟩, hne⟩
      exact ⟨e, ⟨he, hne.symm⟩, rfl⟩
  refine shedLaw_iff.mpr ⟨by simp [hlen], ?_, ?_, fun j => ?_, fun j => ?_, fun j => ?_, ?_⟩
  · rw [hsub]
    exact hnodup.sublist (List.filter_sublist.map _)
  · rw [hsub]
    exact fun e he => hinside e (List.mem_of_mem_filter he)
  · rw [hread, hlist, ← hshed]
    by_cases hij : i = j
    · subst hij
      by_cases hi : i < 48
      · simp [hi, hto]
      · simp [hi, circuit_of_le (show s.hamlet.entries.length ≤ i by omega), Circuit.blank]
    · simp [hij]
  · rw [hread]
    split
    · intro hs
      exact absurd hs hto
    · exact htiers j
  · rw [hread]
    split
    · exact hstrikes j
    · exact hstrikes j
  · rcases hquiet with hrun | ⟨hnil, hunused⟩
    · exact .inl (by simp [hrun])
    by_cases hst : st = .closed ∨ st = .limitOpen
    · exact .inl (by simp [huse hst])
    refine .inr ⟨by rw [hsub, hnil]; rfl, fun j => ?_⟩
    rw [hread]
    split
    · rw [not_or] at hst
      exact circuitInUse_eq_false_of_state hst.1 hst.2 hto
    · exact hunused j

/-- A relabelling keeps the circuits of the list (R128). -/
theorem relabel_keeps (s : State) : Keeps s (relabel s) := by
  refine keeps_mapShed fun h => shedLaw_iff.mpr ?_
  obtain ⟨hlen, hnodup, hinside, hshed, htiers, hstrikes, hquiet⟩ := shedLaw_iff.mp h
  have hcircuit : ∀ e : ShedEntry, (if e.cause = .saw then { e with cause := .frequency } else e).circuit =
      e.circuit := fun e => by split <;> rfl
  refine ⟨hlen, ?_, ?_, fun i => ?_, htiers, hstrikes, ?_⟩
  · simpa [Function.comp_def, hcircuit] using hnodup
  · simpa [hcircuit] using hinside
  · simpa [listed_iff, hcircuit] using hshed i
  · simpa using hquiet

end Sys2Proof.Proofs
end

section
namespace Sys2Proof.Proofs
open Sys2Proof.Machine Sys2Proof.Safety

/-! ## The law of the saw (R133, R139 to R150) -/

/-- What the law of the saw says of it in a plant state. -/
structure SawLaw (w : Saw) (p : PlantState) : Prop where
  engage : w.order.clutch = .engage → mayEngage w = true
  feed : w.order.feed ≠ 0 → w.state = .running
  grant : w.grant.isSome = true ↔ w.state = .running
  away : w.state = .idle ∨ p = .run ∨ w.state = .stopping ∧ p = .stopping

theorem sawLaw_iff {s : State} : sawLaw s = true ↔ SawLaw s.saw s.plant.state := by
  simp only [sawLaw, State.inPlant, Bool.and_eq_true, Bool.or_eq_true, bne_iff_ne, beq_iff_eq, ne_eq,
    ← imp_iff_not_or, or_iff_not_imp_left (a := s.saw.order.feed = 0), Bool.eq_iff_iff (b := _ == _), and_assoc,
    or_assoc]
  exact ⟨fun ⟨h₁, h₂, h₃, h₄⟩ => ⟨h₁, h₂, h₃, h₄⟩, fun ⟨h₁, h₂, h₃, h₄⟩ => ⟨h₁, h₂, h₃, h₄⟩⟩

theorem sawKept_of_imp {s t : State} (h : SawLaw s.saw s.plant.state → SawLaw t.saw t.plant.state) :
    Law.saw.Kept s t := fun hs => sawLaw_iff.mpr (h (sawLaw_iff.mp hs))

/-- A change of the saw with its order set: what counts is the saw that results. -/
theorem setSawOrder_mapSaw_keeps {o : SawOrder} {f : Saw → Saw} {s : State}
    (h : SawLaw s.saw s.plant.state → SawLaw { f s.saw with order := o } s.plant.state) :
    Keeps s (setSawOrder o (s.mapSaw f)) := by
  have hapart : ∀ L : Law, L = .saw ∨ Block.saw ∉ L.reads := by intro L; cases L <;> simp [Law.reads]
  intro L
  rcases hapart L with rfl | hL
  · refine sawKept_of_imp fun hs => ?_
    simpa using h hs
  · have hmap : ∀ (g : Saw → Saw) (t : State), L.Kept t (t.mapSaw g) := fun g t =>
      Law.kept_of_keptBut (keptBut_mapSaw g t) fun _ hb hmem => hL (List.mem_singleton.mp hmem ▸ hb)
    unfold setSawOrder
    dsimp only
    split
    · exact hmap f s
    · split
      · exact (hmap f s).trans ((hmap _ _).trans (writeSlot_keeps _ _ _ L))
      · exact (hmap f s).trans (hmap _ _)

/-- A new order that engages nothing and feeds nothing that was not engaged or fed before. -/
theorem setSawOrder_keeps {o : SawOrder} {s : State}
    (hclutch : o.clutch = .release ∨ o.clutch = s.saw.order.clutch)
    (hfeed : o.feed = s.saw.order.feed ∨ s.saw.state = .running) : Keeps s (setSawOrder o s) := by
  refine setSawOrder_mapSaw_keeps (f := id) fun h => ⟨fun he => ?_, fun hf => ?_, h.grant, h.away⟩
  · rcases hclutch with hrel | hsame
    · exact absurd (hrel.symm.trans he) (by decide)
    · exact h.engage (hsame ▸ he)
  · rcases hfeed with hsame | hrun
    · exact h.feed (hsame ▸ hf)
    · exact hrun

theorem setVerdict_keeps (n : Nat) (v : Verdict) (s : State) : Keeps s (setVerdict n v s) :=
  setSawOrder_keeps (.inr rfl) (.inl rfl)

theorem setLamp_keeps (lamp : Lamp) (s : State) : Keeps s (setLamp lamp s) :=
  setSawOrder_keeps (.inr rfl) (.inl rfl)

/-- At rest the law asks nothing of the plant. -/
theorem sawLaw_rest (w : Saw) (lamp : Lamp) (p : PlantState) :
    SawLaw { w.rest with order := { w.order with clutch := .release, feed := 0, lamp := lamp } } p :=
  ⟨by simp, by simp, by simp [Saw.rest], .inl rfl⟩

theorem enterSawIdle_keeps (lamp : Lamp) (s : State) : Keeps s (enterSawIdle lamp s) :=
  (setSawOrder_mapSaw_keeps fun _ => sawLaw_rest s.saw lamp _).trans
    ((requestGain_keeps _ _).trans ((relabel_keeps _).trans (journalAppend_keeps _ _ _ _)))

/-- From IDLE, with the plant in RUN. -/
theorem enterReserving_keeps {s : State} (hidle : s.saw.state = .idle) (hrun : s.plant.state = .run) :
    Keeps s (enterReserving s) := by
  refine Keeps.trans (setSawOrder_mapSaw_keeps fun h => ?_) (journalAppend_keeps _ _ _ _)
  refine ⟨fun he => ?_, fun hf => ?_, ?_, .inr (.inl hrun)⟩
  · simpa [mayEngage, hidle] using h.engage he
  · simpa [hidle] using h.feed hf
  · simpa [hidle] using h.grant

/-- From RESERVING, where the plant is in RUN by the law itself. -/
theorem enterEngaging_keeps {s : State} (hres : s.saw.state = .reserving) : Keeps s (enterEngaging s) := by
  refine Keeps.trans (setSawOrder_mapSaw_keeps fun h => ?_)
    ((requestGain_keeps _ _).trans (journalAppend_keeps _ _ _ _))
  have hrun : s.plant.state = .run := by simpa [hres] using h.away
  exact ⟨fun _ => rfl, by simp, by simpa [hres] using h.grant, .inr (.inl hrun)⟩

/-- From ENGAGING. -/
theorem enterRunning_keeps {s : State} (heng : s.saw.state = .engaging) : Keeps s (enterRunning s) := by
  refine Keeps.trans (setSawOrder_mapSaw_keeps fun h => ?_) (journalAppend_keeps _ _ _ _)
  have hrun : s.plant.state = .run := by simpa [heng] using h.away
  exact ⟨fun _ => rfl, fun _ => rfl, by simp, .inr (.inl hrun)⟩

/-- The saw that stops, in RUN or with the plant stopping. -/
theorem sawLaw_stopping (w : Saw) (n : Option Nat) {p : PlantState} (hp : p = .run ∨ p = .stopping) :
    SawLaw { w with
      state := .stopping, reserve := none, settle := none, confirm := none, grant := none, rundown := n
      releaseOrdered := false, order := { w.order with feed := 0, lamp := .stop } } p :=
  ⟨fun _ => rfl, by simp, by simp, .inr (hp.imp_right fun h => ⟨rfl, h⟩)⟩

/-- From any state but IDLE. -/
theorem enterSawStopping_keeps {s : State} (hnot : s.saw.state ≠ .idle) : Keeps s (enterSawStopping s) :=
  Keeps.trans (setSawOrder_mapSaw_keeps fun h =>
    sawLaw_stopping s.saw _ ((h.away.resolve_left hnot).imp_right And.right)) (journalAppend_keeps _ _ _ _)

/-- From STOPPING. -/
theorem orderRelease_keeps {s : State} (hstop : s.saw.state = .stopping) : Keeps s (orderRelease s) := by
  refine setSawOrder_mapSaw_keeps fun h => ⟨by simp, fun hf => ?_, ?_, ?_⟩
  · simpa [hstop] using h.feed hf
  · simpa [hstop] using h.grant
  · simpa [hstop] using h.away

theorem denyReservation_keeps (reason : Nat) (s : State) : Keeps s (denyReservation reason s) :=
  (journalAppend_keeps _ _ _ _).trans (enterSawIdle_keeps _ _)

theorem clutchFails_keeps {s : State} (hnot : s.saw.state ≠ .idle) : Keeps s (clutchFails s) :=
  (raise_keeps _ _ _).trans (enterSawStopping_keeps (by simpa using hnot))

theorem clutchFailsToIdle_keeps (s : State) : Keeps s (clutchFailsToIdle s) :=
  (raise_keeps _ _ _).trans (enterSawIdle_keeps _ _)

/-! ### The operator's requests and the reports -/

/-- The verdict leaves the saw's state. -/
@[simp] theorem setVerdict_saw (n : Nat) (v : Verdict) (s : State) :
    (setVerdict n v s).saw = { s.saw with order := { s.saw.order with echo := n, verdict := v } } := by
  simp [setVerdict]

theorem startRequest_keeps {n : Nat} {s : State} (hidle : s.saw.state = .idle) :
    Keeps s (startRequest n s) := by
  unfold startRequest
  split
  case h_1 hnone =>
    have hrun : s.plant.state = .run := by
      by_contra h
      simp [State.startDenial, State.inPlant, h] at hnone
    exact (setVerdict_keeps _ _ _).trans (enterReserving_keeps (by simpa using hidle) (by simpa using hrun))
  case h_2 =>
    exact (setVerdict_keeps _ _ _).trans ((setLamp_keeps _ _).trans (journalAppend_keeps _ _ _ _))

theorem extendRequest_keeps (n : Nat) (s : State) : Keeps s (extendRequest n s) := by
  unfold extendRequest
  split
  · next g hg =>
    split
    · exact (keeps_mapSaw_of_same rfl rfl rfl (by simp [hg]) rfl).trans (setVerdict_keeps _ _ _)
    · exact setVerdict_keeps _ _ _
  · exact setVerdict_keeps _ _ _

theorem takeRequest_keeps (n : Nat) (r : SawRequest) (s : State) : Keeps s (takeRequest n r s) := by
  unfold takeRequest
  split
  case h_2 hidle => exact startRequest_keeps hidle
  case h_9 => exact (setVerdict_keeps _ _ _).trans (enterSawIdle_keeps _ _)
  case h_12 => exact extendRequest_keeps _ _
  case h_11 hnot _ _ _ =>
    exact (setVerdict_keeps _ _ _).trans (enterSawStopping_keeps (by simpa using fun h => by simp_all))
  all_goals first
    | exact setVerdict_keeps _ _ _
    | exact (setVerdict_keeps _ _ _).trans (setLamp_keeps _ _)

theorem operatorRequest_keeps (n : Nat) (r : SawRequest) (s : State) : Keeps s (operatorRequest n r s) := by
  have hnumber : Keeps s (s.mapSaw fun w => { w with lastNumber := some n }) :=
    keeps_mapSaw_of_same rfl rfl rfl rfl rfl
  unfold operatorRequest
  dsimp only
  split
  · exact hnumber.trans (setVerdict_keeps _ _ _)
  · split
    · exact .rfl
    · exact hnumber.trans (takeRequest_keeps _ _ _)

theorem clutchInEngaging_keeps {c : ClutchReport} {s : State} (heng : s.saw.state = .engaging) :
    Keeps s (clutchInEngaging c s) := by
  have hnot : s.saw.state ≠ .idle := by simp [heng]
  unfold clutchInEngaging
  split
  · split
    · exact .rfl
    · exact keeps_mapSaw_of_same rfl rfl rfl rfl rfl
  · split
    · exact clutchFails_keeps hnot
    · exact .rfl
  · exact clutchFails_keeps hnot
  · exact .rfl

theorem clutchInRunning_keeps {c : ClutchReport} {s : State} (hrun : s.saw.state = .running) :
    Keeps s (clutchInRunning c s) := by
  have hnot : s.saw.state ≠ .idle := by simp [hrun]
  unfold clutchInRunning
  split
  · exact clutchFails_keeps hnot
  · exact clutchFails_keeps hnot
  · exact .rfl
  · exact .rfl

theorem clutchInStopping_keeps (c : ClutchReport) (s : State) : Keeps s (clutchInStopping c s) := by
  unfold clutchInStopping
  split
  · split
    · exact enterSawIdle_keeps _ _
    · exact .rfl
  · split
    · exact clutchFailsToIdle_keeps _
    · exact raise_keeps _ _ _
  · exact .rfl
  · exact .rfl

theorem applyClutch_keeps (c : ClutchReport) (s : State) : Keeps s (applyClutch c s) := by
  have hstored : Keeps s (s.mapSaw fun w => { w with clutchReport := c }) :=
    keeps_mapSaw_of_same rfl rfl rfl rfl rfl
  unfold applyClutch
  dsimp only
  split
  · exact hstored
  · exact hstored
  · next heng => exact hstored.trans (clutchInEngaging_keeps heng)
  · next hrun => exact hstored.trans (clutchInRunning_keeps hrun)
  · exact hstored.trans (clutchInStopping_keeps _ _)

theorem applyCarriage_keeps (c : CarriageReport) (s : State) : Keeps s (applyCarriage c s) := by
  have hstored : Keeps s (s.mapSaw fun w => { w with carriageReport := c }) :=
    keeps_mapSaw_of_same rfl rfl rfl rfl rfl
  unfold applyCarriage
  dsimp only
  split
  · next h => exact hstored.trans (orderRelease_keeps h.1)
  · exact hstored

theorem sawHeard_keeps (s : State) : Keeps s (sawHeard s) := by
  have hheard : Keeps s (s.mapSaw fun w => { w with
      silence := restartSilence (s.mapped Role.SAW), silent := false }) :=
    keeps_mapSaw_of_same rfl rfl rfl rfl rfl
  unfold sawHeard
  dsimp only
  split
  · exact hheard.trans (causeEnd_keeps _ _)
  · exact hheard

theorem sawOrderCheck_keeps (c : ClutchReport) (s : State) : Keeps s (sawOrderCheck c s) := by
  unfold sawOrderCheck
  split
  · exact writeSawSlot_keeps s
  · exact .rfl

theorem sawSample_keeps (payload : List Byte) (s : State) : Keeps s (sawSample payload s) := by
  unfold sawSample
  split
  · exact (sawHeard_keeps s).trans ((operatorRequest_keeps _ _ _).trans ((applyClutch_keeps _ _).trans
      ((applyCarriage_keeps _ _).trans (sawOrderCheck_keeps _ _))))
  · exact .rfl

/-! ### The saw's timers, silence and demand updates -/

theorem reserveUpdate_keeps {s : State} (hres : s.saw.state = .reserving) : Keeps s (reserveUpdate s) := by
  unfold reserveUpdate
  split
  · exact enterEngaging_keeps hres
  · split
    · exact .rfl
    · split
      · exact (appendRequest_keeps _ _ _).trans (keeps_mapSaw_of_same rfl rfl rfl rfl rfl)
      · exact .rfl

theorem feedUpdate_keeps {f : Nat} {s : State} (hrun : s.saw.state = .running) : Keeps s (feedUpdate f s) := by
  unfold feedUpdate
  dsimp only
  split
  · exact setSawOrder_keeps (.inr rfl) (.inr hrun)
  · exact .rfl

theorem sawUpdate_keeps (f : Nat) (s : State) : Keeps s (sawUpdate f s) := by
  unfold sawUpdate
  split
  · next hres => exact reserveUpdate_keeps hres
  · next hrun => exact feedUpdate_keeps hrun
  all_goals exact .rfl

theorem sawWindowCloses_keeps (s : State) : Keeps s (sawWindowCloses s) := by
  unfold sawWindowCloses
  split
  · exact denyReservation_keeps _ _
  · next h => exact enterSawStopping_keeps (by simp [h])
  · next h => exact enterSawStopping_keeps (by simp [h])
  all_goals exact .rfl

theorem sawFallsSilent_keeps (s : State) : Keeps s (sawFallsSilent s) := by
  unfold sawFallsSilent
  split
  · exact (denyReservation_keeps _ _).trans (raise_keeps _ _ _)
  · next h => exact (raise_keeps _ _ _).trans (enterSawStopping_keeps (by simp [h]))
  · next h => exact (raise_keeps _ _ _).trans (enterSawStopping_keeps (by simp [h]))
  all_goals exact raise_keeps _ _ _

theorem sawSilenceExpires_keeps (s : State) : Keeps s (sawSilenceExpires s) := by
  unfold sawSilenceExpires
  split
  · exact (keeps_mapSaw_of_same rfl rfl rfl rfl rfl).trans (sawFallsSilent_keeps _)
  · exact .rfl

theorem reserveTimerExpires_keeps (s : State) : Keeps s (reserveTimerExpires s) := by
  unfold reserveTimerExpires
  split
  · exact denyReservation_keeps _ _
  · exact .rfl

theorem settleExpires_keeps (s : State) : Keeps s (settleExpires s) := by
  have hstopped : Keeps s (s.mapSaw fun w => { w with settle := none }) :=
    keeps_mapSaw_of_same rfl rfl rfl rfl rfl
  unfold settleExpires
  dsimp only
  split
  · split
    · next heng => exact hstopped.trans (enterRunning_keeps heng)
    · exact hstopped
  · exact .rfl

theorem confirmExpires_keeps (s : State) : Keeps s (confirmExpires s) := by
  have hstopped : Keeps s (s.mapSaw fun w => { w with confirm := none }) :=
    keeps_mapSaw_of_same rfl rfl rfl rfl rfl
  unfold confirmExpires
  dsimp only
  split
  · split
    · next heng => exact hstopped.trans (clutchFails_keeps (by simp [heng]))
    · exact hstopped.trans (clutchFailsToIdle_keeps _)
    all_goals exact hstopped
  · exact .rfl

theorem rundownExpires_keeps (s : State) : Keeps s (rundownExpires s) := by
  unfold rundownExpires
  split
  · next h => exact orderRelease_keeps h.1
  · exact .rfl

theorem grantExpires_keeps (s : State) : Keeps s (grantExpires s) := by
  unfold grantExpires
  split
  · next h => exact enterSawStopping_keeps (by simp [h])
  · exact .rfl

theorem sawSilenceTick_keeps (s : State) : Keeps s (sawSilenceTick s) := by
  unfold sawSilenceTick
  dsimp only
  split
  · split
    · exact (keeps_mapSaw_of_same rfl rfl rfl rfl rfl).trans (sawSilenceExpires_keeps _)
    · exact keeps_mapSaw_of_same rfl rfl rfl rfl rfl
  · exact .rfl

theorem grantTick_keeps (s : State) : Keeps s (grantTick s) := by
  unfold grantTick
  split
  · next hg =>
    split
    · exact (keeps_mapSaw_of_same rfl rfl rfl (by simp [hg]) rfl).trans (grantExpires_keeps _)
    · exact keeps_mapSaw_of_same rfl rfl rfl (by simp [hg]) rfl
  · exact .rfl

end Sys2Proof.Proofs
end

section
namespace Sys2Proof.Proofs
open Sys2Proof.Machine Sys2Proof.Safety

/-! ## Every operation of the circuits and of the shedding keeps the laws -/

/-- What each piece of work of a run keeps, the run keeps. -/
theorem foldl_keepsLaws {β : Type} {f : State → β → State} (h : ∀ t x, Keeps t (f t x)) :
    ∀ (l : List β) (s : State), Keeps s (l.foldl f s)
  | [], _ => .rfl
  | x :: l, s => (h s x).trans (foldl_keepsLaws h l (f s x))

theorem placeOn_keeps {i : Nat} {s : State} (hnot : (s.circuit i).state ≠ .shed) : Keeps s (placeOn i s) := by
  unfold placeOn
  split
  · next hrun =>
    split
    · exact moveCircuit_keeps hnot (by decide) fun _ => .inl (by simpa [State.inPlant] using hrun)
    · exact appendRequest_keeps _ _ _
  · exact moveCircuit_keeps hnot (by decide) (by simp)

/-- A circuit that waits for its reclose time is in use, and in RUN any circuit out of the list may close. -/
theorem placeReclosed_keeps {i : Nat} {s : State} (hnot : (s.circuit i).state ≠ .shed)
    (huse : s.plant.state = .run ∨ circuitInUse (s.circuit i) = true) : Keeps s (placeReclosed i s) := by
  unfold placeReclosed
  split
  · exact moveCircuit_keeps hnot (by decide) fun _ => huse
  · exact appendRequest_keeps _ _ _

theorem placeReleased_keeps {i : Nat} {s : State} (hnot : (s.circuit i).state ≠ .shed) :
    Keeps s (placeReleased i s) := by
  unfold placeReleased
  split
  · next hrun => exact placeReclosed_keeps hnot (.inl (by simpa [State.inPlant] using hrun))
  · exact moveCircuit_keeps hnot (by decide) (by simp)

/-- The count of a strike stays within 9 (R98). -/
theorem strike_strikes_le (now : Word32) (minutes : Nat) (c : Circuit) : (c.strike now minutes).strikes ≤ 9 := by
  unfold Circuit.strike
  split
  · exact (by decide : 1 ≤ 9)
  · exact min_le_left _ _

@[simp] theorem strike_state (now : Word32) (minutes : Nat) (c : Circuit) :
    (c.strike now minutes).state = c.state := by
  unfold Circuit.strike; split <;> rfl

@[simp] theorem strike_tier (now : Word32) (minutes : Nat) (c : Circuit) :
    (c.strike now minutes).tier = c.tier := by
  unfold Circuit.strike; split <;> rfl

/-- An update of one circuit that keeps its state keeps those of all. -/
theorem circuit_state_modifyCircuit {f : Circuit → Circuit} (hf : ∀ c, (f c).state = c.state) (i j : Nat)
    (s : State) : ((modifyCircuit i f s).circuit j).state = (s.circuit j).state := by
  rw [circuit_modifyCircuit]
  split
  · exact hf _
  · rfl

theorem lockOut_keeps {i : Nat} {s : State} (hclosed : (s.circuit i).state = .closed) : Keeps s (lockOut i s) := by
  have hmove : Keeps s (moveCircuit i .locked s) := moveCircuit_keeps (by simp [hclosed]) (by decide) (by simp)
  exact hmove.trans ((journalAppend_keeps _ _ _ _).trans (raise_keeps _ _ _))

theorem limitOpen_keeps {i reading : Nat} {s : State} (hclosed : (s.circuit i).state = .closed) :
    Keeps s (limitOpen i reading s) := by
  have hmove : Keeps s (moveCircuit i .limitOpen s) :=
    moveCircuit_keeps (by simp [hclosed]) (by decide) fun _ => .inr (by simp [circuitInUse, hclosed])
  exact hmove.trans ((modifyCircuit_keeps rfl (.inl rfl) id).trans (journalAppend_keeps _ _ _ _))

theorem limiterTrips_keeps {i reading : Nat} {s : State} (hclosed : (s.circuit i).state = .closed) :
    Keeps s (limiterTrips i reading s) := by
  have hstrike : Keeps s (modifyCircuit i (Circuit.strike s.time.count (s.setting Setting.STRIKE_WINDOW)) s) :=
    modifyCircuit_keeps (strike_state _ _ _) (.inl (strike_tier _ _ _)) fun _ => strike_strikes_le _ _ _
  have hstill : ((modifyCircuit i (Circuit.strike s.time.count (s.setting Setting.STRIKE_WINDOW)) s).circuit
      i).state = .closed := by
    rw [circuit_state_modifyCircuit (strike_state _ _), hclosed]
  unfold limiterTrips
  dsimp only
  split
  · exact hstrike.trans (lockOut_keeps hstill)
  · exact hstrike.trans (limitOpen_keeps hstill)

theorem setOver_keeps (i n : Nat) (s : State) : Keeps s (setOver i n s) :=
  modifyCircuit_keeps rfl (.inl rfl) id

theorem limiterTest_keeps {i reading : Nat} {s : State} (hclosed : (s.circuit i).state = .closed) :
    Keeps s (limiterTest i reading s) := by
  unfold limiterTest
  dsimp only
  split
  · exact setOver_keeps _ _ _
  · split
    · exact limiterTrips_keeps hclosed
    · split
      · split
        · refine (setOver_keeps _ _ _).trans (limiterTrips_keeps ?_)
          exact (circuit_state_modifyCircuit (by intro; rfl) i i s).trans hclosed
        · exact setOver_keeps _ _ _
      · exact setOver_keeps _ _ _

theorem limitTrip_keeps (i reading : Nat) (s : State) : Keeps s (limitTrip i reading s) := by
  unfold limitTrip
  split
  · next h => exact limiterTrips_keeps h
  · exact .rfl

theorem recloseExpires_keeps (i : Nat) (s : State) : Keeps s (recloseExpires i s) := by
  unfold recloseExpires
  dsimp only
  split
  · next hopen =>
    have hcleared : Keeps s (modifyCircuit i (fun c => { c with reclose := none }) s) :=
      modifyCircuit_keeps rfl (.inl rfl) id
    have hstill : ∀ value : Int, ((journalAppend .reclose (some i) value
        (modifyCircuit i (fun c => { c with reclose := none }) s)).circuit i).state = .limitOpen := by
      intro value
      rw [circuit_congr (s := modifyCircuit i (fun c => { c with reclose := none }) s) (by simp)]
      exact (circuit_state_modifyCircuit (by intro; rfl) i i s).trans hopen
    exact hcleared.trans ((journalAppend_keeps _ _ _ _).trans
      (placeReclosed_keeps (by simp [hstill]) (.inr (by simp [circuitInUse, hstill]))))
  · exact .rfl

theorem recloseTick_keeps (i : Nat) (s : State) : Keeps s (recloseTick i s) := by
  unfold recloseTick
  split
  · split
    · exact recloseExpires_keeps _ _
    · exact modifyCircuit_keeps rfl (.inl rfl) id
  · exact .rfl

theorem countEnergy_keeps (i charge : Nat) (s : State) : Keeps s (countEnergy i charge s) := by
  have hcharged : Keeps s (modifyCircuit i (Circuit.charged charge) s) := modifyCircuit_keeps rfl (.inl rfl) id
  unfold countEnergy
  dsimp only
  split
  · exact hcharged.trans (raise_keeps _ _ _)
  · exact hcharged

theorem setDisagree_keeps (i n : Nat) (s : State) : Keeps s (setDisagree i n s) :=
  modifyCircuit_keeps rfl (.inl rfl) id

theorem countDisagree_keeps (i : Nat) (s : State) : Keeps s (countDisagree i s) := by
  unfold countDisagree
  dsimp only
  split
  · split
    · exact (setDisagree_keeps _ _ _).trans (raise_keeps _ _ _)
    · exact setDisagree_keeps _ _ _
  · exact .rfl

theorem agreementCheck_keeps (i : Nat) (r : BreakerReport) (s : State) : Keeps s (agreementCheck i r s) := by
  unfold agreementCheck
  split
  · exact (setDisagree_keeps _ _ _).trans (raise_keeps _ _ _)
  · split
    · exact countDisagree_keeps _ _
    · exact setDisagree_keeps _ _ _
  · split
    · exact setDisagree_keeps _ _ _
    · exact countDisagree_keeps _ _
  · exact .rfl

theorem breakerDisagree_keeps (i : Nat) (r : BreakerReport) (s : State) : Keeps s (breakerDisagree i r s) := by
  unfold breakerDisagree
  split
  · exact .rfl
  · exact agreementCheck_keeps _ _ _

/-- The feeders are in no law. -/
theorem modifyFeeder_keeps (k : Nat) (f : Feeder → Feeder) (s : State) : Keeps s (modifyFeeder k f s) :=
  keeps_mapHamlet (.of_eq (shedLaw_congr rfl rfl rfl))

theorem examineFeeders_keeps (s : State) : Keeps s (examineFeeders s) := by
  unfold examineFeeders
  split
  · exact .rfl
  · exact causeEnd_keeps _ _

theorem feederHeard_keeps (k : Nat) (s : State) : Keeps s (feederHeard k s) := by
  unfold feederHeard
  dsimp only
  split
  · exact (modifyFeeder_keeps _ _ _).trans (examineFeeders_keeps _)
  · exact modifyFeeder_keeps _ _ _

theorem limiterStep_keeps (i reading : Nat) (s : State) : Keeps s (limiterStep i reading s) := by
  unfold limiterStep
  split
  · next h => exact limiterTest_keeps h
  · exact .rfl

theorem takeRecord_keeps (i dt reading : Nat) (r : BreakerReport) (s : State) :
    Keeps s (takeRecord i dt reading r s) := by
  have hstored : Keeps s (storeRecord i reading r s) := modifyCircuit_keeps rfl (.inl rfl) id
  unfold takeRecord
  dsimp only
  split
  · exact .rfl
  · refine Keeps.trans ?_ ((agreementCheck_keeps _ _ _).trans (limiterStep_keeps _ _ _))
    split
    · exact hstored.trans (countEnergy_keeps _ _ _)
    · exact hstored

theorem takeRecords_keeps (k dt : Nat) (rs : List (Nat × Nat × BreakerReport)) (s : State) :
    Keeps s (takeRecords k dt rs s) :=
  foldl_keepsLaws (fun _ _ => takeRecord_keeps _ _ _ _ _) rs s

theorem feederOrderCheck_keeps (k : Nat) (rs : List (Nat × Nat × BreakerReport)) (s : State) :
    Keeps s (feederOrderCheck k rs s) := by
  unfold feederOrderCheck
  split
  · exact writeFeederSlot_keeps _ _
  · exact .rfl

theorem feederSample_keeps (k : Nat) (payload : List Byte) (s : State) :
    Keeps s (feederSample k payload s) := by
  unfold feederSample
  split
  · exact (feederHeard_keeps _ _).trans ((takeRecords_keeps _ _ _ _).trans (feederOrderCheck_keeps _ _ _))
  · exact .rfl

theorem feederSilenceExpires_keeps (k : Nat) (s : State) : Keeps s (feederSilenceExpires k s) := by
  unfold feederSilenceExpires
  split
  · exact (modifyFeeder_keeps _ _ _).trans (raise_keeps _ _ _)
  · exact .rfl

theorem feederSilenceTick_keeps (k : Nat) (s : State) : Keeps s (feederSilenceTick k s) := by
  unfold feederSilenceTick
  dsimp only
  split
  · split
    · exact (modifyFeeder_keeps _ _ _).trans (feederSilenceExpires_keeps _ _)
    · exact modifyFeeder_keeps _ _ _
  · exact .rfl

theorem feedersTick_keeps (s : State) : Keeps s (feedersTick s) :=
  foldl_keepsLaws (fun _ _ => feederSilenceTick_keeps _ _) _ _

theorem reclosesTick_keeps (s : State) : Keeps s (reclosesTick s) :=
  foldl_keepsLaws (fun _ _ => recloseTick_keeps _ _) _ _

/-! ### CIRCUIT ADMIN -/

theorem adminOff_keeps (i : Nat) (s : State) : Keeps s (adminOff i s).state := by
  unfold adminOff adminDone
  dsimp only
  have hentry : Keeps s (journalAdmin i 0 s) := journalAppend_keeps _ _ _ _
  refine hentry.trans ?_
  split
  · exact moveCircuit_removeShed_keeps (by decide) (by simp)
  · next hnot =>
    exact moveCircuit_keeps (by rwa [circuit_congr (s := s) (by simp)]) (by decide) (by simp)

theorem adminOn_keeps (i : Nat) (s : State) : Keeps s (adminOn i s).state := by
  unfold adminOn adminDone
  split
  · next hoff =>
    have hnot : ((journalAdmin i 1 s).circuit i).state ≠ .shed := by
      rw [circuit_congr (s := s) (by simp), hoff]; decide
    exact (journalAppend_keeps _ _ _ _).trans (placeOn_keeps hnot)
  · exact .rfl

theorem adminRelease_keeps (i : Nat) (s : State) : Keeps s (adminRelease i s).state := by
  unfold adminRelease adminDone
  split
  · next hlocked =>
    have hnot : ((clearStrikes i (journalAdmin i 2 s)).circuit i).state ≠ .shed := by
      have hstill : ((clearStrikes i (journalAdmin i 2 s)).circuit i).state =
          ((journalAdmin i 2 s).circuit i).state := circuit_state_modifyCircuit (by intro; rfl) i i _
      rw [hstill, circuit_congr (s := s) (by simp), hlocked]
      decide
    exact (journalAppend_keeps _ _ _ _).trans
      ((modifyCircuit_keeps rfl (.inl rfl) fun _ => Nat.zero_le _).trans (placeReleased_keeps hnot))
  · exact .rfl

theorem adminClear_keeps (i : Nat) (s : State) : Keeps s (adminClear i s).state :=
  (journalAppend_keeps _ _ _ _).trans (modifyCircuit_keeps rfl (.inl rfl) id)

theorem circuitAdmin_keeps (i action : Nat) (s : State) : Keeps s (circuitAdmin i action s).state := by
  unfold circuitAdmin
  split
  · exact .rfl
  split
  · exact adminOff_keeps _ _
  split
  · exact adminOn_keeps _ _
  split
  · exact adminRelease_keeps _ _
  split
  · exact adminClear_keeps _ _
  · exact .rfl

/-! ### Shedding and restoring -/

theorem frequencyShed_keeps (s : State) : Keeps s (frequencyShed s) := by
  unfold frequencyShed
  split
  · exact appendRequest_keeps _ _ _
  · exact raise_keeps _ _ _

theorem emergencyTest_keeps (f : Nat) (s : State) : Keeps s (emergencyTest f s) := by
  unfold emergencyTest
  split
  · exact (keeps_mapShed_of_same rfl).trans (frequencyShed_keeps _)
  · exact .rfl

theorem shedDue_keeps (s : State) : Keeps s (shedDue s) :=
  (keeps_mapShed_of_same rfl).trans (frequencyShed_keeps _)

theorem shedTimerStep_keeps (e : Int) (p : Nat) (s : State) : Keeps s (shedTimerStep e p s) := by
  unfold shedTimerStep
  dsimp only
  split
  · split
    · exact shedDue_keeps _
    · exact keeps_mapShed_of_same rfl
  · exact keeps_mapShed_of_same rfl

theorem restoreCircuit_keeps {i : Nat} {s : State} (hrun : s.plant.state = .run) :
    Keeps s (restoreCircuit i s) :=
  (moveCircuit_removeShed_keeps (by decide) fun _ => hrun).trans (journalAppend_keeps _ _ _ _)

theorem restoreStep_keeps {p : Nat} {s : State} (hrun : s.plant.state = .run) : Keeps s (restoreStep p s) := by
  unfold restoreStep
  dsimp only
  split
  · split
    · exact restoreCircuit_keeps hrun
    · exact keeps_mapShed_of_same rfl
  · exact keeps_mapShed_of_same rfl

theorem sheddingUpdate_keeps (f : Nat) (e : Int) (p : Nat) (s : State) : Keeps s (sheddingUpdate f e p s) := by
  unfold sheddingUpdate
  split
  · next hrun =>
    have hlower : Keeps s (lowerLockout s) := keeps_mapShed_of_same rfl
    refine hlower.trans ((emergencyTest_keeps _ _).trans ((shedTimerStep_keeps _ _ _).trans
      (restoreStep_keeps ?_)))
    simpa [State.inPlant] using hrun
  · exact .rfl

theorem shedTimerExpires_keeps (s : State) : Keeps s (shedTimerExpires s) := by
  unfold shedTimerExpires
  split
  · exact shedDue_keeps _
  · exact .rfl

theorem restoreExpires_keeps (s : State) : Keeps s (restoreExpires s) := by
  unfold restoreExpires
  split
  · split
    · next h =>
      simp only [Bool.and_eq_true, State.inPlant, beq_iff_eq] at h
      exact restoreCircuit_keeps h.1
    · exact .rfl
  · exact .rfl

end Sys2Proof.Proofs
end

section
namespace Sys2Proof.Proofs
open Sys2Proof.Machine Sys2Proof.Safety

/-! ## Governor and Ballast Firing Unit -/

/-- What the law of the demand says, apart from STOPPED and TRIPPED. -/
theorem demandLaw_iff {s : State} : demandLaw s = true ↔ s.gov.d ≤ 4096 ∧ s.gov.residue < 256 ∧
    (s.plant.state = .stopped → s.gov.d = 0 ∧ s.gov.engaged = false) ∧
    (s.plant.state = .tripped → s.gov.d = 4096 ∧ s.gov.engaged = false) := by
  simp only [demandLaw, Bool.and_eq_true, decide_eq_true_eq]
  cases s.plant.state <;> simp [and_assoc]

theorem applyPendingGain_keeps (s : State) : Keeps s (applyPendingGain s) := by
  unfold applyPendingGain
  split
  · exact (keeps_mapGov_of_same rfl rfl rfl).trans (journalAppend_keeps _ _ _ _)
  · exact .rfl

/-- The flag is set neither in STOPPED nor in TRIPPED (R25). -/
theorem engages_state {f : Nat} {s : State} (h : s.engages f = true) :
    s.plant.state ≠ .stopped ∧ s.plant.state ≠ .tripped := by
  simp only [State.engages, Bool.and_eq_true] at h
  constructor <;> (intro hstate; simp [hstate] at h)

theorem engage_keeps (f : Nat) (e : Int) (s : State) : Keeps s (engage f e s) := by
  unfold engage
  split
  case isFalse => exact .rfl
  case isTrue h =>
    obtain ⟨hstopped, htripped⟩ := engages_state h
    refine keeps_mapGov fun hlaw => demandLaw_iff.mpr ?_
    obtain ⟨hd, -, -, -⟩ := demandLaw_iff.mp hlaw
    exact ⟨hd, by simp, by simp [hstopped], by simp [htripped]⟩

/-- The step of the law stays within the demand's range and leaves a remainder of 256 (R24). -/
theorem piStep_range (kp ki : Nat) (e : Int) (g : Governor) :
    (piStep kp ki e g).d ≤ 4096 ∧ (piStep kp ki e g).residue < 256 ∧
      (piStep kp ki e g).engaged = g.engaged := by
  unfold piStep
  dsimp only
  split
  · exact ⟨by simp, by simp, rfl⟩
  · split
    · exact ⟨by simp, by simp, rfl⟩
    · refine ⟨?_, ?_, rfl⟩
      · simp only
        omega
      · simp only
        omega

theorem runLaw_keeps (e : Int) (s : State) : Keeps s (runLaw e s) := by
  unfold runLaw
  split
  case isFalse => exact .rfl
  case isTrue heng =>
    refine keeps_mapGov fun hlaw => demandLaw_iff.mpr ?_
    obtain ⟨-, -, hstopped, htripped⟩ := demandLaw_iff.mp hlaw
    obtain ⟨hd, hres, -⟩ := piStep_range s.kp s.ki e s.gov
    exact ⟨hd, hres, fun h => by simp [heng] at hstopped; exact absurd h hstopped,
      fun h => by simp [heng] at htripped; exact absurd h htripped⟩

theorem governorUpdate_keeps (f : Nat) (s : State) : Keeps s (governorUpdate f s) :=
  (applyPendingGain_keeps s).trans ((engage_keeps _ _ _).trans (runLaw_keeps _ _))

/-! ### The trim pulses -/

theorem firingLaw_iff {s : State} : firingLaw s = true ↔
    s.firing.pulses.length ≤ 2 ∧ s.firing.trimGate = anyDelivering s.firing.pulses := by
  simp [firingLaw]

/-- No record, and the gate LOW. -/
theorem keeps_mapFiring_of_none {f : Firing → Firing} {s : State} (hpulses : (f s.firing).pulses = [])
    (hgate : (f s.firing).trimGate = false) : Keeps s (s.mapFiring f) :=
  keeps_mapFiring fun _ => firingLaw_iff.mpr (by simp [hpulses, hgate, anyDelivering])

/-- The records and the gate as they were. -/
theorem keeps_mapFiring_of_same {f : Firing → Firing} {s : State} (hpulses : (f s.firing).pulses = s.firing.pulses)
    (hgate : (f s.firing).trimGate = s.firing.trimGate) : Keeps s (s.mapFiring f) :=
  keeps_mapFiring fun h => firingLaw_iff.mpr (by
    simpa only [State.mapFiring_firing, hpulses, hgate] using firingLaw_iff.mp h)

theorem removePulses_keeps (s : State) : Keeps s (removePulses s) := keeps_mapFiring_of_none rfl rfl
theorem cancelPulses_keeps (s : State) : Keeps s (cancelPulses s) := keeps_mapFiring_of_none rfl rfl
theorem setBanks_keeps (n : Nat) (s : State) : Keeps s (setBanks n s) := keeps_mapFiring_of_same rfl rfl
theorem scheduleNone_keeps (s : State) : Keeps s (scheduleNone s) := keeps_mapFiring_of_same rfl rfl

theorem makePulse_length_le (t0 : Count) (lag width o : Nat) : (makePulse t0 lag width o).length ≤ 1 := by
  unfold makePulse
  split <;> simp

theorem scheduleTrim_keeps (u p : Nat) (t0 : Count) (lag : Nat) (s : State) :
    Keeps s (scheduleTrim u p t0 lag s) := by
  unfold scheduleTrim
  split
  · exact scheduleNone_keeps s
  · next o _ =>
    refine keeps_mapFiring fun _ => firingLaw_iff.mpr ⟨?_, rfl⟩
    have hfirst := makePulse_length_le t0 lag (s.setting Setting.TRIM_PULSE) o
    have hsecond := makePulse_length_le t0 lag (s.setting Setting.TRIM_PULSE) (p / 2 + o)
    simp only [State.mapFiring_firing, List.length_append]
    omega

theorem firingUpdate_keeps (p : Nat) (t0 : Count) (lag : Nat) (s : State) :
    Keeps s (firingUpdate p t0 lag s) := by
  unfold firingUpdate
  dsimp only
  split
  · exact (removePulses_keeps s).trans ((setBanks_keeps _ _).trans (scheduleNone_keeps _))
  · exact (removePulses_keeps s).trans ((setBanks_keeps _ _).trans (scheduleTrim_keeps _ _ _ _ _))

theorem firingEntry_keeps (p : PlantState) (s : State) : Keeps s (firingEntry p s) := by
  cases p
  case stopped => exact (cancelPulses_keeps s).trans (setBanks_keeps _ _)
  case tripped => exact setBanks_keeps _ _
  all_goals exact .rfl

theorem startFirst_length (ps : List Pulse) : (startFirst ps).length = ps.length := by
  induction ps with
  | nil => rfl
  | cons p ps ih => cases h : p.stage <;> simp [startFirst, h, ih]

theorem endFirst_length_le (ps : List Pulse) : (endFirst ps).length ≤ ps.length := by
  induction ps with
  | nil => exact le_rfl
  | cons p ps ih =>
    cases h : p.stage
    · simpa [endFirst, h] using ih
    · simp [endFirst, h]

/-- Where one waits, one is delivered after a start. -/
theorem anyDelivering_startFirst {ps : List Pulse} (h : ps.any (fun p => p.stage == .waiting) = true) :
    anyDelivering (startFirst ps) = true := by
  cases ps with
  | nil => simp at h
  | cons p ps => cases hp : p.stage <;> simp [startFirst, hp, anyDelivering]

theorem startPulse_keeps (s : State) : Keeps s (startPulse s) := by
  unfold startPulse
  split
  case isFalse => exact .rfl
  case isTrue h =>
    refine keeps_mapFiring fun hlaw => firingLaw_iff.mpr ⟨?_, (anyDelivering_startFirst h).symm⟩
    simpa [startFirst_length] using (firingLaw_iff.mp hlaw).1

theorem endPulse_keeps (s : State) : Keeps s (endPulse s) := by
  unfold endPulse
  split
  case isFalse => exact .rfl
  case isTrue =>
    exact keeps_mapFiring fun hlaw => firingLaw_iff.mpr
      ⟨(endFirst_length_le _).trans (firingLaw_iff.mp hlaw).1, rfl⟩

end Sys2Proof.Proofs
end

section
namespace Sys2Proof.Proofs
open Sys2Proof.Machine Sys2Proof.Safety

/-! ## The settings' ranges (R179) -/

/-- What the law of the settings says of one of them. -/
theorem settingInRange_of_settingsLaw {s : State} (h : settingsLaw s = true) {i : Nat} (hi : i < 57) :
    settingInRange i (s.setting i) = true := by
  simp only [settingsLaw, Bool.and_eq_true, decide_eq_true_eq, settingsInRange, List.all_eq_true] at h
  obtain ⟨⟨hlen, hrange⟩, -⟩ := h
  have hlt : i < s.tables.settings.vals.length := by omega
  have hread : s.setting i = s.tables.settings.vals[i] := by
    simp [State.setting, List.getD_eq_getElem?_getD, hlt]
  rw [hread]
  simpa using hrange (s.tables.settings.vals[i], i) (by simp [List.mem_zipIdx_iff_getElem?, hlt])

/-- The range of a setting, by its row of Table 10-8. -/
theorem setting_le_of_settingsLaw {s : State} (h : settingsLaw s = true) {i lo hi d : Nat}
    (hrow : settingRows[i]? = some (lo, hi, d)) : lo ≤ s.setting i ∧ s.setting i ≤ hi := by
  have hi' : i < 57 := (List.getElem?_eq_some_iff.mp hrow).1
  have hrange := settingInRange_of_settingsLaw h hi'
  simp only [settingInRange, hrow, Bool.and_eq_true, decide_eq_true_eq] at hrange
  exact hrange.1

/-! ## A plant entry (R45, Table 3-3)

Each law that reads the plant is established at the step of the entry that acts on its block; the steps after
it keep it. The laws that do not read the plant are kept by each step. -/

theorem keptBut_governorEntry (p : PlantState) (s : State) : KeptBut [.gov] s (governorEntry p s) := by
  cases p
  case run | stopping => exact fun _ _ => by cases ‹Block› <;> rfl
  case stopped | runup => exact keptBut_mapGov _ s
  case tripped =>
    intro b hb
    cases b <;> first | rfl | simp at hb

theorem keptBut_timeEntry (p : PlantState) (s : State) : KeptBut [.time] s (timeEntry p s) := by
  cases p
  case run => exact fun _ _ => by cases ‹Block› <;> rfl
  all_goals exact keptBut_mapTime _ s

section
variable {L : Law}

theorem governorEntry_kept (h : Block.gov ∉ L.reads) (p : PlantState) (s : State) :
    L.Kept s (governorEntry p s) :=
  Law.kept_of_keptBut (keptBut_governorEntry p s) fun _ hb hmem => h (List.mem_singleton.mp hmem ▸ hb)

theorem timeEntry_kept (h : Block.time ∉ L.reads) (p : PlantState) (s : State) : L.Kept s (timeEntry p s) :=
  Law.kept_of_keptBut (keptBut_timeEntry p s) fun _ hb hmem => h (List.mem_singleton.mp hmem ▸ hb)

theorem kept_mapWater (h : Block.water ∉ L.reads) (f : Water → Water) (s : State) : L.Kept s (s.mapWater f) :=
  Law.kept_of_keptBut (keptBut_mapWater f s) fun _ hb hmem => h (List.mem_singleton.mp hmem ▸ hb)

theorem kept_mapPlant (h : Block.plant ∉ L.reads) (f : Plant → Plant) (s : State) : L.Kept s (s.mapPlant f) :=
  Law.kept_of_keptBut (keptBut_mapPlant f s) fun _ hb hmem => h (List.mem_singleton.mp hmem ▸ hb)

theorem setGate_kept (h : Block.water ∉ L.reads) (g : Nat) (s : State) : L.Kept s (setGate g s) := by
  unfold setGate
  split
  · exact .rfl
  · exact (kept_mapWater h _ s).trans (writeGateSlot_keeps _ L)

theorem waterEntry_kept (h : Block.water ∉ L.reads) (p : PlantState) (s : State) : L.Kept s (waterEntry p s) :=
  (kept_mapWater h _ s).trans (setGate_kept h _ _)

theorem goDark_kept (h : L.Apart) (s : State) : L.Kept s (goDark s) := by
  have hdark : L.Kept s (darken s) := (kept_mapHamlet h _ s).trans (kept_mapShed h _ _)
  refine hdark.trans (foldl_keepsLaws (fun t k => ?_) _ _ L)
  split
  · exact writeFeederSlot_keeps _ _
  · exact .rfl

theorem energise_kept (h : L.Apart) (s : State) : L.Kept s (energise s) := by
  have hclose : ∀ (l : List Nat) (t : State), L.Kept t (l.foldl (fun t i => moveCircuit i .closed t) t) := by
    intro l
    induction l with
    | nil => exact fun _ => .rfl
    | cons i l ih => exact fun t => (kept_moveCircuit h i _ t).trans (ih _)
  exact (hclose _ s).trans (foldl_keepsLaws (fun _ _ => appendRequest_keeps _ _ _) _ _ L)

theorem hamletEntry_kept (h : L.Apart) (p : PlantState) (s : State) : L.Kept s (hamletEntry p s) := by
  cases p
  case run => exact energise_kept h s
  case stopping | tripped => exact goDark_kept h s
  case stopped | runup => exact .rfl

theorem raiseCause_keeps (p : PlantState) (cause : Cause) (s : State) : Keeps s (raiseCause p cause s) := by
  unfold raiseCause
  split
  · exact raise_keeps _ _ _
  · exact .rfl

/-- What follows the change of the plant in the record of an entry. -/
theorem recordEntry_keeps (p : PlantState) (cause : Cause) (s : State) :
    Keeps (s.mapPlant (Plant.enter p cause)) (recordEntry p cause s) :=
  (journalAppend_keeps _ _ _ _).trans ((raise_keeps _ _ _).trans (raiseCause_keeps _ _ _))

end

theorem sawEntry_keeps (p : PlantState) (s : State) : Keeps s (sawEntry p s) := by
  unfold sawEntry
  split
  case h_1 => exact setLamp_keeps _ _
  case h_2 | h_4 => exact enterSawIdle_keeps _ _
  case h_5 h | h_6 h | h_7 h => exact enterSawStopping_keeps (by simp [h])
  all_goals exact .rfl

/-! ### Entry to RUN energises the hamlet (R47, R110, R127) -/

/-- Circuits that are not SHED close one after another, in RUN. -/
theorem foldl_close_keeps {l : List Nat} {s : State} (hrun : s.plant.state = .run)
    (hnot : ∀ i ∈ l, (s.circuit i).state ≠ .shed) :
    Keeps s (l.foldl (fun t i => moveCircuit i .closed t) s) := by
  induction l generalizing s with
  | nil => exact .rfl
  | cons i l ih =>
    have hmove : Keeps s (moveCircuit i .closed s) :=
      moveCircuit_keeps (hnot i List.mem_cons_self) (by decide) fun _ => .inl hrun
    refine hmove.trans (ih (by simpa using hrun) fun j hj => ?_)
    rw [circuit_moveCircuit]
    split
    · exact fun h => absurd h (by simp)
    · exact hnot j (List.mem_cons_of_mem _ hj)

theorem mem_darkTier0 {s : State} {i : Nat} (h : i ∈ darkTier0 s.hamlet.entries) :
    (s.circuit i).state = .dark ∧ (s.circuit i).tier = 0 := by
  simp only [darkTier0, List.mem_map, List.mem_filter, Bool.and_eq_true, beq_iff_eq] at h
  obtain ⟨⟨c, j⟩, ⟨hmem, hc⟩, rfl⟩ := h
  rw [List.mem_zipIdx_iff_getElem?] at hmem
  have hread : s.circuit j = c := by simp [State.circuit, List.getD_eq_getElem?_getD, hmem]
  rwa [hread]

theorem energise_keeps {s : State} (hrun : s.plant.state = .run) : Keeps s (energise s) := by
  have hclosed := foldl_close_keeps (l := darkTier0 s.hamlet.entries) hrun fun i hi => by
    simp [(mem_darkTier0 hi).1]
  exact hclosed.trans (foldl_keepsLaws (fun _ _ => appendRequest_keeps _ _ _) _ _)

/-! ### The laws after an entry -/

/-- The states from which a plant state is entered (Table 3-1), as far as the laws of the shed list and of
the saw ask. -/
def EntersFrom (p : PlantState) (s : State) : Prop :=
  match p with
  | .runup => s.plant.state = .stopped
  | .stopped => s.plant.state ≠ .run
  | .run | .stopping | .tripped => True

section
variable {p : PlantState} {cause : Cause} {s : State}

theorem enterPlant_demandLaw : Law.demand.Kept s (enterPlant p cause s) := by
  have hgov : Law.demand.Kept s (governorEntry p (recordEntry p cause s)) := by
    intro h
    obtain ⟨hd, hres, -, -⟩ := demandLaw_iff.mp h
    refine demandLaw_iff.mpr ?_
    cases p <;> simp [governorEntry, requestGain, recordEntry, Plant.enter, hd, hres]
  exact hgov.trans ((firingEntry_keeps _ _ _).trans ((timeEntry_kept (by simp [Law.reads]) _ _).trans
    ((waterEntry_kept (by simp [Law.reads]) _ _).trans ((hamletEntry_kept (by simp [Law.Apart, Law.reads]) _ _).trans
      (sawEntry_keeps _ _ _)))))

theorem enterPlant_timerLaw : Law.timer.holds (enterPlant p cause s) = true := by
  simp only [Law.holds, timerLaw, State.inPlant, enterPlant_plant, enterPlant_water]
  cases p <;> simp [Plant.enter, Water.enter]

theorem enterPlant_timeLaw : Law.time.Kept s (enterPlant p cause s) := by
  have htime : Law.time.Kept s (timeEntry p (firingEntry p (governorEntry p (recordEntry p cause s)))) := by
    intro h
    simp only [Law.holds, timeLaw, State.inPlant, Bool.and_eq_true, Bool.or_eq_true] at h ⊢
    cases p <;> simpa [timeEntry, Plant.enter, recordEntry] using h.1
  exact htime.trans ((waterEntry_kept (by simp [Law.reads]) _ _).trans
    ((hamletEntry_kept (by simp [Law.Apart, Law.reads]) _ _).trans (sawEntry_keeps _ _ _)))

theorem enterPlant_signalLaw : Law.signal.Kept s (enterPlant p cause s) := by
  intro h
  simp only [Law.holds, signalLaw, Bool.and_eq_true] at h ⊢
  obtain ⟨⟨hfreq, hloss⟩, -⟩ := h
  simp [enterPlant_plant, Plant.enter, hfreq, hloss]

theorem enterPlant_gateLaw : Law.gate.Kept s (enterPlant p cause s) := by
  intro h
  simp only [Law.holds, Bool.and_eq_true] at h ⊢
  obtain ⟨hsettings, -⟩ := h
  have htables : (enterPlant p cause s).tables = s.tables := by simp
  refine ⟨by rwa [settingsLaw_congr htables], ?_⟩
  have hstart := (setting_le_of_settingsLaw hsettings (i := Setting.GATE_START) rfl).2
  have hmin := (setting_le_of_settingsLaw hsettings (i := Setting.GATE_RUN_MIN) rfl).2
  simp only [gateLaw, setting_congr htables, enterPlant_water, enterPlant_plant]
  cases p with
  | run => simp [Plant.enter, State.entryGate, hstart, hmin.trans (by decide : 500 ≤ 1000)]
  | runup => simp [Plant.enter, State.entryGate, hstart]
  | stopping | stopped | tripped => simp [Plant.enter, State.entryGate]

theorem enterPlant_sawLaw (hfrom : EntersFrom p s) : Law.saw.Kept s (enterPlant p cause s) := by
  refine sawKept_of_imp fun h => ?_
  set u := hamletEntry p (waterEntry p (timeEntry p (firingEntry p
    (governorEntry p (recordEntry p cause s))))) with hu
  have hsaw : u.saw = s.saw := by simp [hu]
  have hplant : (enterPlant p cause s).plant.state = p := by rw [enterPlant_plant]; rfl
  rw [hplant, show enterPlant p cause s = sawEntry p u from rfl]
  cases p with
  | run =>
    rw [show sawEntry .run u = u from rfl, hsaw]
    exact ⟨h.engage, h.feed, h.grant, .inr (.inl rfl)⟩
  | runup =>
    have hidle : s.saw.state = .idle := by
      have hstopped : s.plant.state = .stopped := hfrom
      simpa [hstopped] using h.away
    rw [show sawEntry .runup u = u from rfl, hsaw]
    exact ⟨h.engage, h.feed, h.grant, .inl hidle⟩
  | stopping =>
    cases hstate : s.saw.state with
    | idle | stopping =>
      have he : sawEntry .stopping u = u := by simp [sawEntry, hsaw, hstate]
      rw [he, hsaw]
      exact ⟨h.engage, h.feed, h.grant, by simp [hstate]⟩
    | reserving | engaging | running =>
      have he : sawEntry .stopping u = enterSawStopping u := by simp [sawEntry, hsaw, hstate]
      rw [he]
      simpa [enterSawStopping] using sawLaw_stopping u.saw _ (.inr rfl)
  | stopped =>
    by_cases hidle : s.saw.state = .idle
    · have he : sawEntry .stopped u = u := by simp [sawEntry, hsaw, hidle]
      rw [he, hsaw]
      exact ⟨h.engage, h.feed, h.grant, .inl hidle⟩
    · have he : sawEntry .stopped u = enterSawIdle .stop u := by simp [sawEntry, hsaw]
      rw [he, enterSawIdle_saw]
      exact sawLaw_rest u.saw .stop _
  | tripped =>
    by_cases hidle : s.saw.state = .idle
    · have he : sawEntry .tripped u = setLamp .stop u := by simp [sawEntry, hsaw, hidle]
      rw [he, setLamp, setSawOrder_saw, hsaw]
      exact ⟨h.engage, h.feed, h.grant, .inl hidle⟩
    · have he : sawEntry .tripped u = enterSawIdle .stop u := by simp [sawEntry, hsaw]
      rw [he, enterSawIdle_saw]
      exact sawLaw_rest u.saw .stop _

theorem enterPlant_shedLaw (hfrom : EntersFrom p s) : Law.shed.Kept s (enterPlant p cause s) := by
  set u := waterEntry p (timeEntry p (firingEntry p (governorEntry p (recordEntry p cause s)))) with hu
  have hhamlet : u.hamlet = s.hamlet := by simp [hu]
  have hshed : u.shed = s.shed := by simp [hu]
  have hplant : u.plant.state = p := by simp [hu, recordEntry, Plant.enter]
  have hcircuit : ∀ i, u.circuit i = s.circuit i := circuit_congr hhamlet
  have hlisted : ∀ i, u.listed i = s.listed i := listed_congr hshed
  suffices h : Law.shed.Kept s (hamletEntry p u) from h.trans (sawEntry_keeps p _ _)
  intro h
  obtain ⟨hlen, hnodup, hinside, hiff, htiers, hstrikes, hquiet⟩ := shedLaw_iff.mp h
  have hu' : (p = .run ∨ s.shed.list = [] ∧ ∀ i, circuitInUse (s.circuit i) = false) → ShedLaw u := fun hq =>
    ⟨by rwa [hhamlet], by rwa [hshed], by rwa [hshed], by simpa [hcircuit, hlisted] using hiff,
      by simpa [hcircuit] using htiers, by simpa [hcircuit] using hstrikes, by simpa [hplant, hshed, hcircuit] using hq⟩
  cases p with
  | run => exact energise_keeps hplant _ (shedLaw_iff.mpr (hu' (.inl rfl)))
  | runup =>
    refine shedLaw_iff.mpr (hu' (.inr (hquiet.resolve_left ?_)))
    rw [show s.plant.state = .stopped from hfrom]
    decide
  | stopped => exact shedLaw_iff.mpr (hu' (.inr (hquiet.resolve_left hfrom)))
  | stopping | tripped =>
    have hdark : ∀ i, (goDark u).circuit i = (s.circuit i).darken := by
      intro i
      rw [State.circuit, goDark_hamlet, hhamlet, State.circuit]
      simp only [List.getD_eq_getElem?_getD, List.getElem?_map]
      cases s.hamlet.entries[i]? <;> rfl
    have hstate : ∀ c : Circuit, c.darken.state ≠ .shed ∧ circuitInUse c.darken = false ∧
        c.darken.strikes = c.strikes := by
      intro c
      unfold Circuit.darken circuitInUse
      split
      · exact ⟨by simp, rfl, rfl⟩
      · next hnot =>
        rw [not_or, not_or] at hnot
        exact ⟨hnot.2.2, circuitInUse_eq_false_of_state hnot.1 hnot.2.1 hnot.2.2, rfl⟩
    refine shedLaw_iff.mpr ⟨by simp [hamletEntry, hhamlet, hlen], by simp [hamletEntry], by simp [hamletEntry],
      fun i => ?_, fun i hi => ?_, fun i => ?_, .inr ⟨by simp [hamletEntry], fun i => ?_⟩⟩
    · simp [hamletEntry, hdark, hstate, State.listed]
    · exact absurd (hdark i ▸ hi) (hstate _).1
    · rw [show (hamletEntry _ u) = goDark u from rfl, hdark, (hstate _).2.2]
      exact hstrikes i
    · rw [show (hamletEntry _ u) = goDark u from rfl, hdark]
      exact (hstate _).2.1

/-- A plant entry from a state that leads to it keeps every law. -/
theorem enterPlant_keeps (hfrom : EntersFrom p s) : Keeps s (enterPlant p cause s) := by
  intro L
  have helsewhere : Block.plant ∉ L.reads → Block.gov ∉ L.reads → Block.time ∉ L.reads →
      Block.water ∉ L.reads → L.Apart → L.Kept s (enterPlant p cause s) := fun hplant hgov htime hwater happart =>
    ((kept_mapPlant hplant _ s).trans (recordEntry_keeps p cause s L)).trans ((governorEntry_kept hgov _ _).trans
      ((firingEntry_keeps _ _ _).trans ((timeEntry_kept htime _ _).trans ((waterEntry_kept hwater _ _).trans
        ((hamletEntry_kept happart _ _).trans (sawEntry_keeps _ _ _))))))
  cases L with
  | demand => exact enterPlant_demandLaw
  | timer => exact fun _ => enterPlant_timerLaw
  | time => exact enterPlant_timeLaw
  | signal => exact enterPlant_signalLaw
  | gate => exact enterPlant_gateLaw
  | shed => exact enterPlant_shedLaw hfrom
  | saw => exact enterPlant_sawLaw hfrom
  | tooth | settings | nodeMap | firing | journal | loop | held =>
    exact helsewhere (by decide) (by decide) (by decide) (by decide) (by simp [Law.Apart, Law.reads])

end

/-! ## The events of the Plant State Controller -/

theorem completionTest_keeps (s : State) : Keeps s (completionTest s) := by
  unfold completionTest
  split
  · next h =>
    simp only [State.stopComplete, State.inPlant, Bool.and_eq_true, beq_iff_eq] at h
    exact enterPlant_keeps (show s.plant.state ≠ .run by simp [h.1.1])
  · exact .rfl

theorem enterStopping_keeps (cause : Cause) (s : State) : Keeps s (enterStopping cause s) :=
  (enterPlant_keeps (p := .stopping) trivial).trans (completionTest_keeps _)

theorem trip_keeps (cause : Cause) (s : State) : Keeps s (trip cause s) := by
  unfold trip
  split
  · exact .rfl
  · exact enterPlant_keeps trivial

theorem gateFaultEvent_keeps (s : State) : Keeps s (gateFaultEvent s) := by
  unfold gateFaultEvent
  split
  case h_1 | h_2 | h_3 => exact trip_keeps _ _
  all_goals exact .rfl

theorem shortageEvent_keeps (s : State) : Keeps s (shortageEvent s) := by
  have hstop : Keeps s (shortageToPlant s) := by
    unfold shortageToPlant
    split
    · exact enterStopping_keeps _ _
    · exact .rfl
  exact hstop.trans (raise_keeps _ _ _)

theorem setAccept_keeps {f : Plant → Plant} {s : State} (h : ∃ n, f s.plant = { s.plant with accept := n }) :
    Keeps s (s.mapPlant f) := by
  obtain ⟨n, hn⟩ := h
  exact keeps_mapPlant_of_same (by rw [hn]) (by rw [hn]) (by rw [hn]) (by rw [hn]; exact id) (by rw [hn]; exact id)
    (by rw [hn]; exact id)

theorem runupAccepted_keeps (s : State) : Keeps s (runupAccepted s) := by
  unfold runupAccepted
  split
  · exact (setAccept_keeps ⟨_, rfl⟩).trans (enterPlant_keeps trivial)
  · exact .rfl

theorem runupTimerExpires_keeps (s : State) : Keeps s (runupTimerExpires s) := by
  unfold runupTimerExpires
  split
  · exact trip_keeps _ _
  · exact .rfl

theorem stopTimerExpires_keeps (s : State) : Keeps s (stopTimerExpires s) := by
  unfold stopTimerExpires
  split
  · next h =>
    simp only [State.inPlant, Bool.and_eq_true, beq_iff_eq] at h
    exact enterPlant_keeps (show s.plant.state ≠ .run by simp [h.1])
  · exact .rfl

theorem signalLossExpires_keeps (s : State) : Keeps s (signalLossExpires s) := by
  have hstopped : Keeps s (s.mapPlant fun p => { p with signalLoss := none }) :=
    keeps_mapPlant_of_same rfl rfl rfl (by simp) id id
  unfold signalLossExpires
  dsimp only
  split
  · split
    · exact hstopped.trans (trip_keeps _ _)
    · exact hstopped
  · exact .rfl

theorem collapseExpires_keeps (s : State) : Keeps s (collapseExpires s) := by
  have hstopped : Keeps s (s.mapPlant fun p => { p with collapse := none }) :=
    keeps_mapPlant_of_same rfl rfl rfl id (by simp) id
  unfold collapseExpires
  dsimp only
  split
  · split
    · exact hstopped.trans (trip_keeps _ _)
    · exact hstopped
  · exact .rfl

/-- The frequency-overspeed timer stops. -/
theorem stopOverspeed_keeps (s : State) : Keeps s (s.mapPlant fun p => { p with freqOverspeed := none }) :=
  keeps_mapPlant_of_same rfl rfl rfl id id (by simp)

theorem freqOverspeedExpires_keeps (s : State) : Keeps s (freqOverspeedExpires s) := by
  unfold freqOverspeedExpires
  split
  · exact (stopOverspeed_keeps s).trans (trip_keeps _ _)
  · exact .rfl

theorem plantTick_keeps (s : State) : Keeps s (plantTick s) := by
  unfold plantTick
  split
  · split
    · next n hn =>
      have hcount : Keeps s (s.mapPlant fun p => { p with runupTimer := some (n + 1) }) :=
        keeps_mapPlant_of_same rfl (by simp [hn]) rfl id id id
      dsimp only
      split
      · exact hcount.trans (runupTimerExpires_keeps _)
      · exact hcount
    · exact .rfl
  · split
    · next n hn =>
      have hcount : Keeps s (s.mapPlant fun p => { p with stopTimer := some (n + 1) }) :=
        keeps_mapPlant_of_same rfl rfl (by simp [hn]) id id id
      dsimp only
      split
      · exact hcount.trans (stopTimerExpires_keeps _)
      · exact hcount
    · exact .rfl
  all_goals exact .rfl

/-! ### The accepted valid period and the signal at the plant -/

theorem acceptPeriod_keeps (f : Nat) (s : State) : Keeps s (acceptPeriod f s) := by
  have hcount : Keeps s (s.mapPlant fun p => { p with accept := p.accept + 1 }) := setAccept_keeps ⟨_, rfl⟩
  unfold acceptPeriod
  dsimp only
  split
  · split
    · split
      · exact hcount.trans (runupAccepted_keeps _)
      · exact hcount
    · exact setAccept_keeps ⟨_, rfl⟩
  · exact .rfl

/-- The plant takes a new protection timer where the law of the timers lets it run. -/
theorem keeps_mapPlant_of_timers {f : Plant → Plant} {s : State} (hstate : (f s.plant).state = s.plant.state)
    (hrunup : (f s.plant).runupTimer = s.plant.runupTimer) (hstop : (f s.plant).stopTimer = s.plant.stopTimer)
    (hloss : (f s.plant).signalLoss = s.plant.signalLoss)
    (hcollapse : (f s.plant).collapse = s.plant.collapse ∨ s.plant.state = .run)
    (hover : (f s.plant).freqOverspeed = s.plant.freqOverspeed ∨ s.plant.state ≠ .tripped) :
    Keeps s (s.mapPlant f) := by
  refine keeps_mapPlant hstate ?_ ?_
  · simp only [Law.Kept, Law.holds, timerLaw, State.inPlant, State.mapPlant_plant, State.mapPlant_water, hstate,
      hrunup, hstop, hloss]
    grind
  · simp only [Law.Kept, Law.holds, signalLaw, State.mapPlant_plant, State.mapPlant_edge, hloss]
    exact id

theorem watchOverspeed_keeps (f : Nat) (s : State) : Keeps s (watchOverspeed f s) := by
  unfold watchOverspeed
  split
  · exact .rfl
  · next h =>
    split
    · exact keeps_mapPlant_of_timers rfl rfl rfl rfl (.inl rfl) (.inr (by simpa [State.inPlant] using h))
    · exact stopOverspeed_keeps s

theorem startCollapse_keeps {s : State} (hrun : s.plant.state = .run) : Keeps s (startCollapse s) :=
  keeps_mapPlant_of_timers rfl rfl rfl rfl (.inr hrun) (.inl rfl)

theorem watchCollapse_keeps (f : Nat) (s : State) : Keeps s (watchCollapse f s) := by
  unfold watchCollapse
  split
  · next hrun =>
    split
    · exact startCollapse_keeps (by simpa [State.inPlant] using hrun)
    · exact keeps_mapPlant_of_same rfl rfl rfl id (by simp) id
  · exact .rfl

theorem plantPeriod_keeps (f : Nat) (s : State) : Keeps s (plantPeriod f s) :=
  (acceptPeriod_keeps f s).trans ((watchOverspeed_keeps _ _).trans (watchCollapse_keeps _ _))

theorem clearAcceptance_keeps (s : State) : Keeps s (clearAcceptance s) := by
  unfold clearAcceptance
  split
  · exact setAccept_keeps ⟨_, rfl⟩
  · exact .rfl

/-- With the signal LOST its loss timer at the plant may start. -/
theorem lossTimers_keeps {s : State} (hlost : s.edge.signal = .lost) : Keeps s (lossTimers s) := by
  unfold lossTimers
  split
  · next h =>
    have hrun : s.plant.state = .run := by simpa [State.inPlant] using h
    have hstart : Keeps s (s.mapPlant fun p => { p with
        signalLoss := some (s.setting Setting.SIGNAL_LOSS_TIME * 2000) }) := by
      refine keeps_mapPlant rfl ?_ ?_
      · simp only [Law.Kept, Law.holds, timerLaw, State.inPlant, State.mapPlant_plant, State.mapPlant_water, hrun]
        simp
      · simp only [Law.Kept, Law.holds, signalLaw, State.mapPlant_plant, State.mapPlant_edge, hlost]
        simp
    exact hstart.trans (startCollapse_keeps hrun)
  · exact .rfl

theorem plantSignalLost_keeps {s : State} (hlost : s.edge.signal = .lost) : Keeps s (plantSignalLost s) :=
  (stopOverspeed_keeps s).trans ((clearAcceptance_keeps _).trans
    ((lossTimers_keeps (by simpa using hlost)).trans (completionTest_keeps _)))

end Sys2Proof.Proofs
end

section
namespace Sys2Proof.Proofs
open Sys2Proof.Machine Sys2Proof.Safety

/-! ## Water Controller -/

theorem pondHeard_keeps (s : State) : Keeps s (pondHeard s) := by
  have hheard : Keeps s (s.mapWater fun w => { w with
      pondSilence := restartSilence (s.mapped Role.POND), pondSilent := false }) :=
    keeps_mapWater_of_same rfl rfl
  unfold pondHeard
  dsimp only
  split
  · exact hheard.trans (causeEnd_keeps _ _)
  · exact hheard

theorem pondSample_keeps (payload : List Byte) (s : State) : Keeps s (pondSample payload s) := by
  unfold pondSample
  split
  · next a b c d _ =>
    have hstored : Keeps s (storePond (s16 a b) (s16 c d) s) := by
      unfold storePond
      exact keeps_mapWater_of_same rfl rfl
    exact hstored.trans (pondHeard_keeps _)
  · exact .rfl

theorem gateHeard_keeps (s : State) : Keeps s (gateHeard s) := by
  have hheard : Keeps s (s.mapWater fun w => { w with
      gateSilence := restartSilence (s.mapped Role.GATE), gateSilent := false }) :=
    keeps_mapWater_of_same rfl rfl
  unfold gateHeard
  dsimp only
  split
  · exact hheard.trans (causeEnd_keeps _ _)
  · exact hheard

theorem gateEvent_keeps (st : GateStatus) (s : State) : Keeps s (gateEvent st s) := by
  cases st
  case fault => exact gateFaultEvent_keeps s
  all_goals exact completionTest_keeps s

theorem gateOrderCheck_keeps (pos : Nat) (st : GateStatus) (s : State) : Keeps s (gateOrderCheck pos st s) := by
  unfold gateOrderCheck
  split
  · exact writeGateSlot_keeps s
  · exact .rfl

theorem gateSample_keeps (payload : List Byte) (s : State) : Keeps s (gateSample payload s) := by
  unfold gateSample
  split
  · next a b c _ =>
    have hstored : Keeps s (storeGate (u16 a b) (gateStatusOfCode c.toNat) s) := keeps_mapWater_of_same rfl rfl
    exact hstored.trans ((gateHeard_keeps _).trans ((gateEvent_keeps _ _).trans (gateOrderCheck_keeps _ _ _)))
  · exact .rfl

theorem pondSilenceExpires_keeps (s : State) : Keeps s (pondSilenceExpires s) := by
  unfold pondSilenceExpires
  split
  · exact (keeps_mapWater_of_same rfl rfl).trans (raise_keeps _ _ _)
  · exact .rfl

theorem gateSilenceExpires_keeps (s : State) : Keeps s (gateSilenceExpires s) := by
  unfold gateSilenceExpires
  split
  · exact (keeps_mapWater_of_same rfl rfl).trans (raise_keeps _ _ _)
  · exact .rfl

theorem pondSilenceTick_keeps (s : State) : Keeps s (pondSilenceTick s) := by
  unfold pondSilenceTick
  dsimp only
  split
  · split
    · exact (keeps_mapWater_of_same rfl rfl).trans (pondSilenceExpires_keeps _)
    · exact keeps_mapWater_of_same rfl rfl
  · exact .rfl

theorem gateSilenceTick_keeps (s : State) : Keeps s (gateSilenceTick s) := by
  unfold gateSilenceTick
  dsimp only
  split
  · split
    · exact (keeps_mapWater_of_same rfl rfl).trans (gateSilenceExpires_keeps _)
    · exact keeps_mapWater_of_same rfl rfl
  · exact .rfl

theorem demandUpdate_keeps (s : State) : Keeps s (demandUpdate s) := by
  unfold demandUpdate
  split
  · exact keeps_mapWater_of_same rfl rfl
  · exact .rfl

/-! ### The evaluation in RUN (R78 to R82) -/

/-- A target set in RUN, inside its bounds there. -/
theorem settleGate_keeps {g : Nat} {s : State} (hrun : s.plant.state = .run)
    (hg : settingsLaw s = true → gateLaw s = true → s.setting Setting.GATE_RUN_MIN ≤ g ∧ g ≤ 1000) :
    Keeps s (settleGate g s) := by
  refine Keeps.trans (t := s.mapWater fun w => { w with gate := g }) ?_ (writeGateSlot_keeps _)
  refine keeps_mapWater (.of_eq (timerLaw_congr rfl rfl)) fun h => ?_
  simp only [Law.holds, Bool.and_eq_true] at h ⊢
  obtain ⟨hmin, hmax⟩ := hg h.1 h.2
  refine ⟨h.1, ?_⟩
  simp only [gateLaw, State.mapWater_water, State.mapWater_plant, hrun, Bool.and_eq_true]
  exact ⟨decide_eq_true hmax, decide_eq_true hmin⟩

/-- The evaluation timer restarts in RUN, where it runs. -/
theorem restartInterval_keeps {s : State} (hrun : s.plant.state = .run) : Keeps s (restartInterval s) := by
  refine keeps_mapWater ?_ (.of_eq (congrArg₂ and (settingsLaw_congr rfl) (gateLaw_congr rfl rfl rfl)))
  simp only [Law.Kept, Law.holds, timerLaw, State.inPlant, State.mapWater_plant, State.mapWater_water, hrun]
  simp only [Bool.and_eq_true]
  exact fun h => ⟨h.1, rfl⟩

theorem movedGate_le {s : State} (l : Nat) (h : s.water.gate ≤ 1000) : s.movedGate l ≤ 1000 := by
  unfold State.movedGate
  dsimp only
  split
  · exact (Nat.sub_le _ _).trans h
  split
  · exact min_le_left _ _
  split
  · exact (Nat.sub_le _ _).trans h
  · exact h

theorem gate_le_of_gateLaw {s : State} (h : gateLaw s = true) : s.water.gate ≤ 1000 := by
  simp only [gateLaw, Bool.and_eq_true, decide_eq_true_eq] at h
  exact h.1

theorem chargeShortage_keeps (interval : Nat) (s : State) : Keeps s (chargeShortage interval s) := by
  have hcharge : Keeps s (s.mapWater fun w => { w with shortage := w.shortage + interval }) :=
    keeps_mapWater_of_same rfl rfl
  unfold chargeShortage
  dsimp only
  split
  · exact hcharge.trans (shortageEvent_keeps _)
  · exact hcharge

theorem raiseResidual_keeps (s : State) : Keeps s (raiseResidual s) := by
  unfold raiseResidual
  split
  · exact raise_keeps _ _ _
  · exact .rfl

@[simp] theorem raiseResidual_water_plant (s : State) :
    (raiseResidual s).water = s.water ∧ (raiseResidual s).plant = s.plant := by
  unfold raiseResidual
  split <;> simp

theorem madeEvaluation_keeps (l interval : Nat) {s : State} (hrun : s.plant.state = .run) :
    Keeps s (madeEvaluation l interval s) := by
  have hrestart : Keeps s (restartInterval (raiseResidual s)) :=
    (raiseResidual_keeps s).trans (restartInterval_keeps (by simpa using hrun))
  have hrun' : (restartInterval (raiseResidual s)).plant.state = .run := by simpa [restartInterval] using hrun
  have hsetting : ∀ i, (restartInterval (raiseResidual s)).setting i = s.setting i :=
    setting_congr (by simp)
  have hgate : (restartInterval (raiseResidual s)).water.gate = s.water.gate := by simp [restartInterval]
  unfold madeEvaluation
  dsimp only
  split
  · refine hrestart.trans ((settleGate_keeps hrun' fun h _ => ⟨by rw [hsetting], ?_⟩).trans
      (chargeShortage_keeps _ _))
    have hmin := (setting_le_of_settingsLaw h (i := Setting.GATE_RUN_MIN) rfl).2
    rw [hsetting] at hmin
    exact hmin.trans (by decide)
  · next hwant =>
    refine hrestart.trans ((settleGate_keeps hrun' fun _ h => ⟨?_, ?_⟩).trans (keeps_mapWater_of_same rfl rfl))
    · rw [hsetting]
      exact Nat.le_of_not_lt hwant
    · have hle := gate_le_of_gateLaw h
      rw [hgate] at hle
      exact (min_le_left _ _).trans (movedGate_le l hle)

theorem evaluate_keeps (interval : Nat) {s : State} (hrun : s.plant.state = .run) :
    Keeps s (evaluate interval s) := by
  unfold evaluate
  split
  · split
    · exact restartInterval_keeps hrun
    · exact madeEvaluation_keeps _ _ hrun
  · exact restartInterval_keeps hrun

theorem gateEvaluation_keeps (s : State) : Keeps s (gateEvaluation s) := by
  unfold gateEvaluation
  split
  · split
    · next h => exact evaluate_keeps _ (by simpa [State.inPlant] using h)
    · exact .rfl
  · exact .rfl

theorem evaluationTick_keeps (s : State) : Keeps s (evaluationTick s) := by
  unfold evaluationTick
  split
  · next n hn =>
    have hcount : Keeps s (s.mapWater fun w => { w with evalTimer := some (n + 1) }) :=
      keeps_mapWater_of_same rfl (by simp [hn])
    dsimp only
    split
    · split
      · exact hcount.trans (gateEvaluation_keeps _)
      · exact hcount
    · exact .rfl
  · exact .rfl

/-! ## Mill Time Unit -/

theorem evaluateWindows_keeps (s : State) : Keeps s (evaluateWindows s) := by
  have hopen : Keeps s (s.mapTime fun t => { t with
      eveningOpen := s.windowNow 0, nightOpen := s.windowNow 1, sawOpen := s.windowNow 2 }) :=
    keeps_mapTime_of_same rfl rfl
  unfold evaluateWindows
  dsimp only
  split
  · exact hopen.trans (sawWindowCloses_keeps _)
  · exact hopen

theorem judgeTimeError_keeps (s : State) : Keeps s (judgeTimeError s) := by
  unfold judgeTimeError
  split
  · exact raise_keeps _ _ _
  · exact causeEnd_keeps _ _

/-- The time error takes a value inside its range. -/
theorem keeps_setTimeError {f : MillTime → MillTime} {s : State} (hlow : -30000 ≤ (f s.time).te)
    (hhigh : (f s.time).te ≤ 30000) (hdir : (f s.time).direction = s.time.direction) :
    Keeps s (s.mapTime f) := by
  refine keeps_mapTime ?_
  simp only [Law.Kept, Law.holds, timeLaw, State.inPlant, State.mapTime_time, State.mapTime_plant, hlow, hhigh, hdir,
    decide_true, Bool.true_and, Bool.and_eq_true]
  exact And.right

theorem addTimeError_keeps (x : Int) (s : State) : Keeps s (addTimeError x s) := by
  refine Keeps.trans (t := State.mapTime _ s) (keeps_setTimeError ?_ ?_ rfl) (judgeTimeError_keeps _)
  · exact le_max_left _ _
  · exact max_le (by decide) (min_le_left _ _)

theorem advanceClock_keeps (s : State) : Keeps s (advanceClock s) := by
  have hclock : Keeps s (s.mapTime fun t => { t with clock := t.clock.map DayClock.next }) :=
    keeps_mapTime_of_same rfl rfl
  unfold advanceClock
  dsimp only
  split
  · exact hclock.trans (evaluateWindows_keeps _)
  · exact hclock

/-- Outside RUN the correction is zero. -/
theorem chooseCorrection_keeps (s : State) : Keeps s (chooseCorrection s) := by
  refine keeps_mapTime ?_
  simp only [Law.Kept, Law.holds, timeLaw, State.inPlant, State.mapTime_time, State.mapTime_plant,
    Bool.and_eq_true, Bool.or_eq_true]
  rintro ⟨hrange, -⟩
  refine ⟨hrange, ?_⟩
  by_cases hrun : s.plant.state = .run <;> simp [hrun]

theorem timeTick_keeps (s : State) : Keeps s (timeTick s) :=
  (keeps_mapTime_of_same rfl rfl).trans ((advanceClock_keeps _).trans
    ((addTimeError_keeps _ _).trans (chooseCorrection_keeps _)))

theorem millSecond_keeps (s : State) : Keeps s (millSecond s) :=
  (timeTick_keeps s).trans ((plantTick_keeps _).trans ((pondSilenceTick_keeps _).trans
    ((gateSilenceTick_keeps _).trans ((evaluationTick_keeps _).trans ((feedersTick_keeps _).trans
      ((reclosesTick_keeps _).trans ((sawSilenceTick_keeps _).trans (grantTick_keeps _))))))))

theorem setClock_keeps (day : Word16) (sec : Nat) (s : State) : Keeps s (setClock day sec s).state := by
  have hclock : Keeps s (s.mapTime fun t => { t with clock := some ⟨day, sec⟩ }) := keeps_mapTime_of_same rfl rfl
  unfold setClock
  split
  · exact .rfl
  · exact hclock.trans ((evaluateWindows_keeps _).trans (journalAppend_keeps _ _ _ _))

theorem setTimeError_keeps (te : Int) (s : State) : Keeps s (setTimeError te s).state := by
  unfold setTimeError
  split
  · exact .rfl
  · next h =>
    rw [not_or, not_lt, not_lt] at h
    have hset : Keeps s (s.mapTime fun t => { t with te := te }) := keeps_setTimeError h.1 h.2 rfl
    exact hset.trans ((journalAppend_keeps _ _ _ _).trans (judgeTimeError_keeps _))

end Sys2Proof.Proofs
end

section
namespace Sys2Proof.Proofs
open Sys2Proof.Machine Sys2Proof.Safety

/-! ## Crossings and the signal -/

/-- What no law reads. -/
theorem keeps_of_keptBut_model {s t : State} (h : KeptBut [.pins, .draws, .pending] s t) : Keeps s t :=
  .of_keptBut h fun L hL => by cases L <;> simp [Law.reads] at hL

theorem observersInOrder_keeps (shedFirst : Bool) (f : Nat) (e : Int) (p : Nat) (s : State) :
    Keeps s (observersInOrder shedFirst f e p s) := by
  cases shedFirst
  · exact (sawUpdate_keeps f s).trans (sheddingUpdate_keeps _ _ _ _)
  · exact (sheddingUpdate_keeps f e p s).trans (sawUpdate_keeps _ _)

theorem demandUpdates_keeps (shedFirst : Bool) (f p : Nat) (t0 : Count) (lag : Nat) (s : State) :
    Keeps s (demandUpdates shedFirst f p t0 lag s) :=
  (governorUpdate_keeps f s).trans ((firingUpdate_keeps _ _ _ _).trans
    ((demandUpdate_keeps _).trans (observersInOrder_keeps _ _ _ _ _)))

theorem takersInOrder_keeps (plantFirst shedFirst : Bool) (f p : Nat) (t0 : Count) (lag : Nat) (s : State) :
    Keeps s (takersInOrder plantFirst shedFirst f p t0 lag s) := by
  cases plantFirst
  · exact (demandUpdates_keeps shedFirst f p t0 lag s).trans (plantPeriod_keeps _ _)
  · exact (plantPeriod_keeps f s).trans (demandUpdates_keeps _ _ _ _ _ _)

theorem acceptLevel_keeps (input : EdgeInput) (level : Bool) (s : State) : Keeps s (acceptLevel input level s) := by
  unfold acceptLevel
  split <;> exact keeps_mapEdge_of_same rfl rfl id rfl rfl rfl rfl

theorem raiseShaft_keeps (s : State) : Keeps s (raiseShaft s) :=
  (keeps_mapEdge_of_same rfl rfl id rfl rfl rfl rfl).trans (raise_keeps _ _ _)

theorem keptBut_mapEdge_mapPlant (f : EdgeCapture → EdgeCapture) (g : Plant → Plant) (s : State) :
    KeptBut [.edge, .plant] s ((s.mapEdge f).mapPlant g) := by
  intro b hb; cases b <;> first | rfl | simp at hb

/-- The signal PRESENT with its frequency and a running loss timer, and the signal-loss timer stopped. -/
theorem becomesPresent_keeps {f : EdgeCapture → EdgeCapture} {s : State}
    (hsignal : (f s.edge).signal = .present) (hfreq : (f s.edge).freq.isSome = true)
    (hloss : (f s.edge).lossTimer.isSome = true) (hsilence : (f s.edge).toothSilence = s.edge.toothSilence)
    (hsilent : (f s.edge).toothSilent = s.edge.toothSilent) (hperiod : (f s.edge).toothPeriod = s.edge.toothPeriod)
    (hover : (f s.edge).overspeed = s.edge.overspeed) : Keeps s (plantSignalPresent (s.mapEdge f)) := by
  intro L
  by_cases hedge : Block.edge ∈ L.reads
  · cases L with
    | signal =>
      intro _
      simp [Law.holds, signalLaw, plantSignalPresent, hsignal, hfreq, hloss]
    | tooth => exact .of_eq (toothLaw_congr (by simp [plantSignalPresent, hsilence])
        (by simp [plantSignalPresent, hsilent]) (by simp [plantSignalPresent, hperiod])
        (by simp [plantSignalPresent, hover]))
    | _ => simp [Law.reads] at hedge
  · have hmap : L.Kept s (s.mapEdge f) :=
      Law.kept_of_keptBut (keptBut_mapEdge f s) fun _ hb hmem => hedge (List.mem_singleton.mp hmem ▸ hb)
    exact hmap.trans (keeps_mapPlant_of_same rfl rfl rfl (by simp) id id L)

/-- A valid period is stored and the signal is PRESENT after it, as it may have been before. -/
theorem recoverSignal_storePeriod_keeps (t : Count) (p lag : Nat) (s : State) :
    Keeps s (recoverSignal (storePeriod t p lag s)) := by
  unfold recoverSignal
  split
  · have hpresent : Keeps s (plantSignalPresent ((storePeriod t p lag s).mapEdge fun e =>
        { e with signal := .present })) :=
      becomesPresent_keeps (f := fun e => { e with
        tPrev := some t, period := some p, freq := some (frequencyOf p), lossTimer := lossLeft lag
        signal := .present }) rfl rfl rfl rfl rfl rfl rfl
    unfold signalEntersPresent
    dsimp only
    split
    · exact hpresent.trans (raiseShaft_keeps _)
    · exact hpresent
  · next hpresent =>
    have hsignal : s.edge.signal = .present := by
      cases h : s.edge.signal
      · exact absurd h hpresent
      · rfl
    refine keeps_mapEdge (fun h => ?_) (.of_eq (toothLaw_congr rfl rfl rfl rfl))
    simp only [Law.holds, signalLaw, State.mapEdge_edge, State.mapEdge_plant, hsignal, lossLeft,
      Bool.and_eq_true] at h ⊢
    exact ⟨⟨rfl, rfl⟩, h.2⟩

theorem validPeriod_keeps (t : Count) (p lag : Nat) (s : State) : Keeps s (validPeriod t p lag s) := by
  have hdraw : Keeps s { s with draws := s.draws + 1 } :=
    keeps_of_keptBut_model fun b hb => by cases b <;> first | rfl | simp at hb
  exact hdraw.trans ((recoverSignal_storePeriod_keeps _ _ _ _).trans
    ((addTimeError_keeps _ _).trans (takersInOrder_keeps _ _ _ _ _ _ _)))

theorem gapEdge_keeps (t : Count) (lag : Nat) (s : State) : Keeps s (gapEdge t lag s) := by
  have hedge : Keeps s (s.mapEdge fun e => { e with tPrev := some t, lossTimer := lossLeft lag }) :=
    keeps_mapEdge_of_same rfl rfl (fun _ => rfl) rfl rfl rfl rfl
  exact hedge.trans ((cancelPulses_keeps _).trans (clearAcceptance_keeps _))

theorem crossingEdge_keeps (t : Count) (lag : Nat) (s : State) : Keeps s (crossingEdge t lag s) := by
  unfold crossingEdge
  split
  · exact .rfl
  · exact validPeriod_keeps _ _ _ _
  · exact gapEdge_keeps _ _ _

theorem lossTimerExpires_keeps (s : State) : Keeps s (lossTimerExpires s) := by
  unfold lossTimerExpires
  dsimp only
  split
  · have hlost : Keeps s ((s.mapEdge fun e => { e with lossTimer := none }).mapEdge fun e =>
        { e with signal := .lost, freq := none }) := by
      refine keeps_mapEdge (f := fun e => { e with lossTimer := none, signal := .lost, freq := none }) (fun _ => ?_)
        (.of_eq (toothLaw_congr rfl rfl rfl rfl))
      simp [Law.holds, signalLaw]
    exact hlost.trans ((cancelPulses_keeps _).trans (plantSignalLost_keeps (by simp)))
  · next hlost =>
    have hsignal : s.edge.signal = .lost := by
      cases h : s.edge.signal
      · rfl
      · exact absurd h hlost
    refine keeps_mapEdge (fun h => ?_) (.of_eq (toothLaw_congr rfl rfl rfl rfl))
    simp only [Law.holds, signalLaw, State.mapEdge_edge, State.mapEdge_plant, hsignal, Bool.and_eq_true] at h ⊢
    exact ⟨⟨h.1.1, by simp⟩, h.2⟩

/-! ## Teeth and the input filters -/

/-- An update of the tooth input that the law of the teeth allows. -/
theorem keeps_mapEdge_of_tooth {f : EdgeCapture → EdgeCapture} {s : State}
    (hsignal : (f s.edge).signal = s.edge.signal) (hfreq : (f s.edge).freq = s.edge.freq)
    (hloss : (f s.edge).lossTimer = s.edge.lossTimer) (htooth : Law.tooth.Kept s (s.mapEdge f)) :
    Keeps s (s.mapEdge f) := by
  refine keeps_mapEdge (.of_eq ?_) htooth
  simp only [Law.holds, signalLaw, State.mapEdge_edge, State.mapEdge_plant, hsignal, hfreq, hloss]

theorem overspeedCount_le {period threshold count : Nat} : overspeedCount period threshold count ≤ 3 := by
  unfold overspeedCount
  split
  · exact min_le_left _ _
  · exact Nat.zero_le _

theorem recordTooth_keeps (t : Count) (s : State) : Keeps s (recordTooth t s) := by
  refine keeps_mapEdge_of_tooth rfl rfl rfl ?_
  simp only [Law.Kept, Law.holds, toothLaw, State.mapEdge_edge, Bool.and_eq_true]
  exact fun h => ⟨⟨rfl, rfl⟩, h.2⟩

theorem endShaftCause_keeps (s : State) : Keeps s (endShaftCause s) := by
  unfold endShaftCause
  split
  · exact (keeps_mapEdge_of_same rfl rfl id rfl rfl rfl rfl).trans (causeEnd_keeps _ _)
  · exact .rfl

@[simp] theorem endShaftCause_toothSilent (s : State) :
    (endShaftCause s).edge.toothSilent = s.edge.toothSilent := by
  unfold endShaftCause
  split <;> simp

/-- With the tooth input heard, a period may be stored. -/
theorem toothPeriod_keeps (p : Nat) {s : State} (hheard : s.edge.toothSilent = false) :
    Keeps s (toothPeriod p s) := by
  have hstored : Keeps s (s.mapEdge fun e => { e with
      toothPeriod := some p
      overspeed := overspeedCount p (s.setting Setting.OVERSPEED_PERIOD) e.overspeed }) := by
    refine keeps_mapEdge_of_tooth rfl rfl rfl ?_
    simp only [Law.Kept, Law.holds, toothLaw, State.mapEdge_edge, Bool.and_eq_true, hheard]
    exact fun h => ⟨⟨h.1.1, rfl⟩, decide_eq_true overspeedCount_le⟩
  unfold toothPeriod
  dsimp only
  split
  · exact hstored.trans (trip_keeps _ _)
  · exact hstored

theorem toothEdge_keeps (t : Count) (s : State) : Keeps s (toothEdge t s) := by
  have hrecorded : Keeps s (endShaftCause (recordTooth t s)) :=
    (recordTooth_keeps t s).trans (endShaftCause_keeps _)
  unfold toothEdge
  dsimp only
  split
  · exact hrecorded.trans (toothPeriod_keeps _ (by simp [recordTooth]))
  · refine hrecorded.trans (keeps_mapEdge_of_tooth rfl rfl rfl ?_)
    simp only [Law.Kept, Law.holds, toothLaw, State.mapEdge_edge, Bool.and_eq_true]
    exact fun h => ⟨h.1, rfl⟩

theorem toothSilenceExpires_keeps (s : State) : Keeps s (toothSilenceExpires s) := by
  have hsilent : Keeps s (s.mapEdge fun e => { e with
      toothSilence := none, toothSilent := true, toothPeriod := none }) := by
    refine keeps_mapEdge_of_tooth rfl rfl rfl ?_
    simp only [Law.Kept, Law.holds, toothLaw, State.mapEdge_edge, Bool.and_eq_true]
    exact fun h => ⟨⟨rfl, rfl⟩, h.2⟩
  unfold toothSilenceExpires
  dsimp only
  split
  · split
    · exact hsilent.trans (raiseShaft_keeps _)
    · exact hsilent
  · exact .rfl

theorem sampleXing_keeps (s : State) : Keeps s (sampleXing s) := by
  have hfilter : ∀ x, Keeps s (s.mapEdge fun e => { e with xing := x }) := fun _ =>
    keeps_mapEdge_of_same rfl rfl id rfl rfl rfl rfl
  unfold sampleXing
  dsimp only
  split
  · split
    · exact (hfilter _).trans (crossingEdge_keeps _ _ _)
    · exact hfilter _
  · exact hfilter _

theorem sampleTooth_keeps (s : State) : Keeps s (sampleTooth s) := by
  have hfilter : ∀ x, Keeps s (s.mapEdge fun e => { e with tooth := x }) := fun _ =>
    keeps_mapEdge_of_same rfl rfl id rfl rfl rfl rfl
  unfold sampleTooth
  dsimp only
  split
  · split
    · exact (hfilter _).trans (toothEdge_keeps _ _)
    · exact hfilter _
  · exact hfilter _

/-! ## Arrivals and the output arbiter, but for requests -/

theorem arrival_keeps (r : Receive) (s : State) : Keeps s (arrival r s) := by
  have hrestart : Keeps s (restartLoopSilence r s) := keeps_mapLoop_of_same rfl rfl rfl rfl rfl
  unfold arrival
  dsimp only
  split
  · exact hrestart.trans (causeEnd_keeps _ _)
  · exact hrestart

theorem failedArrival_keeps (r : Receive) (s : State) : Keeps s (failedArrival r s) :=
  (arrival_keeps r s).trans (raise_keeps _ _ _)

theorem forwardFrame_keeps (f : List Byte) (s : State) : Keeps s (forwardFrame f s) := by
  unfold forwardFrame
  split
  · next hroom =>
    refine keeps_mapLoop (fun h => loopLaw_iff _ |>.mpr ?_) rfl rfl
    obtain ⟨-, hanswers, hslots⟩ := (loopLaw_iff s).mp h
    refine ⟨?_, hanswers, hslots⟩
    rw [State.mapLoop_loop, List.length_append, List.length_singleton]
    exact hroom
  · exact raise_keeps _ _ _

theorem dispatch_keeps (f : List Byte) (s : State) : Keeps s (dispatch f s) := by
  unfold dispatch dispatchRole
  split
  · split
    · exact pondSample_keeps _ _
    · exact gateSample_keeps _ _
    · exact sawSample_keeps _ _
    · exact feederSample_keeps _ _ _
  · exact .rfl

theorem loopSilenceExpires_keeps (s : State) : Keeps s (loopSilenceExpires s) := by
  unfold loopSilenceExpires
  split
  · exact (keeps_mapLoop_of_same rfl rfl rfl rfl rfl).trans (raise_keeps _ _ _)
  · exact .rfl

theorem startSending_keeps (f : List Byte) (src : Source) (s : State) : Keeps s (startSending f src s) :=
  keeps_mapLoop_of_same rfl rfl rfl rfl rfl

theorem serveSlot_keeps (i : Nat) (s : State) : Keeps s (serveSlot i s) := by
  refine keeps_mapLoop (fun h => (loopLaw_iff _).mpr ?_) rfl rfl
  obtain ⟨hforward, hanswers, hlength, hslots⟩ := (loopLaw_iff s).mp h
  refine ⟨hforward, hanswers, by simpa using hlength, fun x hx => ?_⟩
  rw [State.mapLoop_loop] at hx
  obtain ⟨k, hk, rfl⟩ := List.getElem_of_mem hx
  rw [List.length_modify] at hk
  rw [List.getElem_modify]
  split
  · simp
  · exact hslots _ (List.getElem_mem hk)

theorem arbiterStarts_keeps (s : State) : Keeps s (arbiterStarts s) := by
  unfold arbiterStarts serveSource sendSlot
  split
  · split
    · split
      · exact startSending_keeps _ _ _
      · exact .rfl
    · split
      · split
        · exact (serveSlot_keeps _ _).trans (startSending_keeps _ _ _)
        · exact .rfl
      · exact .rfl
    · split
      · exact startSending_keeps _ _ _
      · exact .rfl
  · exact .rfl
  · exact .rfl

theorem frameLeaves_keeps (s : State) : Keeps s (frameLeaves s) := by
  unfold frameLeaves
  split
  · next x _ =>
    have hrelease : ∀ l : LoopPort, ∃ a b, l.release x.from_ = { l with
        forward := l.forward.drop a, answers := l.answers.drop b } := by
      intro l
      cases hfrom : x.from_ with
      | none => exact ⟨0, 0, by simp [LoopPort.release]⟩
      | some src =>
        cases src with
        | forward => exact ⟨1, 0, by simp [LoopPort.release]⟩
        | slots => exact ⟨0, 0, by simp [LoopPort.release]⟩
        | answers => exact ⟨0, 1, by simp [LoopPort.release]⟩
    obtain ⟨a, b, hab⟩ := hrelease s.loop
    refine keeps_mapLoop (fun h => (loopLaw_iff _).mpr ?_) (by simp [hab]) (by simp [hab])
    obtain ⟨hforward, hanswers, hslots⟩ := (loopLaw_iff s).mp h
    simp only [State.mapLoop_loop, hab, List.length_drop]
    exact ⟨by omega, by omega, hslots⟩
  · exact .rfl

/-! ## One timebase count -/

@[simp] theorem oneCount_isSome (x : Option Nat) : (oneCount x).isSome = x.isSome := by
  cases x <;> rfl

theorem timersPass_keeps (s : State) : Keeps s (timersPass s) := by
  unfold timersPass
  have hedge : Keeps s (s.mapEdge fun e => { e with
      lossTimer := oneCount e.lossTimer, toothSilence := oneCount e.toothSilence }) :=
    keeps_mapEdge_of_same rfl rfl (by simp) (by simp) rfl rfl rfl
  refine hedge.trans ?_
  generalize (s.mapEdge fun e => { e with
      lossTimer := oneCount e.lossTimer, toothSilence := oneCount e.toothSilence }) = t
  have hplant : Keeps t (t.mapPlant fun p => { p with
      signalLoss := oneCount p.signalLoss
      collapse := oneCount p.collapse
      freqOverspeed := oneCount p.freqOverspeed }) :=
    keeps_mapPlant_of_same rfl rfl rfl (by simp) (by simp) (by simp)
  exact hplant.trans ((keeps_mapSaw_of_same rfl rfl rfl rfl rfl).trans (keeps_mapLoop_of_same rfl rfl rfl rfl rfl))

/-- An expiry that is taken where its timer has run out. -/
theorem keeps_ite {c : Prop} [Decidable c] {s t : State} (h : Keeps s t) : Keeps s (if c then t else s) := by
  split
  · exact h
  · exact .rfl

theorem timersCount_keeps (s : State) : Keeps s (timersCount s) :=
  (timersPass_keeps s).trans ((keeps_ite (lossTimerExpires_keeps _)).trans
    ((keeps_ite (toothSilenceExpires_keeps _)).trans ((keeps_ite (signalLossExpires_keeps _)).trans
      ((keeps_ite (collapseExpires_keeps _)).trans ((keeps_ite (freqOverspeedExpires_keeps _)).trans
        ((keeps_ite (reserveTimerExpires_keeps _)).trans ((keeps_ite (settleExpires_keeps _)).trans
          ((keeps_ite (confirmExpires_keeps _)).trans ((keeps_ite (rundownExpires_keeps _)).trans
            (keeps_ite (loopSilenceExpires_keeps _)))))))))))

theorem pulseEndCount_keeps (s : State) : Keeps s (pulseEndCount s) := by
  unfold pulseEndCount
  split
  · exact keeps_ite (endPulse_keeps s)
  · exact .rfl

theorem pulseStartCount_keeps (s : State) : Keeps s (pulseStartCount s) := by
  unfold pulseStartCount
  split
  · exact keeps_ite (startPulse_keeps s)
  · exact .rfl

theorem samplesCount_keeps (s : State) : Keeps s (samplesCount s) :=
  keeps_ite ((sampleXing_keeps s).trans (sampleTooth_keeps _))

theorem intervalsCount_keeps (s : State) : Keeps s (intervalsCount s) :=
  keeps_mapHamlet (.of_eq (shedLaw_congr rfl rfl rfl))

theorem dividerCount_keeps (s : State) : Keeps s (dividerCount s) := by
  unfold dividerCount
  split
  · exact millSecond_keeps s
  · exact keeps_mapTime_of_same rfl rfl

theorem lineCount_keeps (s : State) : Keeps s (lineCount s) := by
  unfold lineCount
  split
  · split
    · exact frameLeaves_keeps s
    · exact keeps_mapLoop_of_same rfl rfl rfl rfl rfl
  · split
    · exact keeps_mapLoop_of_same rfl rfl rfl rfl rfl
    · exact arbiterStarts_keeps s

theorem tick_keeps (s : State) : Keeps s (tick s) := by
  have hcount : Keeps s (timebaseCount s) := keeps_mapEdge_of_same rfl rfl id rfl rfl rfl rfl
  exact hcount.trans ((timersCount_keeps _).trans ((pulseEndCount_keeps _).trans ((pulseStartCount_keeps _).trans
    ((samplesCount_keeps _).trans ((intervalsCount_keeps _).trans ((dividerCount_keeps _).trans
      (lineCount_keeps _)))))))

end Sys2Proof.Proofs
end

section
namespace Sys2Proof.Proofs
open Sys2Proof.Machine Sys2Proof.Safety

/-! ## Spans of a table -/

/-- A span written inside a list keeps its length. -/
theorem length_splice {α : Type} {old new : List α} {first : Nat} (h : first + new.length ≤ old.length) :
    (splice old first new).length = old.length := by
  simp only [splice, List.length_append, List.length_take, List.length_drop]
  omega

/-- What a cell holds after a span is written over the list. -/
theorem getElem?_splice {α : Type} {old new : List α} {first : Nat} (h : first + new.length ≤ old.length)
    (i : Nat) :
    (splice old first new)[i]? =
      if first ≤ i ∧ i < first + new.length then new[i - first]? else old[i]? := by
  have htake : (old.take first).length = first := by simp; omega
  unfold splice
  by_cases hlow : i < first
  · rw [List.append_assoc, List.getElem?_append_left (by omega), List.getElem?_take_of_lt hlow,
      if_neg (by omega)]
  by_cases hin : i < first + new.length
  · rw [List.append_assoc, List.getElem?_append_right (by omega), htake,
      List.getElem?_append_left (by omega), if_pos ⟨by omega, hin⟩]
  · rw [List.getElem?_append_right (by simp; omega), if_neg (by omega)]
    simp only [List.length_append, htake, List.getElem?_drop]
    congr 1
    omega

/-- A cell outside the span keeps what it held. -/
theorem getD_splice_of_not_inSpan {α : Type} {old new : List α} {first : Nat} {d : α}
    (h : first + new.length ≤ old.length) {i : Nat} (hout : inSpan first new.length i = false) :
    (splice old first new).getD i d = old.getD i d := by
  simp only [inSpan, Bool.and_eq_false_iff, decide_eq_false_iff_not] at hout
  rw [List.getD_eq_getElem?_getD, List.getD_eq_getElem?_getD, getElem?_splice h, if_neg (by omega)]

/-- Every cell of the list after a write is written or was there. -/
theorem mem_splice {α : Type} {old new : List α} {first : Nat} {x : α} (h : x ∈ splice old first new) :
    x ∈ new ∨ x ∈ old := by
  simp only [splice, List.mem_append] at h
  rcases h with (h | h) | h
  · exact .inr (List.mem_of_mem_take h)
  · exact .inl h
  · exact .inr (List.mem_of_mem_drop h)

theorem length_words16 (bytes : List Byte) : (words16 bytes).length = bytes.length / 2 := by
  induction bytes using words16.induct with
  | case1 hi lo rest ih => simp [words16, ih]; omega
  | case2 bytes h =>
    match bytes, h with
    | [], _ => rfl
    | [_], _ => simp [words16]
    | hi :: lo :: rest, h => exact absurd rfl (h hi lo rest)

/-! ## A write of settings (R84, R179) -/

/-- The checks of a settings write, as far as the span's values fill its count. -/
theorem settingsLaw_of_check {old new : List Nat} {first : Nat} {s t : State}
    (hspan : first + new.length ≤ 57) (hs : settingsLaw s = true) (hold : s.tables.settings.vals = old)
    (hcheck : settingsCheck old first new = .done) (ht : t.tables.settings.vals = splice old first new) :
    settingsLaw t = true := by
  subst hold
  have hlaw := hs
  simp only [settingsLaw, Bool.and_eq_true, decide_eq_true_eq] at hlaw
  obtain ⟨⟨hlen, hrange⟩, hpairs⟩ := hlaw
  have hsplice : first + new.length ≤ s.tables.settings.vals.length := hlen ▸ hspan
  unfold settingsCheck at hcheck
  split at hcheck
  case isFalse => cases hcheck
  case isTrue hok =>
    simp only [Bool.and_eq_true] at hok
    obtain ⟨hnew, hnewPairs⟩ := hok
    simp only [settingsLaw, Bool.and_eq_true, decide_eq_true_eq, ht, length_splice hsplice, hlen, true_and,
      State.setting]
    refine ⟨?_, ?_⟩
    · simp only [settingsInRange, List.all_eq_true, Prod.forall, List.mem_zipIdx_iff_getElem?, Nat.zero_add] at *
      intro v i hi
      rw [getElem?_splice hsplice] at hi
      split at hi
      · next hin =>
        have := hnew v (i - first) hi
        rwa [Nat.add_sub_cancel' hin.1] at this
      · exact hrange v i hi
    · simp only [pairsHold, List.all_eq_true, Bool.or_eq_true, Bool.not_eq_true', Bool.or_eq_false_iff] at *
      intro p hp
      rcases hnewPairs p hp with ⟨hlow, hhigh⟩ | hpair
      · rw [getD_splice_of_not_inSpan hsplice hlow, getD_splice_of_not_inSpan hsplice hhigh]
        exact hpairs p hp
      · exact hpair

/-- The gate's law after a settings write that the blocks have acted on. -/
theorem gateLaw_gateSettingsWritten {first count : Nat} {s t : State} (hs : gateLaw s = true)
    (ht : settingsLaw t = true) (hgate : t.water = s.water) (hplant : t.plant = s.plant)
    (hout : ∀ i, inSpan first count i = false → t.setting i = s.setting i) :
    gateLaw (gateSettingsWritten first count t) = true := by
  have hstart := (setting_le_of_settingsLaw ht (i := Setting.GATE_START) rfl).2
  have hmin := (setting_le_of_settingsLaw ht (i := Setting.GATE_RUN_MIN) rfl).2.trans (by decide : 500 ≤ 1000)
  have hle := gate_le_of_gateLaw hs
  have hsettle : ∀ g, (settleGate g t).water.gate = g ∧ (settleGate g t).plant = t.plant ∧
      ∀ i, (settleGate g t).setting i = t.setting i := fun g => ⟨by simp [settleGate, writeGateSlot, writeSlot],
    by simp, setting_congr (by simp)⟩
  unfold gateSettingsWritten
  simp only [gateLaw, Bool.and_eq_true, decide_eq_true_eq] at hs ⊢
  cases hstate : t.plant.state with
  | stopped | stopping | tripped =>
    rw [← hplant, hstate, ← hgate] at hs
    simpa [State.inPlant, hstate] using hs
  | runup =>
    rw [← hplant, hstate, ← hgate] at hs
    cases hin : inSpan first count Setting.GATE_START with
    | true => simp [State.inPlant, hstate, hsettle, hstart]
    | false => simpa [State.inPlant, hstate, hin, hout _ hin] using hs
  | run =>
    rw [← hplant, hstate, ← hgate] at hs
    cases hin : inSpan first count Setting.GATE_RUN_MIN with
    | true =>
      by_cases hlow : t.water.gate < t.setting Setting.GATE_RUN_MIN
      · simp [State.inPlant, hstate, hlow, hsettle, hmin]
      · simpa [State.inPlant, hstate, hlow] using ⟨hs.1, Nat.le_of_not_lt hlow⟩
    | false => simpa [State.inPlant, hstate, hin, hout _ hin] using hs

theorem settleGate_kept {L : Law} (h : Block.water ∉ L.reads) (g : Nat) (s : State) :
    L.Kept s (settleGate g s) := (kept_mapWater h _ s).trans (writeGateSlot_keeps _ L)

theorem gateSettingsWritten_kept {L : Law} (h : Block.water ∉ L.reads) (first count : Nat) (s : State) :
    L.Kept s (gateSettingsWritten first count s) := by
  unfold gateSettingsWritten
  split
  · exact settleGate_kept h _ _
  · split
    · exact settleGate_kept h _ _
    · exact .rfl

theorem gateSettingsWritten_evalTimer (first count : Nat) (s : State) :
    (gateSettingsWritten first count s).water.evalTimer = s.water.evalTimer := by
  have hsettle : ∀ g, (settleGate g s).water.evalTimer = s.water.evalTimer := fun g => by
    simp [settleGate, writeGateSlot, writeSlot]
  unfold gateSettingsWritten
  split
  · exact hsettle _
  · split
    · exact hsettle _
    · rfl

theorem kept_mapTables {L : Law} (h : Block.tables ∉ L.reads) (f : TableStore → TableStore) (s : State) :
    L.Kept s (s.mapTables f) :=
  Law.kept_of_keptBut (keptBut_mapTables f s) fun _ hb hmem => h (List.mem_singleton.mp hmem ▸ hb)

/-- A settings write that passes its checks. -/
theorem writeSettings_keeps {new : List Nat} {first count : Nat} {s : State} {value : Int}
    (hspan : first + new.length ≤ 57) (hcount : new.length = count)
    (hcheck : settingsCheck s.tables.settings.vals first new = .done) :
    Keeps s (gateSettingsWritten first count (journalAppend .tableWrite none value
      (s.mapTables fun t => { t with settings := t.settings.write first new }))) := by
  set t := s.mapTables fun t => { t with settings := t.settings.write first new } with ht
  have hlaw : settingsLaw s = true → settingsLaw t = true := fun hs =>
    settingsLaw_of_check hspan hs rfl hcheck rfl
  have hentry : Keeps t (journalAppend .tableWrite none value t) := journalAppend_keeps _ _ _ _
  have hsettings : Law.settings.Kept s (gateSettingsWritten first count (journalAppend .tableWrite none value t)) :=
    fun hs => gateSettingsWritten_kept (by decide) _ _ _ (hentry .settings (hlaw hs))
  intro L
  by_cases htables : Block.tables ∈ L.reads
  · cases L with
    | settings => exact hsettings
    | nodeMap =>
      exact fun h => gateSettingsWritten_kept (by decide) _ _ _
        (hentry .nodeMap ((Law.Kept.of_eq (L := .nodeMap) rfl : Law.nodeMap.Kept s t) h))
    | gate =>
      intro h
      simp only [Law.holds, Bool.and_eq_true] at h
      refine (Bool.and_eq_true _ _).mpr ⟨hsettings h.1, ?_⟩
      refine gateLaw_gateSettingsWritten h.2 (hentry .settings (hlaw h.1)) (by simp [ht]) (by simp [ht])
        fun i hout => ?_
      have hlen : s.tables.settings.vals.length = 57 := by
        have := h.1
        simp only [settingsLaw, Bool.and_eq_true, decide_eq_true_eq] at this
        exact this.1.1
      rw [setting_congr (s := t) (by simp)]
      exact getD_splice_of_not_inSpan (hlen ▸ hspan) (hcount ▸ hout)
    | _ => simp [Law.reads] at htables
  · have hmap : L.Kept s (journalAppend .tableWrite none value t) :=
      (kept_mapTables htables _ s).trans (hentry L)
    by_cases hwater : Block.water ∈ L.reads
    · cases L with
      | timer => exact hmap.trans (.of_eq (timerLaw_congr (by simp) (by rw [gateSettingsWritten_evalTimer])))
      | gate => simp [Law.reads] at htables
      | _ => simp [Law.reads] at hwater
    · exact hmap.trans (gateSettingsWritten_kept hwater _ _ _)

/-! ## A write of the node map (R72, R96, R137, R178) -/

theorem waterRemapped_keeps (role : Nat) (s : State) : Keeps s (waterRemapped role s) := by
  unfold waterRemapped
  split
  · exact (keeps_mapWater_of_same rfl rfl).trans (causeEnd_keeps _ _)
  · exact (keeps_mapWater_of_same rfl rfl).trans (causeEnd_keeps _ _)

theorem feederRemapped_keeps (k : Nat) (s : State) : Keeps s (feederRemapped k s) :=
  (modifyFeeder_keeps _ _ s).trans ((examineFeeders_keeps _).trans (writeFeederSlot_keeps _ _))

theorem sawRemapped_keeps (s : State) : Keeps s (sawRemapped s) :=
  (keeps_mapSaw_of_same rfl rfl rfl rfl rfl).trans ((causeEnd_keeps _ _).trans (writeSawSlot_keeps _))

theorem roleRemapped_keeps (role : Nat) (s : State) : Keeps s (roleRemapped role s) := by
  have hempty : Keeps s (emptyUnmapped role s) := by
    unfold emptyUnmapped
    split
    · exact .rfl
    · exact emptySlot_keeps _ _
  unfold roleRemapped
  dsimp only
  split
  · exact hempty.trans (waterRemapped_keeps _ _)
  · split
    · exact hempty.trans (sawRemapped_keeps _)
    · exact hempty.trans (feederRemapped_keeps _ _)

theorem rolesRemapped_keeps (old : List Nat) (s : State) : Keeps s (rolesRemapped old s) :=
  foldl_keepsLaws (fun t r => by
    split
    · exact .rfl
    · exact roleRemapped_keeps r t) _ _

theorem writeNodeMap_keeps {new : List Nat} {first : Nat} {s : State} (hspan : first + new.length ≤ 9)
    (hallowed : nodeMapAllowed s.loop.ownAddress (splice s.tables.nodeMap.vals first new) = true) :
    Keeps s (s.mapTables fun t => { t with nodeMap := t.nodeMap.write first new }) := by
  refine keeps_mapTables (.of_eq rfl) (.of_eq rfl) fun h => ?_
  simp only [Law.holds, nodeMapLaw, Bool.and_eq_true, decide_eq_true_eq] at h ⊢
  obtain ⟨⟨⟨hlen, -⟩, hlow⟩, hhigh⟩ := h
  exact ⟨⟨⟨(length_splice (hlen ▸ hspan)).trans hlen, hallowed⟩, hlow⟩, hhigh⟩

/-! ## A write of circuits (R89, R90) -/

/-- What the check of circuit entries finds at each place of the span. -/
theorem circuitsCheck_eq_done_iff {s : State} {first : Nat} {xs : List CircuitFields} :
    circuitsCheck s first xs = .done ↔
      ∀ (k : Nat) (x : CircuitFields), xs[k]? = some x → x.inRange = true ∧ x.changesUse (s.circuit (first + k)) = false := by
  induction xs generalizing first with
  | nil => simp [circuitsCheck]
  | cons x xs ih =>
    rw [circuitsCheck]
    constructor
    · intro h
      split at h
      case isFalse => cases h
      split at h
      case isTrue => cases h
      case isFalse hrange huse =>
        intro k y hy
        cases k with
        | zero =>
          obtain rfl : x = y := by simpa using hy
          exact ⟨hrange, by simpa using huse⟩
        | succ k =>
          have := ih.mp h k y (by simpa using hy)
          rwa [Nat.add_right_comm] at this
    · intro h
      obtain ⟨hrange, huse⟩ := h 0 x rfl
      rw [if_pos hrange, if_neg (by simpa using huse)]
      refine ih.mpr fun k y hy => ?_
      have := h (k + 1) y (by simpa using hy)
      rwa [Nat.add_right_comm]

/-- The circuit entries after the host's fields are stored. -/
theorem circuit_storeCircuits (xs : List CircuitFields) (first : Nat) (s : State) (j : Nat) :
    (storeCircuits first xs s).circuit j =
      if first ≤ j ∧ j < s.hamlet.entries.length then
        ((xs[j - first]?).map fun x => (s.circuit j).store x).getD (s.circuit j)
      else s.circuit j := by
  induction xs generalizing first s with
  | nil => simp [storeCircuits]
  | cons x xs ih =>
    rw [storeCircuits, ih, circuit_modifyCircuit]
    rw [show (modifyCircuit first (Circuit.store x) s).hamlet.entries.length = s.hamlet.entries.length by
      simp [modifyCircuit]]
    by_cases hlen : j < s.hamlet.entries.length
    · rcases Nat.lt_trichotomy j first with hlt | rfl | hgt
      · rw [if_neg (by omega), if_neg (by omega), if_neg (by omega)]
      · simp [hlen]
      · obtain ⟨d, rfl⟩ : ∃ d, j = first + 1 + d := ⟨j - (first + 1), by omega⟩
        have hd : first + 1 + d - first = d + 1 := by omega
        simp [hlen, show first ≠ first + 1 + d by omega, show first ≤ first + 1 + d by omega, hd]
    · simp [hlen]

theorem storeCircuits_keeps {xs : List CircuitFields} {first : Nat} {s : State}
    (h : ∀ (k : Nat) (x : CircuitFields), xs[k]? = some x → x.changesUse (s.circuit (first + k)) = false) :
    Keeps s (storeCircuits first xs s) := by
  induction xs generalizing first s with
  | nil => exact .rfl
  | cons x xs ih =>
    have hfirst := h 0 x rfl
    have hstore : Keeps s (modifyCircuit first (Circuit.store x) s) := by
      refine modifyCircuit_keeps rfl ?_ id
      by_cases hshed : (s.circuit first).state = .shed
      · simp only [CircuitFields.changesUse, Circuit.inService, Nat.add_zero, hshed, Bool.true_and,
          Bool.or_eq_false_iff, bne_eq_false_iff_eq] at hfirst
        exact .inl hfirst.2
      · exact .inr hshed
    refine hstore.trans (ih fun k y hy => ?_)
    rw [circuit_modifyCircuit, if_neg (by omega)]
    have := h (k + 1) y (by simpa using hy)
    rwa [show first + (k + 1) = first + 1 + k by omega] at this

/-- An entry out of service may be removed. -/
theorem removeCircuit_keeps {i : Nat} {s : State} (hnot : (s.circuit i).state ≠ .shed) :
    Keeps s (modifyCircuit i Circuit.remove s) := by
  refine keeps_mapHamlet fun h => shedLaw_iff.mpr ((shedLaw_iff.mp h).of_circuits (by simp) rfl rfl fun j => ?_)
  have hread := circuit_modifyCircuit i j Circuit.remove s
  rw [modifyCircuit] at hread
  rw [hread]
  by_cases hj : i = j ∧ j < s.hamlet.entries.length
  · obtain ⟨rfl, hlt⟩ := hj
    simp only [hlt, and_self, if_true]
    exact ⟨by simp [Circuit.remove, hnot], fun hs => absurd hs hnot, id, .inr fun _ => rfl⟩
  · rw [if_neg hj]
    exact ⟨Iff.rfl, fun _ => rfl, id, .inr id⟩

theorem presentWritten_keeps {i : Nat} {before : Bool} {s : State}
    (h : before ≠ (s.circuit i).present → (s.circuit i).state ≠ .shed) : Keeps s (presentWritten i before s) := by
  unfold presentWritten
  split
  · next _ hnew => exact removeCircuit_keeps (h (by simp [hnew]))
  · next _ hnew => exact placeOn_keeps (h (by simp [hnew]))
  · exact .rfl
  · exact .rfl

/-- The circuits that an operation on one circuit leaves. -/
theorem circuit_appendRequest_ne {i j : Nat} (h : i ≠ j) (cause : ShedCause) (s : State) :
    (appendRequest i cause s).circuit j = s.circuit j := by
  rcases appendRequest_cases i cause s with ⟨-, -, -, heq⟩ | heq
  · rw [heq, circuit_appendTaken, if_neg (by simp [h])]
  · rw [heq]

theorem circuit_moveCircuit_ne {i j : Nat} (h : i ≠ j) (st : CircuitState) (s : State) :
    (moveCircuit i st s).circuit j = s.circuit j := by
  rw [circuit_moveCircuit, if_neg (by simp [h])]

theorem circuit_placeOn_ne {i j : Nat} (h : i ≠ j) (s : State) : (placeOn i s).circuit j = s.circuit j := by
  unfold placeOn
  split
  · split
    · exact circuit_moveCircuit_ne h _ _
    · exact circuit_appendRequest_ne h _ _
  · exact circuit_moveCircuit_ne h _ _

theorem circuit_presentWritten_ne {i j : Nat} (h : i ≠ j) (before : Bool) (s : State) :
    (presentWritten i before s).circuit j = s.circuit j := by
  unfold presentWritten
  split
  · rw [circuit_modifyCircuit, if_neg (by simp [h])]
  · exact circuit_placeOn_ne h s
  · rfl
  · rfl

theorem circuitsWritten_keeps {before : List Circuit} {first count : Nat} {s : State}
    (h : ∀ k, k < count → (before.getD (first + k) Circuit.blank).present ≠ (s.circuit (first + k)).present →
      (s.circuit (first + k)).state ≠ .shed) : Keeps s (circuitsWritten before first count s) := by
  have hrun : ∀ (l : List Nat) (t : State), l.Nodup →
      (∀ k ∈ l, (before.getD (first + k) Circuit.blank).present ≠ (t.circuit (first + k)).present →
        (t.circuit (first + k)).state ≠ .shed) →
      Keeps t (l.foldl (fun t k =>
        presentWritten (first + k) (before.getD (first + k) Circuit.blank).present t) t) := by
    intro l
    induction l with
    | nil => exact fun _ _ _ => .rfl
    | cons k l ih =>
      intro t hnodup ht
      rw [List.nodup_cons] at hnodup
      refine (presentWritten_keeps (ht k List.mem_cons_self)).trans (ih _ hnodup.2 fun j hj => ?_)
      have hne : first + k ≠ first + j := by
        rintro heq
        exact hnodup.1 ((Nat.add_left_cancel heq) ▸ hj)
      rw [circuit_presentWritten_ne hne]
      exact ht j (List.mem_cons_of_mem _ hj)
  exact hrun _ s List.nodup_range fun k hk => h k (List.mem_range.mp hk)

/-- A write of circuits that passes its check. -/
theorem writeCircuits_keeps {xs : List CircuitFields} {first count : Nat} {s : State} {value : Int}
    {f : TableStore → TableStore} (hf : Keeps s (s.mapTables f)) (hcheck : circuitsCheck s first xs = .done) :
    Keeps s (circuitsWritten s.hamlet.entries first count (journalAppend .tableWrite none value
      (storeCircuits first xs (s.mapTables f)))) := by
  have huse : ∀ (k : Nat) (x : CircuitFields), xs[k]? = some x →
      x.changesUse (s.circuit (first + k)) = false := fun k x hx =>
    (circuitsCheck_eq_done_iff.mp hcheck k x hx).2
  refine hf.trans ((storeCircuits_keeps (s := s.mapTables f) huse).trans ((journalAppend_keeps _ _ _ _).trans
    (circuitsWritten_keeps fun k _ hchanged => ?_)))
  have hread : ∀ j, (journalAppend .tableWrite none value (storeCircuits first xs (s.mapTables f))).circuit j =
      (storeCircuits first xs (s.mapTables f)).circuit j := fun j => circuit_congr (by simp) j
  have hbefore : s.hamlet.entries.getD (first + k) Circuit.blank = s.circuit (first + k) := rfl
  rw [hread, circuit_storeCircuits, hbefore] at hchanged
  rw [hread, circuit_storeCircuits]
  have hsame : (s.mapTables f).circuit (first + k) = s.circuit (first + k) := rfl
  rw [hsame] at hchanged ⊢
  split
  · next hin =>
    rw [if_pos hin, Nat.add_sub_cancel_left] at hchanged
    rw [Nat.add_sub_cancel_left]
    cases hx : xs[k]? with
    | none => simp [hx] at hchanged
    | some x =>
      have hkept := huse k x hx
      rw [hx] at hchanged
      intro hshed
      have hservice : (s.circuit (first + k)).state = .shed := hshed
      simp only [CircuitFields.changesUse, Circuit.inService, hservice, Bool.true_and, Bool.or_eq_false_iff,
        bne_eq_false_iff_eq] at hkept
      exact hchanged hkept.1.1.symm
  · next hout =>
    rw [if_neg hout] at hchanged
    exact absurd rfl hchanged

/-! ## WRITE ENTRIES -/

/-- What the span check of a write leaves. -/
theorem writeSpanFault_eq_false {id n first count given : Nat} (h : writeSpanFault id n first count given = false) :
    count ≠ 0 ∧ first + count ≤ n ∧ count * writtenSize id ≤ 56 ∧ count * writtenSize id ≤ given ∧ id ≠ 9 ∧
      id ≠ 10 := by
  simp only [writeSpanFault, Bool.or_eq_false_iff, decide_eq_false_iff_not, beq_eq_false_iff_ne] at h
  obtain ⟨⟨⟨⟨⟨h₀, h₁⟩, h₂⟩, h₃⟩, h₄⟩, h₅⟩ := h
  exact ⟨h₀, by omega, by omega, by omega, h₄, h₅⟩

theorem recomputeFlow_keeps (s : State) : Keeps s (recomputeFlow s) := keeps_mapWater_of_same rfl rfl

/-- An update of the tables that alters neither settings nor node map. -/
theorem keeps_mapTables_of_same {f : TableStore → TableStore} {s : State}
    (hsettings : (f s.tables).settings = s.tables.settings) (hmap : (f s.tables).nodeMap = s.tables.nodeMap) :
    Keeps s (s.mapTables f) := by
  have hset : settingsLaw (s.mapTables f) = settingsLaw s := by
    simp only [settingsLaw, State.setting, State.mapTables_tables, hsettings]
    rfl
  refine keeps_mapTables (.of_eq (congrArg₂ and hset ?_)) (.of_eq hset) (.of_eq ?_)
  · simp only [gateLaw, State.setting, State.mapTables_tables, State.mapTables_water, State.mapTables_plant, hsettings]
    rfl
  · simp only [Law.holds, nodeMapLaw, State.mapTables_tables, State.mapTables_loop, hmap]
    rfl

theorem takeWrite_keeps {id n first count : Nat} {bytes : List Byte} {s : State}
    (hn : s.tableEntries id = some n) (hspan : first + count ≤ n) (hbytes : bytes.length = count * writtenSize id)
    (hid : id ≠ 9 ∧ id ≠ 10) (hcheck : valuesCheck id first bytes s = .done) :
    Keeps s (takeWrite id first count bytes s).state := by
  unfold takeWrite
  match id, hid with
  | 0, _ => simp [State.tableEntries] at hn
  | 1, _ =>
    obtain rfl : n = 9 := by simpa [State.tableEntries] using hn.symm
    have hallowed : nodeMapAllowed s.loop.ownAddress
        (splice s.tables.nodeMap.vals first (bytes.map fun b => b.toNat)) = true := by
      simp only [valuesCheck] at hcheck
      split at hcheck
      · assumption
      · cases hcheck
    exact (writeNodeMap_keeps (by simpa [hbytes, writtenSize] using hspan) hallowed).trans
      ((journalAppend_keeps _ _ _ _).trans (rolesRemapped_keeps _ _))
  | 2, _ =>
    obtain rfl : n = 57 := by simpa [State.tableEntries] using hn.symm
    have hcount : (words16 bytes).length = count := by
      have hsize : writtenSize 2 = 2 := rfl
      rw [length_words16, hbytes, hsize, Nat.mul_div_cancel _ (by decide)]
    exact writeSettings_keeps (hcount ▸ hspan) hcount hcheck
  | 3, _ | 5, _ | 6, _ => exact (keeps_mapTables_of_same rfl rfl).trans (journalAppend_keeps _ _ _ _)
  | 4, _ =>
    exact (keeps_mapTables_of_same rfl rfl).trans ((journalAppend_keeps _ _ _ _).trans (recomputeFlow_keeps _))
  | 7, _ =>
    exact (keeps_mapTables_of_same rfl rfl).trans ((journalAppend_keeps _ _ _ _).trans (evaluateWindows_keeps _))
  | 8, _ => exact writeCircuits_keeps (keeps_mapTables_of_same rfl rfl) hcheck
  | 9, h => exact absurd rfl h.1
  | 10, h => exact absurd rfl h.2
  | k + 11, _ => simp [State.tableEntries] at hn

theorem writeEntries_keeps (id first count : Nat) (values : List Byte) (s : State) :
    Keeps s (writeEntries id first count values s).state := by
  unfold writeEntries
  split
  · exact .rfl
  · next n hn =>
    split
    · exact .rfl
    · next hspan =>
      split
      · exact .rfl
      · obtain ⟨-, hfirst, -, hgiven, hid⟩ := writeSpanFault_eq_false (Bool.not_eq_true _ ▸ hspan)
        dsimp only
        split
        · next hcheck => exact takeWrite_keeps hn hfirst (by simp [hgiven]) hid hcheck
        · exact .rfl

end Sys2Proof.Proofs
end

section
namespace Sys2Proof.Proofs
open Sys2Proof.Machine Sys2Proof.Safety

/-! ## Requests -/

theorem acknowledge_keeps (set : Word32) (s : State) : Keeps s (acknowledge set s).state := by
  unfold acknowledge
  dsimp only
  split
  · exact .rfl
  · exact keeps_mapConds _ s

theorem setNotices_keeps (set : Word32) (s : State) : Keeps s (setNotices set s).state := by
  unfold setNotices
  split
  · exact .rfl
  · exact keeps_mapConds _ s

theorem setPlantRunup_keeps (s : State) : Keeps s (Machine.setPlantRunup s).state := by
  unfold Machine.setPlantRunup
  split
  · exact .rfl
  split
  · exact .rfl
  split
  · exact .rfl
  · next h _ _ =>
    have hstopped : s.plant.state = .stopped := by simpa [State.inPlant] using h
    exact enterPlant_keeps (p := .runup) hstopped

theorem setPlantStopped_keeps (s : State) : Keeps s (setPlantStopped s).state := by
  unfold setPlantStopped
  split
  · exact enterStopping_keeps _ _
  · exact enterStopping_keeps _ _
  · exact .rfl
  · exact .rfl
  · next htripped =>
    split
    · exact enterPlant_keeps (show s.plant.state ≠ .run by simp [htripped])
    · exact .rfl

theorem setPlantTripped_keeps (s : State) : Keeps s (Machine.setPlantTripped s).state := by
  unfold Machine.setPlantTripped
  split
  · exact raise_keeps _ _ _
  · exact trip_keeps _ _

theorem setPlant_keeps (target : Nat) (s : State) : Keeps s (setPlant target s).state := by
  unfold setPlant
  split
  · exact setPlantStopped_keeps s
  · exact setPlantRunup_keeps s
  case h_5 => exact setPlantTripped_keeps s
  all_goals exact .rfl

/-! ## RESTART (R182) -/

theorem raiseIf_keeps (b : Bool) (c : Condition) (s : State) : Keeps s (raiseIf b c s) := by
  unfold raiseIf
  split
  · exact raise_keeps _ _ _
  · exact .rfl

theorem reraise_keeps (s : State) : Keeps s (reraise s) := by
  have hshaft : Keeps s (reraiseShaft s) := by
    unfold reraiseShaft
    split
    · exact raiseShaft_keeps s
    · exact .rfl
  exact hshaft.trans ((raiseIf_keeps _ _ _).trans ((raiseIf_keeps _ _ _).trans ((raiseIf_keeps _ _ _).trans
    ((raiseIf_keeps _ _ _).trans ((raiseIf_keeps _ _ _).trans (raiseIf_keeps _ _ _))))))

@[simp] theorem circuit_warm_state (c : Circuit) : c.warm.state = c.state := by
  unfold Circuit.warm
  split <;> rfl

@[simp] theorem circuit_warm_tier (c : Circuit) : c.warm.tier = c.tier := by
  unfold Circuit.warm
  split <;> rfl

@[simp] theorem circuit_warm_strikes (c : Circuit) : c.warm.strikes = c.strikes := by
  unfold Circuit.warm
  split <;> rfl

theorem circuit_warmBlocks (s : State) (i : Nat) : (warmBlocks s).circuit i = (s.circuit i).warm := by
  simp only [warmBlocks, State.circuit, List.getD_eq_getElem?_getD, List.getElem?_map]
  cases s.hamlet.entries[i]? <;> rfl

/-- At rest the warm reset values meet every law that they bear on. -/
theorem warmBlocks_keeps {s : State} (hrest : s.plant.state = .stopped ∨ s.plant.state = .tripped) :
    Keeps s (warmBlocks s) := by
  intro L
  cases L with
  | demand => exact fun _ => rfl
  | timer => exact fun _ => rfl
  | time =>
    simp only [Law.Kept, Law.holds, timeLaw, Bool.and_eq_true]
    exact fun h => ⟨h.1, rfl⟩
  | signal =>
    simp only [Law.Kept, Law.holds, signalLaw, Bool.and_eq_true]
    exact fun h => ⟨h.1, rfl⟩
  | tooth => exact .of_eq (toothLaw_congr rfl rfl rfl rfl)
  | gate =>
    simp only [Law.Kept, Law.holds, Bool.and_eq_true]
    exact fun h => ⟨(settingsLaw_congr rfl).trans h.1, rfl⟩
  | settings => exact .of_eq (settingsLaw_congr rfl)
  | nodeMap => exact .of_eq (nodeMapLaw_congr rfl rfl)
  | shed =>
    intro h
    have hs := shedLaw_iff.mp h
    have hnotRun : s.plant.state ≠ .run := by rcases hrest with hp | hp <;> simp [hp]
    obtain ⟨hnil, hunused⟩ := hs.quiet.resolve_left hnotRun
    have hlisted : ∀ i, (warmBlocks s).listed i = s.listed i := fun i => by
      simp [State.listed, hnil, warmBlocks, Shedding.reset]
    refine shedLaw_iff.mpr ⟨by simp [warmBlocks, hs.length], by simp [warmBlocks, Shedding.reset],
      by simp [warmBlocks, Shedding.reset], fun i => ?_, fun i hi => ?_, fun i => ?_, .inr ⟨rfl, fun i => ?_⟩⟩
    · rw [circuit_warmBlocks, circuit_warm_state, hlisted]
      exact hs.shed_iff i
    · rw [circuit_warmBlocks, circuit_warm_state] at hi
      rw [circuit_warmBlocks, circuit_warm_tier]
      exact hs.tier i hi
    · rw [circuit_warmBlocks, circuit_warm_strikes]
      exact hs.strikes i
    · rw [circuit_warmBlocks, circuitInUse, circuit_warm_state]
      exact hunused i
  | saw => exact fun _ => rfl
  | firing => exact fun _ => rfl
  | journal => exact .of_eq rfl
  | loop => exact .of_eq (loopLaw_congr rfl rfl rfl rfl)
  | held => exact .of_eq rfl

theorem loopWarm_keeps (s : State) : Keeps s (s.mapLoop LoopPort.warm) := by
  refine keeps_mapLoop (fun _ => (loopLaw_iff _).mpr ?_) rfl rfl
  have hplace : ∀ b : Bool, 0 + (if b = true then 1 else 0) ≤ 8 := by decide
  refine ⟨Nat.zero_le _, hplace s.loop.held, rfl, fun x hx => ?_⟩
  rw [List.eq_of_mem_replicate hx]
  decide

theorem warmReset_keeps {s : State} (hrest : s.plant.state = .stopped ∨ s.plant.state = .tripped) :
    Keeps s (warmReset s) := by
  have hentry : Keeps s (journalRestart s) := journalAppend_keeps _ _ _ _
  exact hentry.trans ((loopWarm_keeps _).trans ((warmBlocks_keeps (by simpa [journalRestart] using hrest)).trans
    (reraise_keeps _)))

theorem restart_keeps (s : State) : Keeps s (Machine.restart s).state := by
  unfold Machine.restart
  split
  · next h => exact warmReset_keeps (.inl h)
  · next h => exact warmReset_keeps (.inr h)
  all_goals exact .rfl

/-! ## Admission, handling and answer (R173, R176)

The answer gives up the place that the request held: from here on the laws are followed without `held`. -/

/-- Every law but the held place is kept. -/
def StepKeeps (s t : State) : Prop := ∀ L : Law, L ≠ .held → L.Kept s t

theorem Keeps.stepKeeps {s t : State} (h : Keeps s t) : StepKeeps s t := fun L _ => h L

theorem Keeps.stepKeeps_trans {s t u : State} (h : Keeps s t) (h' : StepKeeps t u) : StepKeeps s u :=
  fun L hL => (h L).trans (h' L hL)

theorem StepKeeps.keeps_trans {s t u : State} (h : StepKeeps s t) (h' : Keeps t u) : StepKeeps s u :=
  fun L hL => (h L hL).trans (h' L)

/-- An update of the Loop Port that gives its place away, or takes one. -/
theorem stepKeeps_mapLoop {f : LoopPort → LoopPort} {s : State} (hloop : Law.loop.Kept s (s.mapLoop f))
    (hown : (f s.loop).ownAddress = s.loop.ownAddress) : StepKeeps s (s.mapLoop f) := by
  intro L hL
  by_cases hreads : Block.loop ∈ L.reads
  · cases L with
    | loop => exact hloop
    | nodeMap => exact .of_eq (nodeMapLaw_congr rfl hown)
    | held => exact absurd rfl hL
    | _ => simp [Law.reads] at hreads
  · exact Law.kept_of_keptBut (keptBut_mapLoop f s) fun _ hb hmem => hreads (List.mem_singleton.mp hmem ▸ hb)

/-- A request that finds a place takes it. -/
theorem setHeld_true_stepKeeps {s : State} (hroom : s.answerRoom = true) : StepKeeps s (setHeld true s) := by
  refine stepKeeps_mapLoop (fun h => (loopLaw_iff _).mpr ?_) rfl
  obtain ⟨hforward, -, hslots⟩ := (loopLaw_iff s).mp h
  rw [answerRoom_iff] at hroom
  refine ⟨hforward, ?_, hslots⟩
  simp only [State.mapLoop_loop, if_true]
  omega

theorem setHeld_false_stepKeeps (s : State) : StepKeeps s (setHeld false s) := by
  refine stepKeeps_mapLoop (fun h => (loopLaw_iff _).mpr ?_) rfl
  obtain ⟨hforward, hanswers, hslots⟩ := (loopLaw_iff s).mp h
  exact ⟨hforward, by simp only [State.mapLoop_loop]; exact le_trans (by simp) hanswers, hslots⟩

/-- The answer takes the place that the request held, after whatever its owner has done. -/
theorem placeAnswer_stepKeeps {s : State} (src : Nat) (tag : Word16) (code : Nat) {r : Reply}
    (hheld : s.loop.held = true) (hr : Keeps s r.state) : StepKeeps s (placeAnswer src tag code r) := by
  refine hr.stepKeeps_trans (stepKeeps_mapLoop (fun h => (loopLaw_iff _).mpr ?_) rfl)
  have hheld' : r.state.loop.held = true := hr .held hheld
  obtain ⟨hforward, hanswers, hslots⟩ := (loopLaw_iff r.state).mp h
  refine ⟨hforward, ?_, hslots⟩
  simpa [hheld'] using hanswers

/-- A request keeps the laws if its handling does, from a state in which it holds its place. -/
theorem admitRequest_stepKeeps {f : State → State} (hf : ∀ t : State, t.loop.held = true → StepKeeps t (f t))
    (s : State) : StepKeeps s (admitRequest f s) := by
  unfold admitRequest
  split
  · next hroom =>
    exact fun L hL => (setHeld_true_stepKeeps hroom L hL).trans (hf (setHeld true s) rfl L hL)
  · exact (raise_keeps _ _ _).stepKeeps

theorem serve_stepKeeps (src : Byte) (tag : Word16) (code : Nat) {owner : State → Reply}
    (howner : ∀ t, Keeps t (owner t).state) (s : State) : StepKeeps s (serve src tag code owner s) :=
  admitRequest_stepKeeps (fun t ht => placeAnswer_stepKeeps _ _ _ ht (howner t)) s

theorem readEntries_state (id first count : Nat) (s : State) : (readEntries id first count s).state = s := by
  unfold readEntries
  split
  · rfl
  · split <;> rfl

theorem readStatus_state (n : Nat) (s : State) : (readStatus n s).state = s := by
  unfold readStatus
  split <;> rfl

theorem journalFind_state (start kind subject : Nat) (s : State) : (journalFind start kind subject s).state = s := by
  unfold journalFind
  split
  · rfl
  · split <;> rfl

theorem journalRead_state (seq : Nat) (s : State) : (Machine.journalRead seq s).state = s := by
  unfold Machine.journalRead
  split
  · rfl
  · split <;> rfl

/-- A request that only reads. -/
theorem keeps_of_reading {s : State} {r : Reply} (h : r.state = s) : Keeps s r.state := by
  rw [h]
  exact .rfl

theorem owner_keeps (code : Nat) (params : List Byte) (s : State) : Keeps s (owner code params s).state := by
  unfold owner
  split
  case h_1 => unfold ownerReadEntries; split; exacts [keeps_of_reading (readEntries_state _ _ _ _), .rfl]
  case h_2 => unfold ownerWriteEntries; split; exacts [writeEntries_keeps _ _ _ _ _, .rfl]
  case h_3 => unfold ownerReadStatus; split; exacts [keeps_of_reading (readStatus_state _ _), .rfl]
  case h_5 => unfold ownerAcknowledge; split; exacts [acknowledge_keeps _ _, .rfl]
  case h_6 => unfold ownerSetNotices; split; exacts [setNotices_keeps _ _, .rfl]
  case h_7 => unfold ownerSetPlant; split; exacts [setPlant_keeps _ _, .rfl]
  case h_8 => unfold ownerSetClock; split; exacts [setClock_keeps _ _ _, .rfl]
  case h_9 => unfold ownerSetTimeError; split; exacts [setTimeError_keeps _ _, .rfl]
  case h_10 => unfold ownerCircuitAdmin; split; exacts [circuitAdmin_keeps _ _ _, .rfl]
  case h_11 => unfold ownerJournalFind; split; exacts [keeps_of_reading (journalFind_state _ _ _ _), .rfl]
  case h_12 => unfold ownerJournalRead; split; exacts [keeps_of_reading (journalRead_state _ _), .rfl]
  case h_13 => exact restart_keeps s
  all_goals exact .rfl

theorem takeRequestFrame_stepKeeps (src : Nat) (payload : List Byte) (s : State) :
    StepKeeps s (takeRequestFrame src payload s) := by
  refine admitRequest_stepKeeps (fun t ht => ?_) s
  unfold handlePayload
  split
  · exact placeAnswer_stepKeeps _ _ _ ht (owner_keeps _ _ t)
  · exact setHeld_false_stepKeeps t

theorem frameArrives_stepKeeps (f : List Byte) (stopBitLow : Bool) (s : State) :
    StepKeeps s (frameArrives f stopBitLow s) := by
  have hhandle : ∀ t, StepKeeps t (handleFrame f t) := by
    intro t
    unfold handleFrame consume
    split
    · exact Keeps.rfl.stepKeeps
    split
    · split
      · exact takeRequestFrame_stepKeeps _ _ _
      · exact Keeps.rfl.stepKeeps
    split
    · exact ((dispatch_keeps f t).trans (forwardFrame_keeps _ _)).stepKeeps
    · exact (forwardFrame_keeps f t).stepKeeps
  unfold frameArrives
  split
  · exact (arrival_keeps _ _).stepKeeps_trans (hhandle _)
  · exact (failedArrival_keeps _ _).stepKeeps

/-! ## Cold reset -/

theorem addressOfStraps_range (straps : BitVec 6) :
    1 ≤ addressOfStraps straps ∧ addressOfStraps straps ≤ 62 := by
  have hlt := straps.isLt
  unfold addressOfStraps
  split <;> omega

/-- Cold reset meets every law. -/
theorem holds_cold (straps : BitVec 6) (L : Law) (hL : L ≠ .held) : L.holds (State.cold straps) = true := by
  cases L with
  | nodeMap =>
    have hrange := addressOfStraps_range straps
    simp only [Law.holds, nodeMapLaw, Bool.and_eq_true, decide_eq_true_eq]
    refine ⟨⟨⟨rfl, ?_⟩, hrange.1⟩, hrange.2⟩
    simp only [nodeMapAllowed, Bool.and_eq_true]
    refine ⟨?_, rfl⟩
    rw [List.all_eq_true]
    intro a ha
    have hzero : a = 0 := List.eq_of_mem_replicate ha
    have hown : (State.cold straps).loop.ownAddress ≠ 0 := Nat.ne_of_gt hrange.1
    simp [hzero, Ne.symm hown]
  | held => exact absurd rfl hL
  | loop => exact (loopLaw_iff _).mpr ⟨Nat.zero_le _, Nat.zero_le _, rfl, fun x hx => by
      rw [List.eq_of_mem_replicate hx]; decide⟩
  | demand | timer | time | signal | tooth | gate | settings | shed | saw | firing | journal => rfl

theorem coldReset_stepKeeps (straps : BitVec 6) (s : State) : StepKeeps s (coldReset straps s) := by
  intro L hL _
  have hsame : Keeps (State.cold straps) (coldReset straps s) :=
    keeps_of_keptBut_model fun b hb => by cases b <;> first | rfl | simp at hb
  exact hsame L (holds_cold straps L hL)

end Sys2Proof.Proofs
end

section
namespace Sys2Proof.Proofs
open Sys2Proof.Machine Sys2Proof.Safety

/-! ## Every step keeps every law -/

/-- Every command keeps the laws. -/
theorem exec_stepKeeps {i : Instr} {s t : State} (h : exec i s = .next t) : StepKeeps s t := by
  have hnext : ∀ {u v : State}, (Host.Outcome.next u : Host.Outcome State Fault Refusal) = .next v → u = v :=
    fun e => by cases e; rfl
  have hserve : ∀ (src : Byte) (tag : Word16) (code : Nat) (owner : State → Reply),
      (∀ t, Keeps t (owner t).state) → Host.Outcome.next (serve src tag code owner s) =
        (.next t : Host.Outcome State Fault Refusal) → StepKeeps s t := by
    intro src tag code owner howner e
    rw [← hnext e]
    exact serve_stepKeeps src tag code howner s
  have hkeeps : ∀ u : State, Keeps s u →
      (.next u : Host.Outcome State Fault Refusal) = .next t → StepKeeps s t := by
    intro u hu e
    rw [← hnext e]
    exact hu.stepKeeps
  cases i with
  | coldReset straps => rw [← hnext h]; exact coldReset_stepKeeps straps s
  | acceptedRisingCrossingEdge => exact hkeeps _ ((acceptLevel_keeps _ _ s).trans (crossingEdge_keeps _ _ _)) h
  | acceptedFallingEdge => exact hkeeps _ (acceptLevel_keeps _ _ s) h
  | lossTimerExpiry => exact hkeeps _ (lossTimerExpires_keeps s) h
  | acceptedRisingToothEdge => exact hkeeps _ ((acceptLevel_keeps _ _ s).trans (toothEdge_keeps _ _)) h
  | toothOverspeed => exact hkeeps _ (trip_keeps _ s) h
  | toothSilenceExpiry => exact hkeeps _ (toothSilenceExpires_keeps s) h
  | millSecond => exact hkeeps _ (millSecond_keeps s) h
  | runupAccepted => exact hkeeps _ (runupAccepted_keeps s) h
  | runupTimerExpiry => exact hkeeps _ (runupTimerExpires_keeps s) h
  | stopTimerExpiry => exact hkeeps _ (stopTimerExpires_keeps s) h
  | signalLossTimerExpiry => exact hkeeps _ (signalLossExpires_keeps s) h
  | collapseTimerExpiry => exact hkeeps _ (collapseExpires_keeps s) h
  | freqOverspeedTimerExpiry => exact hkeeps _ (freqOverspeedExpires_keeps s) h
  | trimPulseStart => exact hkeeps _ (startPulse_keeps s) h
  | trimPulseEnd => exact hkeeps _ (endPulse_keeps s) h
  | gateEvaluation => exact hkeeps _ (gateEvaluation_keeps s) h
  | shortageEvent => exact hkeeps _ (shortageEvent_keeps s) h
  | waterNodeSilenceExpiry node =>
    cases node with
    | pond => exact hkeeps _ (pondSilenceExpires_keeps s) h
    | gate => exact hkeeps _ (gateSilenceExpires_keeps s) h
  | feederSilenceExpiry => exact hkeeps _ (feederSilenceExpires_keeps _ s) h
  | recloseExpiry => exact hkeeps _ (recloseExpires_keeps _ s) h
  | limitTrip => exact hkeeps _ (limitTrip_keeps _ _ s) h
  | breakerDisagree => exact hkeeps _ (breakerDisagree_keeps _ _ s) h
  | shedTimerExpiry => exact hkeeps _ (shedTimerExpires_keeps s) h
  | restore => exact hkeeps _ (restoreExpires_keeps s) h
  | reserveTimerExpiry => exact hkeeps _ (reserveTimerExpires_keeps s) h
  | sawSettleExpiry => exact hkeeps _ (settleExpires_keeps s) h
  | clutchConfirmExpiry => exact hkeeps _ (confirmExpires_keeps s) h
  | rundownExpiry => exact hkeeps _ (rundownExpires_keeps s) h
  | grantExpiry => exact hkeeps _ (grantExpires_keeps s) h
  | sawSilenceExpiry => exact hkeeps _ (sawSilenceExpires_keeps s) h
  | loopSilenceExpiry => exact hkeeps _ (loopSilenceExpires_keeps s) h
  | frameArrival bytes stopBitLow => rw [← hnext h]; exact frameArrives_stepKeeps bytes stopBitLow s
  | fragmentDiscard => exact hkeeps _ (failedArrival_keeps _ s) h
  | arbiterFrameStart => exact hkeeps _ (arbiterStarts_keeps s) h
  | frameSent => exact hkeeps _ (frameLeaves_keeps s) h
  | pondSample => exact hkeeps _ (pondSample_keeps _ s) h
  | gateSample => exact hkeeps _ (gateSample_keeps _ s) h
  | feederSample => exact hkeeps _ (feederSample_keeps _ _ s) h
  | sawSample => exact hkeeps _ (sawSample_keeps _ s) h
  | readEntries => exact hserve _ _ _ _ (fun t => keeps_of_reading (readEntries_state _ _ _ t)) h
  | writeEntries => exact hserve _ _ _ _ (writeEntries_keeps _ _ _ _) h
  | readStatus => exact hserve _ _ _ _ (fun t => keeps_of_reading (readStatus_state _ t)) h
  | readConditions => exact hserve _ _ _ _ (fun _ => .rfl) h
  | acknowledge => exact hserve _ _ _ _ (acknowledge_keeps _) h
  | setNotices => exact hserve _ _ _ _ (setNotices_keeps _) h
  | setPlantRunup => exact hserve _ _ _ _ setPlantRunup_keeps h
  | setPlantStopped => exact hserve _ _ _ _ setPlantStopped_keeps h
  | setPlantTripped => exact hserve _ _ _ _ setPlantTripped_keeps h
  | setClock => exact hserve _ _ _ _ (setClock_keeps _ _) h
  | setTimeError => exact hserve _ _ _ _ (setTimeError_keeps _) h
  | circuitAdminOff => exact hserve _ _ _ _ (circuitAdmin_keeps _ _) h
  | circuitAdminOn => exact hserve _ _ _ _ (circuitAdmin_keeps _ _) h
  | releaseLockout => exact hserve _ _ _ _ (circuitAdmin_keeps _ _) h
  | clearEnergy => exact hserve _ _ _ _ (circuitAdmin_keeps _ _) h
  | journalFind => exact hserve _ _ _ _ (fun t => keeps_of_reading (journalFind_state _ _ _ t)) h
  | journalRead => exact hserve _ _ _ _ (fun t => keeps_of_reading (journalRead_state _ t)) h
  | restart => exact hserve _ _ _ _ restart_keeps h
  | unknownRequest src payload => rw [← hnext h]; exact takeRequestFrame_stepKeeps src.toNat payload s
  | lineIdleBeforeComplete => exact hkeeps _ (failedArrival_keeps _ s) h

/-- A step takes the front command, or passes one timebase count; both keep the laws. -/
theorem step_stepKeeps {s t : State} (h : step s = .next t) : StepKeeps s t := by
  unfold step at h
  split at h
  · next c rest _ =>
    have hpop : Keeps s { s with pending := rest } :=
      keeps_of_keptBut_model fun b hb => by cases b <;> first | rfl | simp at hb
    exact hpop.stepKeeps_trans (exec_stepKeeps h)
  · obtain rfl : tick s = t := by cases h; rfl
    exact (tick_keeps s).stepKeeps

/-- Settles O5: the law of the demand is one of those that every step keeps. -/
theorem stepKeepsDemandLaw : Obligations.StepKeepsDemandLaw :=
  fun _ _ h hstep => step_stepKeeps hstep .demand nofun h

/-- Settles O6: so are those of the timers, of the mill time, of the signal and of the teeth. -/
theorem stepKeepsTimerAndTimeLaw : Obligations.StepKeepsTimerAndTimeLaw := fun _ _ hstep =>
  ⟨step_stepKeeps hstep .timer nofun, step_stepKeeps hstep .time nofun, step_stepKeeps hstep .signal nofun,
    step_stepKeeps hstep .tooth nofun⟩

/-- Settles O7: the gate's law is kept together with that of the settings. -/
theorem stepKeepsGateLaw : Obligations.StepKeepsGateLaw := by
  intro s t hgate hsettings hstep
  have h := step_stepKeeps hstep .gate nofun (show (settingsLaw s && gateLaw s) = true by simp [hgate, hsettings])
  exact (Bool.and_eq_true _ _ ▸ h : settingsLaw t = true ∧ gateLaw t = true).2

/-- Settles O8: only a write that passes its checks alters the settings. -/
theorem stepKeepsSettingsLaw : Obligations.StepKeepsSettingsLaw :=
  fun _ _ h hstep => step_stepKeeps hstep .settings nofun h

/-- Settles O9: only a write that passes its checks alters the node map. -/
theorem stepKeepsNodeMapLaw : Obligations.StepKeepsNodeMapLaw :=
  fun _ _ h hstep => step_stepKeeps hstep .nodeMap nofun h

/-- Settles O10: an append lists a circuit as it moves it to SHED, and a removal takes it from both. -/
theorem stepKeepsShedLaw : Obligations.StepKeepsShedLaw :=
  fun _ _ h hstep => step_stepKeeps hstep .shed nofun h

/-- Settles O11: each entry to a saw state, and what the saw does at a plant entry, keeps its law. -/
theorem stepKeepsSawLaw : Obligations.StepKeepsSawLaw :=
  fun _ _ h hstep => step_stepKeeps hstep .saw nofun h

/-- Settles O12: the gate is set with the records. -/
theorem stepKeepsFiringLaw : Obligations.StepKeepsFiringLaw :=
  fun _ _ h hstep => step_stepKeeps hstep .firing nofun h

/-- Settles O13: appends alone alter the journal. -/
theorem stepKeepsJournalLaw : Obligations.StepKeepsJournalLaw :=
  fun _ _ h hstep => step_stepKeeps hstep .journal nofun h

/-- Settles O14: a place of the answer queue is held before it is filled. -/
theorem stepKeepsLoopLaw : Obligations.StepKeepsLoopLaw :=
  fun _ _ h hstep => step_stepKeeps hstep .loop nofun h

/-! ## The step and the reset -/

/-- Settles O1. -/
theorem stepRunsFrontCommand : Obligations.StepRunsFrontCommand := fun _ _ _ => rfl

/-- Settles O3: the cold state, block by block. -/
theorem coldResetValues : Obligations.ColdResetValues := by
  intro straps s
  refine ⟨coldReset straps s, rfl, ?_⟩
  and_intros <;> rfl

/-- Settles O4: the state after power-on is a cold one. -/
theorem resetMeetsEveryLaw : Obligations.ResetMeetsEveryLaw := by
  have hlaw := holds_cold 0
  have hgate : (settingsLaw (State.cold 0) && gateLaw (State.cold 0)) = true := hlaw .gate nofun
  exact ⟨hlaw .demand nofun, hlaw .timer nofun, (Bool.and_eq_true_iff.mp hgate).2,
    hlaw .settings nofun, hlaw .nodeMap nofun, hlaw .shed nofun, hlaw .saw nofun, hlaw .firing nofun,
    hlaw .time nofun, hlaw .journal nofun, hlaw .loop nofun, hlaw .signal nofun, hlaw .tooth nofun⟩

end Sys2Proof.Proofs
end

section
namespace Sys2Proof.Proofs
open Sys2Proof.Machine Sys2Proof.Safety

/-! ## Trim pulses begin and end (R36) -/

theorem startFirst_append {before : List Pulse} (h : ∀ p ∈ before, p.stage = .delivering) (a b : Count)
    (rest : List Pulse) :
    startFirst (before ++ ⟨a, b, .waiting⟩ :: rest) = before ++ ⟨a, b, .delivering⟩ :: rest := by
  induction before with
  | nil => rfl
  | cons p before ih =>
    obtain ⟨hp, hbefore⟩ := List.forall_mem_cons.mp h
    simp [startFirst, hp, ih hbefore]

theorem endFirst_append {before : List Pulse} (h : ∀ p ∈ before, p.stage = .waiting) (a b : Count)
    (rest : List Pulse) :
    endFirst (before ++ ⟨a, b, .delivering⟩ :: rest) = before ++ rest := by
  induction before with
  | nil => rfl
  | cons p before ih =>
    obtain ⟨hp, hbefore⟩ := List.forall_mem_cons.mp h
    simp [endFirst, hp, ih hbefore]

theorem any_stage_eq_false {ps : List Pulse} {stage other : PulseStage} (hne : other ≠ stage)
    (h : ∀ p ∈ ps, p.stage = other) : (ps.any fun p => p.stage == stage) = false := by
  rw [List.any_eq_false]
  intro p hp
  simp [h p hp, hne]

theorem startPulse_of_waiting {s : State} {before rest : List Pulse} {a b : Count}
    (h : ∀ p ∈ before, p.stage = .delivering) (hs : s.firing.pulses = before ++ ⟨a, b, .waiting⟩ :: rest) :
    startPulse s = { s with firing := { s.firing with
      pulses := before ++ ⟨a, b, .delivering⟩ :: rest, trimGate := true } } := by
  rw [startPulse, if_pos (by simp [hs])]
  simp [State.mapFiring, hs, startFirst_append h]

theorem startPulse_of_none {s : State} (h : ∀ p ∈ s.firing.pulses, p.stage = .delivering) : startPulse s = s := by
  rw [startPulse, any_stage_eq_false (by decide) h]
  rfl

theorem endPulse_of_delivering {s : State} {before rest : List Pulse} {a b : Count}
    (h : ∀ p ∈ before, p.stage = .waiting) (hs : s.firing.pulses = before ++ ⟨a, b, .delivering⟩ :: rest) :
    endPulse s = { s with firing := { s.firing with
      pulses := before ++ rest, trimGate := rest.any fun p => p.stage == .delivering } } := by
  rw [endPulse, if_pos (by simp [hs])]
  have hbefore : (before.any fun p => p.stage == .delivering) = false :=
    any_stage_eq_false (other := .waiting) (by decide) h
  simp only [State.mapFiring, hs, endFirst_append h, anyDelivering, List.any_append, hbefore, Bool.false_or]

theorem endPulse_of_none {s : State} (h : ∀ p ∈ s.firing.pulses, p.stage = .waiting) : endPulse s = s := by
  rw [endPulse, any_stage_eq_false (by decide) h]
  rfl

/-- Settles O37: the first waiting record begins, the first delivered one ends. -/
theorem trimPulses : Obligations.TrimPulses := fun _ _ _ _ _ =>
  ⟨fun h hs => congrArg Host.Outcome.next (startPulse_of_waiting h hs),
    fun h => congrArg Host.Outcome.next (startPulse_of_none h),
    fun h hs => congrArg Host.Outcome.next (endPulse_of_delivering h hs),
    fun h => congrArg Host.Outcome.next (endPulse_of_none h)⟩

/-! ## Interpolation (R34, R75, R148) -/

/-- Rising from `a` to `b`. -/
theorem interpolate_rising {a b m step : Nat} (h : a ≤ b) :
    ((a : Int) + ((b : Int) - a) * (m : Nat) / step).toNat = a + (b - a) * m / step := by
  have hdiff : (b : Int) - a = ((b - a : Nat) : Int) := by omega
  rw [hdiff]
  norm_cast

/-- Falling from `a` to `b`: the part taken off is within the difference. -/
theorem interpolate_falling {a b m step : Nat} (h : b ≤ a) :
    ((a : Int) - ((a : Int) - b) * (m : Nat) / step).toNat = a - (a - b) * m / step := by
  have hpart : ((a : Int) - b) * (m : Nat) / step = (((a - b) * m / step : Nat) : Int) := by
    rw [show (a : Int) - b = ((a - b : Nat) : Int) by omega]
    norm_cast
  rw [hpart, Int.toNat_sub]

/-- Settles O38: between two entries the interpolation is that of naturals, since the table is monotone. -/
theorem tableInterpolation : Obligations.TableInterpolation := by
  intro table step last x _ hlen
  refine ⟨fun hpast => ?_, fun hin => ?_⟩
  · simp [interpUp, interpDown, hpast]
  have hlow : x / step < table.length := by omega
  have hhigh : x / step + 1 < table.length := by omega
  have hnot : ¬last ≤ x / step := by omega
  have hread : ∀ i, (h : i < table.length) → table.getD i 0 = table[i] := fun i h => by
    simp [List.getD_eq_getElem?_getD, h]
  refine ⟨fun hmono => ?_, fun hmono => ?_⟩
  · have hle := List.pairwise_iff_getElem.mp hmono _ _ hlow hhigh (Nat.lt_succ_self _)
    rw [interpUp, if_neg hnot]
    exact interpolate_rising (by rw [hread _ hlow, hread _ hhigh]; exact hle)
  · have hle := List.pairwise_iff_getElem.mp hmono _ _ hlow hhigh (Nat.lt_succ_self _)
    rw [interpDown, if_neg hnot]
    exact interpolate_falling (by rw [hread _ hlow, hread _ hhigh]; exact hle)

/-! ## Samples and silence of the water nodes -/

/-- The two-byte number and the word of the same bytes. -/
theorem ofNat_u16 (hi lo : Byte) : BitVec.ofNat 16 (u16 hi lo) = hi ++ lo := by
  apply BitVec.eq_of_toNat_eq
  have hlo := lo.isLt
  have hhi := hi.isLt
  rw [BitVec.toNat_append, BitVec.toNat_ofNat, ← Nat.shiftLeft_add_eq_or_of_lt hlo, Nat.shiftLeft_eq, u16]
  omega

theorem s16_eq_toInt (hi lo : Byte) : s16 hi lo = (hi ++ lo : BitVec 16).toInt := by
  rw [s16, ofNat_u16]

/-- A silence timer restarts while the address is not 0. -/
theorem restartSilence_mapped (s : State) (role : Nat) :
    restartSilence (s.mapped role) = if s.address role = 0 then none else some 0 := by
  by_cases h : s.address role = 0 <;> simp [restartSilence, State.mapped, h]

/-- Settles O39: storing and hearing a pond sample. -/
theorem pondSample : Obligations.PondSample := by
  intro a b c d rest s
  refine ⟨?_, fun payload hshort => ?_⟩
  · have hmapped : ∀ f, (State.mapWater f s).mapped Role.POND = s.mapped Role.POND := fun _ => rfl
    change Host.Outcome.next (pondHeard (storePond (s16 a b) (s16 c d) s)) = _
    unfold pondHeard storePond
    dsimp only
    rw [hmapped, restartSilence_mapped, s16_eq_toInt, s16_eq_toInt]
    rfl
  · match payload, hshort with
    | [], _ | [_], _ | [_, _], _ | [_, _, _], _ => rfl
    | _ :: _ :: _ :: _ :: _, h => exact absurd h (by simp)

/-- A list with one cell replaced, as a change of that cell. -/
theorem modify_const {α : Type} (l : List α) (k : Nat) (x : α) : (l.modify k fun _ => x) = l.set k x := by
  refine List.ext_getElem? fun i => ?_
  rw [List.getElem?_modify, List.getElem?_set]
  by_cases hi : k = i
  · subst hi
    by_cases hk : k < l.length <;> simp [hk]
  · simp [hi]

/-- Settles O41: each silence timer that runs out while it runs. -/
theorem nodeSilence : Obligations.NodeSilence := by
  intro s
  refine ⟨fun h => ?_, fun h => ?_, fun k h => ?_⟩
  · exact congrArg Host.Outcome.next (if_pos h)
  · exact congrArg Host.Outcome.next (if_pos h)
  · refine congrArg Host.Outcome.next ((if_pos h).trans ?_)
    rw [modifyFeeder, State.mapHamlet]
    simp only [modify_const]

/-- Settles O42: without a heard level the evaluation does no more than restart its interval. -/
theorem gateEvaluationSkipped : Obligations.GateEvaluationSkipped := by
  intro s n hrun htimer hskip
  have hplant : s.inPlant .run = true := by simp [State.inPlant, hrun]
  have hskipped : evaluate n s = restartInterval s := by
    unfold evaluate
    cases hlevel : s.water.level with
    | none => rfl
    | some l =>
      rcases hskip with hsilent | hnone
      · simp [hsilent]
      · rw [hlevel] at hnone; cases hnone
  change Host.Outcome.next (gateEvaluation s) = _
  simp only [gateEvaluation, htimer, hplant, if_true, hskipped]
  rfl

end Sys2Proof.Proofs
end

section
namespace Sys2Proof.Proofs
open Sys2Proof.Machine Sys2Proof.Safety

/-! ## The check word (R167)

Fed with its own top bit, the check register shifts; fed with its own two bytes, it ends at 0. -/

theorem crcBit_top {c : BitVec 16} {j : Nat} (hj : j < 16) :
    crcBit (c <<< j) (c.getLsbD (15 - j)) = c <<< (j + 1) := by
  have htop : (c <<< j).msb = c.getLsbD (15 - j) := by
    rw [BitVec.msb_eq_getLsbD_last, BitVec.getLsbD_shiftLeft]
    simp [show ¬15 < j by omega]
  rw [crcBit, htop, Bool.xor_self, if_neg (by decide), ← BitVec.shiftLeft_add]

/-- The register after the byte that it holds at its top. -/
theorem crcByte_top {c : BitVec 16} {x : Byte} (h : ∀ k < 8, x.getLsbD k = c.getLsbD (8 + k)) :
    crcByte c x = c <<< 8 := by
  have hstep : ∀ j, j < 8 → crcBit (c <<< j) (x.getLsbD (7 - j)) = c <<< (j + 1) := by
    intro j hj
    rw [h _ (by omega), show 8 + (7 - j) = 15 - j by omega]
    exact crcBit_top (by omega)
  have hzero := hstep 0 (by decide)
  rw [BitVec.shiftLeft_zero] at hzero
  simp only [crcByte, List.foldl_cons, List.foldl_nil, hzero]
  rw [hstep 1 (by decide), hstep 2 (by decide), hstep 3 (by decide), hstep 4 (by decide), hstep 5 (by decide),
    hstep 6 (by decide), hstep 7 (by decide)]

/-- A body with its own check word after it has the check word 0. -/
theorem crc_append_crc (body : List Byte) : crc (body ++ be16 (crc body).toNat) = 0 := by
  have happend : crc (body ++ be16 (crc body).toNat) =
      crcByte (crcByte (crc body) (byteOf ((crc body).toNat / 256))) (byteOf (crc body).toNat) := by
    simp [crc, be16]
  rw [happend]
  generalize crc body = c
  rw [crcByte_top (c := c), crcByte_top (c := c <<< 8), ← BitVec.shiftLeft_add]
  · exact BitVec.shiftLeft_eq_zero (by decide)
  · intro k hk
    rw [BitVec.getLsbD_shiftLeft, byteOf, BitVec.getLsbD_ofNat]
    simp [hk, show 8 + k < 16 by omega, BitVec.getLsbD]
  · intro k hk
    rw [byteOf, BitVec.getLsbD_ofNat, show 256 = 2 ^ 8 from rfl, Nat.testBit_div_two_pow]
    simp [hk, BitVec.getLsbD, Nat.add_comm]

/-! ## Reading a frame back -/

theorem toNat_byteOf {n : Nat} (h : n < 256) : (byteOf n).toNat = n := by
  rw [byteOf, BitVec.toNat_ofNat, Nat.mod_eq_of_lt h]

section
variable {dst src kind : Nat} {payload : List Byte}

@[simp] theorem length_be16 (n : Nat) : (be16 n).length = 2 := rfl
@[simp] theorem length_be32 (n : Nat) : (be32 n).length = 4 := rfl

@[simp] theorem length_buildFrame (dst src kind : Nat) (payload : List Byte) :
    (buildFrame dst src kind payload).length = payload.length + 6 := by
  simp [buildFrame]

theorem frameDst_buildFrame (h : dst < 256) : frameDst (buildFrame dst src kind payload) = dst :=
  toNat_byteOf h

theorem frameSrc_buildFrame (h : src < 256) : frameSrc (buildFrame dst src kind payload) = src :=
  toNat_byteOf h

theorem frameKind_buildFrame (h : kind < 256) : frameKind (buildFrame dst src kind payload) = kind :=
  toNat_byteOf h

theorem frameLen_buildFrame (h : payload.length < 256) :
    frameLen (buildFrame dst src kind payload) = payload.length := toNat_byteOf h

theorem framePayload_buildFrame (h : payload.length < 256) :
    framePayload (buildFrame dst src kind payload) = payload := by
  rw [framePayload, frameLen_buildFrame h]
  simp [buildFrame]

theorem crc_buildFrame (dst src kind : Nat) (payload : List Byte) :
    crc (buildFrame dst src kind payload) = 0 := crc_append_crc _

/-- A frame of legal fields passes the check. -/
theorem frameOk_buildFrame (hdst : dst ≤ 63) (hsrc : 1 ≤ src) (hsrc' : src ≤ 62) (hlen : payload.length ≤ 64) :
    frameOk (buildFrame dst src kind payload) = true := by
  rw [frameOk, frameDst_buildFrame (by omega), frameSrc_buildFrame (by omega), frameLen_buildFrame (by omega),
    length_buildFrame, crc_buildFrame]
  simp [hdst, hsrc, hsrc', hlen]

end

/-- Settles O15: what is built passes the check and reads back. -/
theorem builtFramePassesCheck : Obligations.BuiltFramePassesCheck := by
  intro dst src kind payload hdst hsrc hsrc' hkind hlen
  exact ⟨frameOk_buildFrame hdst hsrc hsrc' hlen, crc_buildFrame _ _ _ _, frameDst_buildFrame (by omega),
    frameSrc_buildFrame (by omega), frameKind_buildFrame (by omega), framePayload_buildFrame (by omega),
    length_buildFrame _ _ _ _⟩

/-! ## Arrivals and loop silence (R168, R172) -/

/-- The Loop Port after an arrival. -/
theorem arrival_loop (r : Receive) (s : State) : (arrival r s).loop = { s.loop with
    receive := r
    silence := some (loopSilenceCounts (s.setting Setting.LOOP_SILENCE))
    broken := false } := by
  unfold arrival
  dsimp only
  split <;> simp [restartLoopSilence]

theorem exec_frameArrival_of_ok {f : List Byte} {s : State} (h : frameOk f = true) :
    exec (.frameArrival f false) s = .next (handleFrame f (arrival .afterFrame s)) := by
  refine congrArg Host.Outcome.next (if_pos ?_)
  rw [h]; rfl

/-- Settles O17: an arrival by itself, the failed ones, and the timer's expiry. -/
theorem arrivalsAndLoopSilence : Obligations.ArrivalsAndLoopSilence := by
  intro s bytes low
  refine ⟨fun _ => rfl, fun hbad => ?_, rfl, rfl, fun n hn => ?_, fun hnone => ?_⟩
  · refine congrArg Host.Outcome.next (if_neg ?_)
    rcases hbad with h | h <;> simp [h]
  · exact congrArg Host.Outcome.next (if_pos (by simp [hn]))
  · exact congrArg Host.Outcome.next (if_neg (by simp [hnone]))

/-! ## Forwarding and dispatch (R170, R171) -/

@[simp] theorem arrival_address (r : Receive) (s : State) (role : Nat) :
    (arrival r s).address role = s.address role := by
  simp [State.address]

/-- A frame forwarded after work that leaves the Loop Port's forward buffer. -/
theorem forwardFrame_eq (f : List Byte) (s : State) : forwardFrame f s =
    if s.loop.forward.length < 4 then { s with loop := { s.loop with forward := s.loop.forward ++ [f] } }
    else raise .loopOverrun none s := rfl

theorem roleOf_eq_none {s : State} {src : Nat} (h : ∀ r < 9, s.address r ≠ src) : s.roleOf src = none := by
  rw [State.roleOf, List.find?_eq_none]
  intro r hr
  simp [h r (List.mem_range.mp hr)]

/-- Settles O18: the cases of Table 9-2 but that of a mapped sample. -/
theorem frameForwarding : Obligations.FrameForwarding := by
  intro f s hok
  have hown : (arrival .afterFrame s).loop.ownAddress = s.loop.ownAddress := by rw [arrival_loop]
  have hforward : (arrival .afterFrame s).loop.forward = s.loop.forward := by rw [arrival_loop]
  have hexec := exec_frameArrival_of_ok (s := s) hok
  refine ⟨fun hsrc => ?_, fun hsrc hdst hkind => ?_, fun hsrc hdst hother => ?_⟩
  · rw [hexec, handleFrame, hown, if_pos hsrc]
  · rw [hexec, handleFrame, hown, if_neg hsrc, if_pos hdst, consume, if_neg hkind]
  · have hforwarded : handleFrame f (arrival .afterFrame s) = forwardFrame f (arrival .afterFrame s) := by
      rw [handleFrame, hown, if_neg hsrc, if_neg hdst]
      split
      · next hsample =>
        have hnone : (arrival .afterFrame s).roleOf (frameSrc f) = none := by
          refine roleOf_eq_none fun r hr => ?_
          rw [arrival_address]
          rcases hother with h | h | h
          · exact absurd hsample.1 h
          · exact absurd hsample.2 h
          · exact h r hr
        rw [dispatch, hnone]
      · rfl
    rw [hexec, hforwarded, forwardFrame_eq, hforward]
    exact ⟨fun hroom => by rw [if_pos hroom], fun hfull => by rw [if_neg (by omega)]⟩

/-- What the node map's law says of the addresses (R178). -/
theorem nodeMapLaw_address {s : State} (h : nodeMapLaw s = true) :
    (∀ r < 9, s.address r ≠ s.loop.ownAddress) ∧
      (∀ r r', r < 9 → r' < 9 → s.address r = s.address r' → s.address r ≠ 0 → r = r') ∧
      s.loop.ownAddress ≤ 62 := by
  simp only [nodeMapLaw, nodeMapAllowed, addressesDistinct, Bool.and_eq_true, decide_eq_true_eq,
    List.all_eq_true, bne_iff_ne] at h
  obtain ⟨⟨⟨hlen, hall, hnodup⟩, -⟩, hown⟩ := h
  have hread : ∀ r, (hr : r < 9) → s.address r = s.tables.nodeMap.vals[r]'(by omega) := fun r hr => by
    simp [State.address, List.getD_eq_getElem?_getD, hlen, hr]
  refine ⟨fun r hr => ?_, fun r r' hr hr' heq hne => ?_, hown⟩
  · rw [hread r hr]
    exact (hall _ (List.getElem_mem _)).2
  · by_contra hrr
    have hpair := List.pairwise_filter.mp (List.nodup_iff_pairwise_ne.mp hnodup)
    rw [List.pairwise_iff_getElem] at hpair
    have hne' : s.address r' ≠ 0 := heq ▸ hne
    rw [hread r hr] at heq hne
    rw [hread r' hr'] at heq hne'
    rcases Nat.lt_or_gt_of_ne hrr with hlt | hlt
    · exact hpair r r' (by omega) (by omega) hlt (by simpa using hne) (by simpa using hne') heq
    · exact hpair r' r (by omega) (by omega) hlt (by simpa using hne') (by simpa using hne) heq.symm

/-- The role of a mapped source, which is one alone. -/
theorem roleOf_eq_some {s : State} {r src : Nat} (hr : r < 9) (haddress : s.address r = src) (hsrc : src ≠ 0)
    (hone : ∀ r', r' < 9 → s.address r' = src → r' = r) : s.roleOf src = some r := by
  rw [State.roleOf, List.find?_eq_some_iff_getElem]
  have hmapped : s.mapped r = true := by simp [State.mapped, haddress, hsrc]
  refine ⟨by simp [hmapped, haddress], r, by simpa using hr, by simp, fun j hj => ?_⟩
  have hne : s.address j ≠ src := fun h => by
    have := hone j (by omega) h
    omega
  simp [hne]

/-- Settles O19: the dispatch of a broadcast sample by the one role of its source. -/
theorem sampleDispatch : Obligations.SampleDispatch := by
  intro f r s hok hmap hdst hkind hr haddress
  obtain ⟨hother, hone, hown⟩ := nodeMapLaw_address hmap
  set a := arrival .afterFrame s with ha
  have hsrc : frameSrc f ≠ 0 := by
    simp only [frameOk, Bool.and_eq_true, decide_eq_true_eq] at hok
    omega
  have hrole : a.roleOf (frameSrc f) = some r := by
    refine roleOf_eq_some hr (by rw [ha, arrival_address, haddress]) hsrc fun r' hr' h' => ?_
    rw [ha, arrival_address] at h'
    exact hone r' r hr' hr (h'.trans haddress.symm) (h' ▸ hsrc)
  have hexec : exec (.frameArrival f false) s = .next (forwardFrame f (dispatchRole r (framePayload f) a)) := by
    have hsame : a.loop.ownAddress = s.loop.ownAddress := by rw [ha, arrival_loop]
    rw [exec_frameArrival_of_ok hok, handleFrame, ← ha, hsame, if_neg (haddress ▸ hother r hr),
      if_neg (by omega), if_pos ⟨hdst, hkind⟩, dispatch, hrole]
  refine ⟨dispatchRole r (framePayload f) a, ?_, hexec⟩
  match r with
  | 0 | 1 | 2 => rfl
  | k + 3 => rfl

/-! ## The output arbiter (R174, R175) -/

theorem slotReady_eq_true {s : State} {k : Nat} : s.slotReady k = true ↔
    (s.loop.slots.getD k ⟨none, false⟩).pending = true ∧ s.address (k + 1) ≠ 0 := by
  simp [State.slotReady, State.mapped]

theorem nextSlot_eq_none {s : State} (h : ∀ k < 8, s.slotReady k = false) : s.nextSlot = none := by
  rw [State.nextSlot, List.find?_eq_none]
  intro k hk
  obtain ⟨j, -, rfl⟩ := List.mem_map.mp hk
  simp [h _ (Nat.mod_lt _ (by decide))]

/-- The slot that stands first after the one served last. -/
theorem nextSlot_eq_some {s : State} {i : Nat} (hi : i < 8) (hlast : s.loop.lastSlot < 8)
    (hready : s.slotReady i = true)
    (hfirst : ∀ k < 8, (k + 7 - s.loop.lastSlot) % 8 < (i + 7 - s.loop.lastSlot) % 8 → s.slotReady k = false) :
    s.nextSlot = some i := by
  rw [State.nextSlot, List.find?_eq_some_iff_getElem]
  refine ⟨hready, (i + 7 - s.loop.lastSlot) % 8, ?_, ?_, fun j hj => ?_⟩
  · simpa [Machine.slotOrder] using Nat.mod_lt _ (by decide)
  · simp only [Machine.slotOrder, List.getElem_map, List.getElem_range]
    omega
  · simp only [Machine.slotOrder, List.getElem_map, List.getElem_range, Bool.not_eq_true']
    exact hfirst _ (by omega) (by omega)

/-- The source after the one served last, where it waits; else the next, and the last served itself. -/
theorem nextSource_eq (s : State) : s.nextSource =
    if s.waiting s.loop.lastSource.next then some s.loop.lastSource.next
    else if s.waiting s.loop.lastSource.next.next then some s.loop.lastSource.next.next
    else if s.waiting s.loop.lastSource.next.next.next then some s.loop.lastSource.next.next.next
    else none := by
  simp only [State.nextSource, List.find?_cons, List.find?_nil]
  cases s.waiting s.loop.lastSource.next <;> cases s.waiting s.loop.lastSource.next.next <;>
    cases s.waiting s.loop.lastSource.next.next.next <;> rfl

theorem arbiterStarts_of_source {s : State} {src : Source} (hidle : s.loop.sending = none)
    (hsource : s.nextSource = some src) : arbiterStarts s = serveSource src s := by
  simp [arbiterStarts, hidle, hsource]

/-- Settles O20: the cycle of the sources, the order of the slots, and the release of a sent frame. -/
theorem outputArbiter : Obligations.OutputArbiter := by
  intro s ready noSlot
  have hready : ∀ k, s.slotReady k = true ↔ ready k := fun _ => slotReady_eq_true
  have hnone : noSlot → s.nextSlot = none := fun h => nextSlot_eq_none fun k hk =>
    Bool.eq_false_iff.mpr fun hr => h k hk ((hready k).mp hr)
  have hforward : s.waiting .forward = !s.loop.forward.isEmpty := rfl
  have hslots : s.waiting .slots = s.nextSlot.isSome := rfl
  have hanswers : s.waiting .answers = !s.loop.answers.isEmpty := rfl
  refine ⟨fun f rest hidle hhead hturn => ?_, fun f rest hidle hhead hturn => ?_,
    fun i o hidle hi hlast hturn hslot hmapped hfirst => ?_, fun hidle hf ha hn => ?_, fun hbusy => ?_,
    fun x hx => ?_, fun hidle => ?_⟩
  · have hsource : s.nextSource = some .forward := by
      rw [nextSource_eq]
      rcases hturn with h | ⟨h, ha⟩ | ⟨h, hn, ha⟩
      · simp [h, Source.next, hforward, hhead]
      · simp [h, Source.next, hforward, hhead, hanswers, ha]
      · simp [h, Source.next, hforward, hhead, hanswers, ha, hslots, hnone hn]
    refine congrArg Host.Outcome.next ((arbiterStarts_of_source hidle hsource).trans ?_)
    rw [serveSource, hhead]
    simp only [startSending, State.mapLoop, frameCounts]
  · have hsource : s.nextSource = some .answers := by
      rw [nextSource_eq]
      rcases hturn with h | ⟨h, hn⟩ | ⟨h, hf, hn⟩
      · simp [h, Source.next, hanswers, hhead]
      · simp [h, Source.next, hanswers, hhead, hslots, hnone hn]
      · simp [h, Source.next, hanswers, hhead, hslots, hnone hn, hforward, hf]
    refine congrArg Host.Outcome.next ((arbiterStarts_of_source hidle hsource).trans ?_)
    rw [serveSource, hhead]
    simp only [startSending, State.mapLoop, frameCounts]
  · have hread : s.loop.slots.getD i ⟨none, false⟩ = ⟨some o, true⟩ := by
      rw [List.getD_eq_getElem?_getD, hslot]
      rfl
    have hnext : s.nextSlot = some i := by
      refine nextSlot_eq_some hi hlast ((hready i).mpr ⟨by rw [hread], hmapped⟩) fun k hk hlt => ?_
      exact Bool.eq_false_iff.mpr fun hr => hfirst k hk hlt ((hready k).mp hr)
    have hsource : s.nextSource = some .slots := by
      rw [nextSource_eq]
      rcases hturn with h | ⟨h, hf⟩ | ⟨h, ha, hf⟩
      · simp [h, Source.next, hslots, hnext]
      · simp [h, Source.next, hslots, hnext, hforward, hf]
      · simp [h, Source.next, hslots, hnext, hforward, hf, hanswers, ha]
    have hserved : (s.loop.slots.modify i fun x => { x with pending := false }) =
        s.loop.slots.set i ⟨some o, false⟩ := by
      refine List.ext_getElem? fun j => ?_
      rw [List.getElem?_modify, List.getElem?_set]
      by_cases hj : i = j
      · subst hj
        obtain ⟨hlt, hget⟩ := List.getElem?_eq_some_iff.mp hslot
        simp [hlt, hget]
      · simp [hj]
    refine congrArg Host.Outcome.next ((arbiterStarts_of_source hidle hsource).trans ?_)
    simp only [serveSource, hnext, sendSlot, hread, startSending, serveSlot, State.mapLoop, hserved, frameCounts,
      State.orderFrame, length_buildFrame]
  · have hsource : s.nextSource = none := by
      rw [nextSource_eq]
      cases h : s.loop.lastSource <;> simp [Source.next, hforward, hf, hanswers, ha, hslots, hnone hn]
    refine congrArg Host.Outcome.next ?_
    simp [arbiterStarts, hidle, hsource]
  · obtain ⟨x, hx⟩ := Option.isSome_iff_exists.mp hbusy
    exact congrArg Host.Outcome.next (by simp [arbiterStarts, hx])
  · refine congrArg Host.Outcome.next ?_
    simp only [frameLeaves, hx, State.mapLoop]
    cases hfrom : x.from_ with
    | none => simp [LoopPort.release, gapCounts]
    | some src => cases src <;> simp [LoopPort.release, gapCounts]
  · exact congrArg Host.Outcome.next (by simp [frameLeaves, hidle])

end Sys2Proof.Proofs
end

section
namespace Sys2Proof.Proofs
open Sys2Proof.Machine Sys2Proof.Safety

/-! ## The record

Conditions, journal and answer queue of a state, with all that a raise or an append reads. -/

/-- The states agree in what a raise, a cause end and a journal append read and change. -/
structure RecordAgree (r t : State) : Prop where
  conds : t.conds = r.conds
  journal : t.journal = r.journal
  answers : t.loop.answers = r.loop.answers
  held : t.loop.held = r.loop.held
  own : t.loop.ownAddress = r.loop.ownAddress
  tables : t.tables = r.tables
  clock : t.time.clock = r.time.clock

namespace RecordAgree

theorem refl (s : State) : RecordAgree s s := ⟨rfl, rfl, rfl, rfl, rfl, rfl, rfl⟩

theorem symm {r t : State} (h : RecordAgree r t) : RecordAgree t r :=
  ⟨h.conds.symm, h.journal.symm, h.answers.symm, h.held.symm, h.own.symm, h.tables.symm, h.clock.symm⟩

theorem trans {r t u : State} (h : RecordAgree r t) (h' : RecordAgree t u) : RecordAgree r u :=
  ⟨h'.conds.trans h.conds, h'.journal.trans h.journal, h'.answers.trans h.answers, h'.held.trans h.held,
    h'.own.trans h.own, h'.tables.trans h.tables, h'.clock.trans h.clock⟩

theorem sameRecord {r t : State} (h : RecordAgree r t) : SameRecord r t :=
  ⟨h.conds, h.journal, h.answers, h.held⟩

/-- Operations on other blocks leave the record. -/
theorem of_loop {r t : State} (hconds : t.conds = r.conds) (hjournal : t.journal = r.journal)
    (hloop : t.loop = r.loop) (htables : t.tables = r.tables) (hclock : t.time.clock = r.time.clock) :
    RecordAgree r t := ⟨hconds, hjournal, by rw [hloop], by rw [hloop], by rw [hloop], htables, hclock⟩

/-- A write of slots leaves the record. -/
theorem of_slots {r t : State} (hconds : t.conds = r.conds) (hjournal : t.journal = r.journal)
    (hloop : ∃ x, t.loop = { r.loop with slots := x }) (htables : t.tables = r.tables)
    (hclock : t.time.clock = r.time.clock) : RecordAgree r t := by
  obtain ⟨x, hx⟩ := hloop
  exact ⟨hconds, hjournal, by rw [hx], by rw [hx], by rw [hx], htables, hclock⟩

theorem cond {r t : State} (h : RecordAgree r t) (c : Condition) : t.cond c = r.cond c := by
  simp [State.cond, h.conds]

theorem journalAppend {r t : State} (h : RecordAgree r t) (kind : JournalKind) (subject : Option Nat)
    (value : Int) : RecordAgree (journalAppend kind subject value r) (journalAppend kind subject value t) :=
  ⟨by simpa using h.conds, by simp [h.journal, h.clock], by simpa using h.answers, by simpa using h.held,
    by simpa using h.own, by simpa using h.tables, by simpa using h.clock⟩

theorem mapConds {r t : State} (h : RecordAgree r t) (f : List CondCell → List CondCell) :
    RecordAgree (r.mapConds f) (t.mapConds f) :=
  ⟨by simp [h.conds], h.journal, h.answers, h.held, h.own, h.tables, h.clock⟩

theorem causeEnd {r t : State} (h : RecordAgree r t) (c : Condition) :
    RecordAgree (causeEnd c r) (causeEnd c t) := h.mapConds _

theorem offerNotice {r t : State} (h : RecordAgree r t) (c : Condition) (subject : Option Nat) :
    RecordAgree (offerNotice c subject r) (offerNotice c subject t) := by
  have hroom : t.answerRoom = r.answerRoom := by simp [State.answerRoom, h.answers, h.held]
  have hset : t.setting Setting.NOTICE_ADDRESS = r.setting Setting.NOTICE_ADDRESS := by
    simp [State.setting, h.tables]
  simp only [Machine.offerNotice, h.cond, hroom, hset]
  split
  · exact ⟨h.conds, h.journal, by simp [h.answers, h.own, h.journal], h.held, h.own, h.tables, h.clock⟩
  · exact h

theorem raise {r t : State} (h : RecordAgree r t) (c : Condition) (subject : Option Nat) :
    RecordAgree (raise c subject r) (raise c subject t) := by
  have hmark : RecordAgree (markCause c r) (markCause c t) := h.mapConds _
  simp only [Machine.raise, h.cond]
  split
  · exact hmark
  · exact ((hmark.mapConds _).journalAppend _ _ _).offerNotice c subject

theorem recorded {r t : State} (h : RecordAgree r t) (p : PlantState) (cause : Cause)
    (named : Option Condition) : RecordAgree (recorded p cause named r) (recorded p cause named t) := by
  have hentry := (h.journalAppend .plant none (p.code * 256 + cause.code)).raise .plantChanged none
  cases named with
  | none => exact hentry
  | some c => exact hentry.raise c none

theorem entryRecord {r t : State} (h : RecordAgree r t) (hsaw : t.saw.state = r.saw.state) (p : PlantState)
    (cause : Cause) (named : Option Condition) :
    RecordAgree (entryRecord p cause named r) (entryRecord p cause named t) := by
  have hentry := h.recorded p cause named
  rw [entryRecord_eq, entryRecord_eq, hsaw]
  exact ⟨hentry.conds, by simp [hentry.journal, h.clock], hentry.answers, hentry.held, hentry.own,
    hentry.tables, hentry.clock⟩

end RecordAgree

/-- A record may be replaced by one that agrees with it. -/
theorem sameRecord_of_agree {r r' t : State} (h : SameRecord r t) (hr : RecordAgree r' r) : SameRecord r' t := by
  obtain ⟨hconds, hjournal, hanswers, hheld⟩ := h
  exact ⟨hconds.trans hr.conds, hjournal.trans hr.journal, hanswers.trans hr.answers, hheld.trans hr.held⟩

theorem sameRecord_trans {r t u : State} (h : SameRecord r t) (h' : SameRecord t u) : SameRecord r u := by
  obtain ⟨hconds, hjournal, hanswers, hheld⟩ := h
  obtain ⟨hconds', hjournal', hanswers', hheld'⟩ := h'
  exact ⟨hconds'.trans hconds, hjournal'.trans hjournal, hanswers'.trans hanswers, hheld'.trans hheld⟩

/-! ## The record of a plant entry and its notice -/

/-- Once PLANT_CHANGED is raised, the later raises of an entry leave its flag. -/
theorem plantChanged_of_recorded (p : PlantState) (cause : Cause) {named : Option Condition} {s : State}
    (hne : named ≠ some .plantChanged) (hlength : s.conds.length = 25) :
    ((recorded p cause named s).cond .plantChanged).flag = true := by
  have hraised : ((raise .plantChanged none (journalAppend .plant none (p.code * 256 + cause.code) s)).cond
      .plantChanged).flag = true := by
    obtain ⟨hflag, _⟩ := raise_cond_self .plantChanged none
      (journalAppend .plant none (p.code * 256 + cause.code) s) (by simpa using hlength)
    exact hflag
  cases named with
  | none => exact hraised
  | some c =>
    have hc : c ≠ .plantChanged := fun h => hne (by rw [h])
    exact (congrArg CondCell.flag (raise_cond_ne c .plantChanged none _ hc)).trans hraised

theorem enterPlant_plantChanged {p : PlantState} (hp : p ≠ .run) (cause : Cause) {s : State}
    (hlength : s.conds.length = 25) : ((enterPlant p cause s).cond .plantChanged).flag = true := by
  have hconds := (enterPlant_sameRecord hp cause s).1
  have hrec : (entryRecord p cause (causeCondition p cause) s).conds =
      (recorded p cause (causeCondition p cause) s).conds := by rw [entryRecord_eq]; rfl
  have hne : causeCondition p cause ≠ some .plantChanged := by
    cases cause <;> simp [causeCondition]
  have := plantChanged_of_recorded p cause hne hlength
  rwa [State.cond, hconds, hrec]

/-! ## Entry to STOPPING (R48) and to STOPPED (R50) -/

/-- The saw at entry to STOPPING: at rest or stopping it goes on, else it stops (R152). -/
theorem sawEntry_stopping (s : State) : sawEntry .stopping s =
    if s.saw.state = .idle ∨ s.saw.state = .stopping then s else enterSawStopping s := by
  cases h : s.saw.state <;> simp [sawEntry, h]

/-- The saw at entry to STOPPED: it comes to rest (R152). -/
theorem sawEntry_stopped (s : State) : sawEntry .stopped s =
    if s.saw.state = .idle then s else enterSawIdle .stop s := by
  cases h : s.saw.state <;> simp [sawEntry, h]

@[simp] theorem enterSawStopping_saw (s : State) : (enterSawStopping s).saw = { s.saw with
    state := .stopping, reserve := none, settle := none, confirm := none, grant := none
    rundown := some (seconds (s.setting Setting.RUNDOWN)), releaseOrdered := false
    order := { s.saw.order with feed := 0, lamp := .stop } } := by
  simp [enterSawStopping]

/-- What entry to STOPPING does (R48). -/
theorem enterPlant_stopping (cause : Cause) (s : State) : Stopping cause s (enterPlant .stopping cause s) := by
  have hne : PlantState.stopping ≠ .run := by decide
  have hdark : Circuit.darken = darkened := rfl
  obtain ⟨t, hentry, hsaw, hshed⟩ : ∃ t, enterPlant .stopping cause s = sawEntry .stopping t ∧ t.saw = s.saw ∧
      t.shed = ⟨[], none, 0, none⟩ := ⟨_, rfl, by simp, by simp [hamletEntry]⟩
  refine ⟨enterPlant_plant .stopping cause s, ?time, enterPlant_water .stopping cause s, ?hamlet, ?shed,
    fun hrest => ?rest, fun hcut => ?cut, enterPlant_plantChanged hne cause, enterPlant_slotsFollow hne cause s,
    ?kept⟩
  case time => simp [enterPlant, timeEntry]
  case hamlet => simp [enterPlant, hamletEntry, hdark]
  case shed => rw [hentry, sawEntry_stopping]; split <;> simp [hshed]
  case rest => rw [hentry, sawEntry_stopping, hsaw, if_pos hrest, hsaw]
  case cut => simp [hentry, sawEntry_stopping, hsaw, hcut]
  case kept =>
    clear hentry
    intro b hb
    cases b with
    | gov => simp [Block.same, enterPlant, governorEntry, sawEntry_stopping, apply_ite State.gov]
    | firing => simp [Block.same, enterPlant, firingEntry]
    | _ => simp_all [Block.same]

/-- What entry to STOPPED does (R50). -/
theorem enterPlant_stopped (cause : Cause) (s : State) : Stopped cause s (enterPlant .stopped cause s) := by
  have hne : PlantState.stopped ≠ .run := by decide
  obtain ⟨t, hentry, hsaw, hshed, hgov⟩ : ∃ t, enterPlant .stopped cause s = sawEntry .stopped t ∧
      t.saw = s.saw ∧ t.shed = s.shed ∧ t.gov = { s.gov with d := 0, residue := 0, engaged := false } :=
    ⟨_, rfl, by simp, by simp [hamletEntry], by simp [hamletEntry, governorEntry]⟩
  have hlaw : (sawEntry .stopped t).gov.d = 0 ∧ (sawEntry .stopped t).gov.residue = 0 ∧
      (sawEntry .stopped t).gov.engaged = false ∧ (sawEntry .stopped t).gov.ePrev = s.gov.ePrev ∧
      (sawEntry .stopped t).gov.active = s.gov.active := by
    rw [sawEntry_stopped]
    split <;> simp [enterSawIdle, hgov]
  obtain ⟨hd, hres, heng, hprev, hactive⟩ := hlaw
  rw [← hentry] at hd hres heng hprev hactive
  refine ⟨enterPlant_plant .stopped cause s, hd, hres, heng, hprev, hactive, ?firing, ?time,
    enterPlant_water .stopped cause s, ?hamlet, fun hidle => ?rest, fun hcut => ?cut,
    enterPlant_plantChanged hne cause, enterPlant_slotsFollow hne cause s, ?kept⟩
  case firing => simp [enterPlant, firingEntry, setBanks, cancelPulses]
  case time => simp [enterPlant, timeEntry]
  case hamlet => simp [enterPlant, hamletEntry]
  case rest => simp [hentry, sawEntry_stopped, hsaw, hidle, hgov, hshed]
  case cut => simp [hentry, sawEntry_stopped, hsaw, hcut, Saw.rest]
  case kept =>
    clear hentry
    intro b hb
    cases b with
    | hamlet => simp [Block.same, enterPlant, hamletEntry]
    | _ => simp_all [Block.same]

/-! ## The stop-completion test (R64) -/

/-- The test ends a stop in STOPPING with the signal LOST and the gate last seen at 5 or less. -/
theorem stopComplete_iff {s : State} : s.stopComplete = true ↔
    s.plant.state = .stopping ∧ s.edge.signal = .lost ∧ ∃ p, s.water.gatePos = some p ∧ p ≤ 5 := by
  cases hg : s.water.gatePos <;> simp [State.stopComplete, State.inPlant, hg, and_assoc]

theorem completionTest_of_incomplete {s : State} (h : s.plant.state ≠ .stopping ∨ StopIncomplete s) :
    completionTest s = s := by
  rw [completionTest, if_neg]
  rw [stopComplete_iff]
  rintro ⟨hstate, hlost, p, hp, hle⟩
  rcases h with h | h | h
  · exact h hstate
  · simp [hlost] at h
  · exact absurd (h p hp) (by omega)

theorem completionTest_of_ready {s : State} (hstate : s.plant.state = .stopping) (h : StopReady s) :
    completionTest s = enterPlant .stopped .stopDone s := if_pos (stopComplete_iff.mpr ⟨hstate, h⟩)

/-- The signal and the gate's position are no part of a plant entry. -/
theorem enterPlant_gatePos (p : PlantState) (cause : Cause) (s : State) :
    (enterPlant p cause s).water.gatePos = s.water.gatePos := by
  rw [enterPlant_water]; rfl

/-- Entry to STOPPING of a plant that has not stopped yet ends there. -/
theorem enterStopping_of_incomplete (cause : Cause) {s : State} (h : StopIncomplete s) :
    enterStopping cause s = enterPlant .stopping cause s :=
  completionTest_of_incomplete (.inr (by
    simpa only [StopIncomplete, enterPlant_gatePos, (enterPlant_frame .stopping cause s).1] using h))

/-- Entry to STOPPING of a plant that stands still already ends in STOPPED. -/
theorem enterStopping_of_ready {cause : Cause} {s : State} (hcause : causeCondition .stopping cause = none)
    (h : StopReady s) : StoppedAtOnce cause s (enterStopping cause s) := by
  have hready : StopReady (enterPlant .stopping cause s) := by
    simpa only [StopReady, enterPlant_gatePos, (enterPlant_frame .stopping cause s).1] using h
  have hrecord := enterPlant_sameRecord (p := .stopping) (by decide) cause s
  rw [hcause] at hrecord
  rw [enterStopping, completionTest_of_ready (by rw [enterPlant_plant]; rfl) hready]
  exact ⟨enterPlant .stopping cause s, enterPlant_stopping cause s, hrecord, enterPlant_stopped .stopDone _,
    enterPlant_sameRecord (by decide) .stopDone _⟩

end Sys2Proof.Proofs
end

section
namespace Sys2Proof.Proofs
open Sys2Proof.Machine Sys2Proof.Safety

/-! ## Edges that give no period (R3, R5) -/

theorem classify_short {t prev : Count} {e : EdgeCapture} (hsignal : e.signal = .present)
    (hprev : e.tPrev = some prev) (hshort : (t - prev).toNat < 30770) : classify t e = .short := by
  simp only [classify, hsignal, hprev, classOfPeriod, if_pos hshort]

theorem classify_gap {t : Count} {e : EdgeCapture} (h : e.tPrev = none ∨ (e.signal = .lost ∧ e.lossTimer = none) ∨
    (∃ prev, e.tPrev = some prev ∧ 57142 < (t - prev).toNat) ∨
    (∃ prev, e.signal = .lost ∧ e.tPrev = some prev ∧ (t - prev).toNat < 30770)) : classify t e = .gap := by
  rcases h with hprev | ⟨hlost, htimer⟩ | ⟨prev, hprev, hlong⟩ | ⟨prev, hlost, hprev, hshort⟩
  · cases hs : e.signal <;> simp [classify, hprev, hs]
  · cases hprev : e.tPrev <;> simp [classify, hprev, hlost, htimer]
  · have hclass : classOfPeriod (t - prev).toNat = .gap := by
      rw [classOfPeriod, if_neg (by omega), if_neg (by omega)]
    cases hs : e.signal <;> cases htimer : e.lossTimer <;> simp only [classify, hprev, hs, hclass, htimer]
  · have hclass : classOfPeriod (t - prev).toNat = .short := by rw [classOfPeriod, if_pos hshort]
    cases htimer : e.lossTimer <;> simp only [classify, hprev, hlost, hclass, htimer]

/-- What an accepted rising crossing edge does is settled by its class. -/
theorem exec_acceptedRisingCrossingEdge (t : Count) (lag : Nat) (s : State) :
    exec (.acceptedRisingCrossingEdge t lag) s = .next
      (match classify t s.edge with
        | .short => acceptLevel .xing true s
        | .valid p => validPeriod t p lag (acceptLevel .xing true s)
        | .gap => gapEdge t lag (acceptLevel .xing true s)) := rfl

/-- Settles O21, by the class of the edge. -/
theorem edgesWithoutPeriod : Obligations.EdgesWithoutPeriod := by
  refine fun t lag s => ⟨fun prev hsignal hprev hshort => ?short, fun hgap => ?gap, rfl, rfl⟩
  case short => rw [exec_acceptedRisingCrossingEdge, classify_short hsignal hprev hshort]; rfl
  case gap =>
    rw [exec_acceptedRisingCrossingEdge, classify_gap hgap]
    by_cases hp : s.plant.state = .runup
    · simp [gapEdge, clearAcceptance, acceptLevel, cancelPulses, lossLeft, lossCounts, State.mapEdge,
        State.mapFiring, State.mapPlant, State.inPlant, hp]
    · simp [gapEdge, clearAcceptance, acceptLevel, cancelPulses, lossLeft, lossCounts, State.mapEdge,
        State.mapFiring, State.inPlant, hp]

/-! ## The loss of the signal (R5) -/

/-- What the loss of a PRESENT signal does before the stop-completion test. -/
def signalLost (s : State) : State :=
  { s with
    edge := { s.edge with lossTimer := none, signal := .lost, freq := none }
    firing := { s.firing with pulses := [], trimGate := false, scheduled := 0 }
    plant := { s.plant with
      freqOverspeed := none
      accept := if s.plant.state = .runup then 0 else s.plant.accept
      signalLoss := if s.plant.state = .run then some (s.setting 5 * 2000) else s.plant.signalLoss
      collapse := if s.plant.state = .run then
        some (s.plant.collapse.getD (s.setting 26 * 2000000)) else s.plant.collapse } }

theorem lossTimerExpires_of_present {s : State} (h : s.edge.signal = .present) :
    lossTimerExpires s = completionTest (signalLost s) := by
  rw [lossTimerExpires, if_pos h, signalEntersLost, plantSignalLost]
  refine congrArg completionTest ?_
  cases hp : s.plant.state <;>
    simp [signalLost, lossTimers, startCollapse, clearAcceptance, cancelPulses, seconds, State.mapEdge, State.mapFiring, State.mapPlant, State.inPlant, State.setting, hp]

/-- Settles O26. -/
theorem lossTimerExpiry : Obligations.LossTimerExpiry := by
  refine fun s => ⟨fun hlost => ?lost, fun hpresent hopen => ?present⟩
  case lost => exact congrArg Host.Outcome.next (if_neg (by simp [hlost]))
  case present =>
    have hincomplete : completionTest (signalLost s) = signalLost s :=
      completionTest_of_incomplete (hopen.imp id .inr)
    exact congrArg Host.Outcome.next ((lossTimerExpires_of_present hpresent).trans hincomplete)

/-! ## The tooth input (R6 to R8) -/

/-- A tooth edge is accepted and recorded, and the cause of SHAFT_SENSOR ends (R6, R8). -/
theorem endShaftCause_recordTooth (t : Count) (s : State) :
    endShaftCause (recordTooth t (acceptLevel .tooth true s)) =
      { (if s.edge.shaftCause then causeEnd .shaftSensor s else s) with edge := { s.edge with
          tooth := { s.edge.tooth with level := true, run := 0 }
          lastTooth := some t, toothSilence := some 1000000, toothSilent := false, shaftCause := false } } := by
  cases h : s.edge.shaftCause <;>
    simp [endShaftCause, recordTooth, acceptLevel, toothSilenceCounts, State.mapEdge, causeEnd, State.mapConds, h]

/-- A tooth edge after silence, or the first, starts the overspeed count again (R6). -/
theorem toothEdge_of_none {t : Count} {s : State} (h : s.edge.toothSilent = true ∨ s.edge.lastTooth = none) :
    toothEdge t s = (endShaftCause (recordTooth t s)).mapEdge fun e => { e with overspeed := 0 } := by
  rw [toothEdge]
  rcases h with h | h
  · simp [h]
  · cases hs : s.edge.toothSilent <;> simp [h]

/-- A tooth edge after another one gives a tooth period (R6). -/
theorem toothEdge_of_some {t prev : Count} {s : State} (hheard : s.edge.toothSilent = false)
    (hprev : s.edge.lastTooth = some prev) :
    toothEdge t s = toothPeriod (t - prev).toNat (endShaftCause (recordTooth t s)) := by
  simp only [toothEdge, hheard, hprev]

/-- Settles O27: an edge by whether it gives a period, then by the count that it leaves. -/
theorem toothInput : Obligations.ToothInput := by
  intro t s e1 base e2
  refine ⟨fun hnone => ?noPeriod, fun prev hheard hprev => ?period, fun hsome hlost => ?lost,
    fun hsome hpresent => ?present, fun hnone => ?stopped⟩
  case noPeriod =>
    refine congrArg Host.Outcome.next ?_
    rw [toothEdge_of_none (by exact hnone), endShaftCause_recordTooth]
    rfl
  case period =>
    intro p n after
    have hset : base.setting 4 = s.setting 4 := setting_congr (by dsimp only [base]; split <;> simp) 4
    have hplant : base.plant = s.plant := by dsimp only [base]; split <;> simp
    have hedge : exec (.acceptedRisingToothEdge t) s = .next (if n = 3 then trip .overspeed after else after) := by
      refine congrArg Host.Outcome.next ?_
      rw [toothEdge_of_some (by exact hheard) (by exact hprev), endShaftCause_recordTooth]
      have hn : overspeedCount p (base.setting 4) s.edge.overspeed = n := by rw [hset]; rfl
      have hafter : after = { base with
          edge := { e1 with toothPeriod := some p, overspeed := overspeedCount p (base.setting 4) s.edge.overspeed } } := by
        rw [hn]
      rw [← hn, hafter]
      rfl
    rw [hedge]
    refine ⟨fun hlow => by rw [if_neg (by omega)], fun hthree htripped => ?_, fun hthree hrun => ?_⟩
    · rw [if_pos hthree, trip, if_pos (by simp [State.inPlant, after, hplant, htripped])]
    · rw [if_pos hthree]
      exact ⟨_, rfl, trip_tripped (by simpa [after, hplant] using hrun) rfl⟩
  case lost =>
    refine congrArg Host.Outcome.next ?_
    rw [toothSilenceExpires, if_pos hsome, if_neg (by simp [hlost])]
    rfl
  case present =>
    refine congrArg Host.Outcome.next ?_
    rw [toothSilenceExpires, if_pos hsome, if_pos hpresent]
    rfl
  case stopped => exact congrArg Host.Outcome.next (by rw [toothSilenceExpires, hnone]; rfl)

/-! ## The trips of the protection (R56 to R62) -/

/-- The protection timers are no part of what a trip reads. -/
theorem tripped_of_mapPlant {cause : Cause} {named : Condition} {f : Plant → Plant} {s t : State}
    (h : Tripped cause named (s.mapPlant f) t) : Tripped cause named s t := by
  obtain ⟨hplant, hgov, hfiring, htime, hwater, hhamlet, hshed, hidle, hlamp, hrest, hrecord, hslots, hkept⟩ := h
  have hagree : RecordAgree s (s.mapPlant f) := .of_loop rfl rfl rfl rfl rfl
  refine ⟨hplant, hgov, hfiring, htime, hwater, hhamlet, hshed, hidle, hlamp, hrest,
    sameRecord_of_agree hrecord (hagree.entryRecord rfl _ _ _), hslots, fun b hb => ?_⟩
  have := hkept b hb
  cases b with
  | plant => simp at hb
  | _ => exact this

/-- A timer that does not run is stopped already. -/
theorem mapPlant_eq_self {f : Plant → Plant} {s : State} (h : f s.plant = s.plant) : s.mapPlant f = s := by
  rw [State.mapPlant, h]

/-- Settles O31. -/
theorem trips : Obligations.Trips := by
  intro s
  refine ⟨fun h => ⟨_, rfl, trip_tripped h rfl⟩,
    fun h => congrArg Host.Outcome.next (if_pos (by simp [State.inPlant, h])),
    fun h hsome => ?runup, fun h => congrArg Host.Outcome.next (if_neg (by simp [State.inPlant, h])),
    fun h hsome => ?signalLoss, fun h => ?signalKept, fun h hsome => ?collapse, fun h => ?collapseKept,
    fun h hsome => ?fast, fun h => ?fastKept, fun h => ?_, fun h => ?_, fun h => ?_⟩
  case runup =>
    have hexec : exec .runupTimerExpiry s = .next (trip .runupTimeout s) :=
      congrArg Host.Outcome.next (if_pos (by simp [State.inPlant, h, hsome]))
    exact ⟨_, hexec, trip_tripped (by simp [h]) rfl⟩
  case signalLoss =>
    have hexec : exec .signalLossTimerExpiry s =
        .next (trip .signalLoss (s.mapPlant fun p => { p with signalLoss := none })) :=
      congrArg Host.Outcome.next ((if_pos hsome).trans (if_pos (by simp [State.inPlant, h])))
    exact ⟨_, hexec, tripped_of_mapPlant (trip_tripped (by simp [h]) rfl)⟩
  case signalKept =>
    refine congrArg Host.Outcome.next ?_
    by_cases hsome : s.plant.signalLoss.isSome
    · exact (if_pos hsome).trans (if_neg (by simp [State.inPlant, h]))
    · rw [signalLossExpires, if_neg hsome]
      exact (mapPlant_eq_self (f := fun p => { p with signalLoss := none })
        (by rw [← Option.not_isSome_iff_eq_none.mp hsome])).symm
  case collapse =>
    have hexec : exec .collapseTimerExpiry s =
        .next (trip .underfrequency (s.mapPlant fun p => { p with collapse := none })) :=
      congrArg Host.Outcome.next ((if_pos hsome).trans (if_pos (by simp [State.inPlant, h])))
    exact ⟨_, hexec, tripped_of_mapPlant (trip_tripped (by simp [h]) rfl)⟩
  case collapseKept =>
    refine congrArg Host.Outcome.next ?_
    by_cases hsome : s.plant.collapse.isSome
    · exact (if_pos hsome).trans (if_neg (by simp [State.inPlant, h]))
    · rw [collapseExpires, if_neg hsome]
      exact (mapPlant_eq_self (f := fun p => { p with collapse := none })
        (by rw [← Option.not_isSome_iff_eq_none.mp hsome])).symm
  case fast =>
    have hexec : exec .freqOverspeedTimerExpiry s =
        .next (trip .overspeed (s.mapPlant fun p => { p with freqOverspeed := none })) :=
      congrArg Host.Outcome.next (if_pos hsome)
    exact ⟨_, hexec, tripped_of_mapPlant (trip_tripped (by simp [h]) rfl)⟩
  case fastKept =>
    refine congrArg Host.Outcome.next ?_
    by_cases hsome : s.plant.freqOverspeed.isSome
    · exact (if_pos hsome).trans (if_pos (by simp [State.inPlant, h]))
    · rw [freqOverspeedExpires, if_neg hsome]
      exact (mapPlant_eq_self (f := fun p => { p with freqOverspeed := none })
        (by rw [← Option.not_isSome_iff_eq_none.mp hsome])).symm
  all_goals exact congrArg Host.Outcome.next (if_neg (by simp [h]))

end Sys2Proof.Proofs
end

section
namespace Sys2Proof.Proofs
open Sys2Proof.Machine Sys2Proof.Safety

/-! ## The ends of a stop, and the shortage event (R63 to R65, R82) -/

theorem inPlant_iff (s : State) (p : PlantState) : s.inPlant p = true ↔ s.plant.state = p := by
  simp [State.inPlant]

@[simp] theorem raise_ownAddress (c : Condition) (x : Option Nat) (s : State) :
    (raise c x s).loop.ownAddress = s.loop.ownAddress := by rw [raise_loop]

@[simp] theorem recorded_keeps (p : PlantState) (cause : Cause) (named : Option Condition) (s : State) :
    (recorded p cause named s).loop.ownAddress = s.loop.ownAddress ∧
      (recorded p cause named s).tables = s.tables := by
  cases named <;> simp [recorded]

/-- A plant entry other than to RUN agrees with its record in all that a later raise reads. -/
theorem enterPlant_agree {p : PlantState} (hp : p ≠ .run) (cause : Cause) (s : State) :
    RecordAgree (entryRecord p cause (causeCondition p cause) s) (enterPlant p cause s) := by
  obtain ⟨hconds, hjournal, hanswers, hheld⟩ := enterPlant_sameRecord hp cause s
  have hslots := enterPlant_slotsFollow hp cause s
  have hclock : (enterPlant p cause s).time.clock = s.time.clock := by
    cases p <;> simp [enterPlant, timeEntry]
  refine ⟨hconds, hjournal, hanswers, hheld, ?_, ?_, ?_⟩
  · rw [entryRecord_eq, hslots]
    exact (recorded_keeps p cause (causeCondition p cause) s).1.symm
  · simp [entryRecord_eq]
  · simp [entryRecord_eq, hclock]

/-- The firing is no part of what a stop reads. -/
theorem stopped_of_mapFiring {cause : Cause} {f : Firing → Firing} {s t : State}
    (h : Stopped cause (s.mapFiring f) t) : Stopped cause s t := by
  obtain ⟨hplant, hd, hres, heng, hprev, hactive, hfiring, htime, hwater, hhamlet, hrest, hcut, hcond, hslots,
    hkept⟩ := h
  refine ⟨hplant, hd, hres, heng, hprev, hactive, hfiring, htime, hwater, hhamlet, hrest, hcut, hcond, hslots,
    fun b hb => ?_⟩
  have := hkept b hb
  cases b with
  | firing => simp at hb
  | _ => exact this

/-- The slots are followed past a raise, which may queue a notice. -/
theorem slotsFollow_raise {again : List Nat} {s t : State} (h : SlotsFollow again s t) (c : Condition)
    (x : Option Nat) : SlotsFollow again s (raise c x t) := by
  have hafter : slotAfter again s (raise c x t) = slotAfter again s t := by
    funext k old
    simp [slotAfter, positions, State.circuit]
  rw [SlotsFollow, hafter, raise_loop, h]

theorem stopping_raise {cause : Cause} {s t : State} {c : Condition} (hc : c ≠ .plantChanged) (x : Option Nat)
    (h : Stopping cause s t) : Stopping cause s (raise c x t) := by
  obtain ⟨hplant, htime, hwater, hhamlet, hshed, hrest, hcut, hcond, hslots, hkept⟩ := h
  refine ⟨by simpa using hplant, by simpa using htime, by simpa using hwater, by simpa using hhamlet,
    by simpa using hshed, by simpa using hrest, by simpa using hcut, fun hlength => ?_,
    slotsFollow_raise hslots c x, fun b hb => ?_⟩
  · rw [raise_cond_ne c .plantChanged x t hc]
    exact hcond hlength
  · have := hkept b hb
    cases b <;> simp_all [Block.same]

/-- Settles O32. -/
theorem stopEndsAndShortage : Obligations.StopEndsAndShortage := by
  intro s
  refine ⟨fun hstate hsome => ?timeout, fun hnot => ?noTimeout, fun g hstate hpresent hg hle => ?loss,
    fun hrun hopen => ?short, fun hrun hready => ?shortAtOnce, fun hnot => ?aside⟩
  case timeout =>
    have hexec : exec .stopTimerExpiry s = .next (enterPlant .stopped .stopTimeout s) :=
      congrArg Host.Outcome.next (if_pos (by simp [State.inPlant, hstate, hsome]))
    exact ⟨_, hexec, enterPlant_stopped .stopTimeout s, enterPlant_sameRecord (by decide) .stopTimeout s⟩
  case noTimeout =>
    refine congrArg Host.Outcome.next (if_neg ?_)
    rw [Bool.and_eq_true, inPlant_iff]
    rintro ⟨hstate, hsome⟩
    rcases hnot with h | h
    · exact h hstate
    · simp [h] at hsome
  case loss =>
    have hlost : signalLost s = { s with
        edge := { s.edge with lossTimer := none, signal := .lost, freq := none }
        firing := { s.firing with pulses := [], trimGate := false, scheduled := 0 }
        plant := { s.plant with freqOverspeed := none } } := by
      simp [signalLost, hstate]
    have hexec : exec .lossTimerExpiry s = .next (enterPlant .stopped .stopDone (signalLost s)) :=
      congrArg Host.Outcome.next ((lossTimerExpires_of_present hpresent).trans
        (completionTest_of_ready hstate ⟨rfl, g, hg, hle⟩))
    rw [hexec, hlost]
    refine ⟨_, rfl, ?_, ?_⟩
    · exact stopped_of_mapFiring (f := fun b => { b with pulses := [], trimGate := false, scheduled := 0 })
        (enterPlant_stopped .stopDone _)
    · refine sameRecord_of_agree (enterPlant_sameRecord (by decide) .stopDone _)
        (RecordAgree.entryRecord (.of_loop ?_ ?_ ?_ ?_ ?_) ?_ .stopped .stopDone none) <;> rfl
  case short =>
    have hexec : exec .shortageEvent s = .next (raise .waterShort none (enterPlant .stopping .waterShort s)) := by
      refine congrArg Host.Outcome.next ?_
      rw [shortageEvent, shortageToPlant, if_pos ((inPlant_iff _ _).mpr hrun),
        enterStopping_of_incomplete .waterShort hopen]
    rw [hexec]
    exact ⟨_, rfl, stopping_raise (by decide) none (enterPlant_stopping .waterShort s),
      ((enterPlant_agree (by decide) .waterShort s).raise .waterShort none).sameRecord⟩
  case shortAtOnce =>
    refine ⟨_, enterStopping_of_ready rfl hready, congrArg Host.Outcome.next ?_⟩
    rw [shortageEvent, shortageToPlant, if_pos ((inPlant_iff _ _).mpr hrun)]
  case aside =>
    refine congrArg Host.Outcome.next ?_
    rw [shortageEvent, shortageToPlant, if_neg (by rwa [inPlant_iff])]

/-! ## SET PLANT STOPPED (R53) -/

theorem exec_setPlantStopped {s : State} (src : Byte) (tag : Word16) (h : s.answerRoom = true) :
    exec (.setPlantStopped src tag) s =
      .next (placeAnswer src.toNat tag Code.SET_PLANT (Machine.setPlantStopped (holding s))) :=
  congrArg Host.Outcome.next (serve_of_answerRoom src tag Code.SET_PLANT Machine.setPlantStopped h)

/-- From RUNUP and RUN the plant is stopped. -/
theorem setPlantStopped_of_active {s : State} (h : s.plant.state = .runup ∨ s.plant.state = .run) :
    Machine.setPlantStopped s = plantReply .done (enterStopping .host s) := by
  rcases h with h | h <;> rw [Machine.setPlantStopped, h]

/-- From TRIPPED the plant is stopped once no trip condition is set and the shaft is still. -/
theorem setPlantStopped_of_tripped {s : State} (h : s.plant.state = .tripped) : Machine.setPlantStopped s =
    if s.tripSet = false ∧ s.edge.signal = .lost then plantReply .done (enterPlant .stopped .host s)
    else plantReply .wrongState s := by
  rw [Machine.setPlantStopped, h]
  simp

/-- Settles O35, by the rows of Table 3-5. -/
theorem setPlantStopped : Obligations.SetPlantStopped := by
  intro src tag s hroom now
  rw [exec_setPlantStopped src tag hroom]
  refine ⟨fun hstate hopen => ?later, fun hstate hready => ?atOnce, fun hstate => ?already,
    fun hstate hset hlost => ?fromTripped, fun hstate hbar => ?refused⟩
  case later =>
    rw [setPlantStopped_of_active (s := holding s) hstate, enterStopping_of_incomplete (s := holding s) .host hopen,
      placeAnswer_plantReply,
      enterPlant_plant]
    exact ⟨_, rfl, enterPlant_stopping .host (holding s), enterPlant_sameRecord (by decide) .host (holding s)⟩
  case atOnce =>
    have hstop : StoppedAtOnce .host (holding s) (enterStopping .host (holding s)) :=
      enterStopping_of_ready rfl hready
    have hplant : (enterStopping .host (holding s)).plant.state = .stopped ∧
        (enterStopping .host (holding s)).plant.cause = .stopDone := by
      obtain ⟨m, -, -, ⟨hentered, -⟩, -⟩ := hstop
      exact ⟨congrArg Plant.state hentered, congrArg Plant.cause hentered⟩
    rw [setPlantStopped_of_active (s := holding s) hstate, placeAnswer_plantReply, hplant.1, hplant.2]
    exact ⟨_, rfl, hstop⟩
  case already =>
    have hdone : Machine.setPlantStopped (holding s) = plantReply .done (holding s) := by
      rcases hstate with h | h <;> rw [Machine.setPlantStopped, show (holding s).plant.state = _ from h]
    rw [hdone, placeAnswer_plantReply_holding]
  case fromTripped =>
    rw [setPlantStopped_of_tripped (s := holding s) hstate, if_pos ⟨hset, hlost⟩, placeAnswer_plantReply, enterPlant_plant]
    exact ⟨_, rfl, enterPlant_stopped .host (holding s), enterPlant_sameRecord (by decide) .host (holding s)⟩
  case refused =>
    rw [setPlantStopped_of_tripped (s := holding s) hstate, if_neg, placeAnswer_plantReply_holding]
    rintro ⟨hset, hlost⟩
    rcases hbar with h | h
    · exact absurd hset (by simp [show (holding s).tripSet = s.tripSet from rfl, h])
    · exact absurd hlost (by simp [show (holding s).edge = s.edge from rfl, h])

/-! ## The gate sample (R70, R85) -/

/-- The three status codes of a gate sample (Table 4-1). -/
theorem gateStatusOfCode_eq (c : Byte) :
    gateStatusOfCode c.toNat = if c = 0 then .ok else if c = 1 then .moving else .fault := by
  have h0 : c = 0 ↔ c.toNat = 0 := by simp [← BitVec.toNat_inj]
  have h1 : c = 1 ↔ c.toNat = 1 := by simp [← BitVec.toNat_inj]
  simp only [h0, h1]
  match c.toNat with
  | 0 => rfl
  | 1 => rfl
  | n + 2 => simp [gateStatusOfCode]

/-- What a fresh gate sample is before the plant takes it. -/
theorem gateHeard_storeGate (pos : Nat) (st : GateStatus) (s : State) : gateHeard (storeGate pos st s) =
    let s1 : State := { s with water := { s.water with
      gatePos := some (min pos 1000), gateStatus := some st
      gateSilence := if s.address 1 = 0 then none else some 0, gateSilent := false } }
    if s.water.gateSilent then causeEnd .gateSilent s1 else s1 := by
  have hsilence : restartSilence ((storeGate pos st s).mapped Role.GATE) =
      if s.address 1 = 0 then none else some 0 := restartSilence_mapped s Role.GATE
  simp only [gateHeard, hsilence]
  rfl

/-- The order is written again where the gate stands away from its target (R85). -/
theorem gateOrderCheck_eq (pos : Nat) (st : GateStatus) (s : State) : gateOrderCheck pos st s =
    if st = .ok ∧ (s.water.gate + 5 < pos ∨ pos + 5 < s.water.gate) then
      { s with loop := { s.loop with slots := s.loop.slots.set 0 ⟨some (.gate s.water.gate), true⟩ } }
    else s := by
  have haway : gateAway pos s.water.gate = true ↔ s.water.gate + 5 < pos ∨ pos + 5 < s.water.gate := by
    simp [gateAway]
  simp only [gateOrderCheck, haway]
  rfl

/-- What a gate sample hands to the plant where nothing follows from it. -/
theorem gateEvent_of_quiet {st : GateStatus} {s : State}
    (h : (st ≠ .fault ∧ (s.plant.state ≠ .stopping ∨ StopIncomplete s)) ∨ s.plant.state = .stopped ∨
      s.plant.state = .tripped) : gateEvent st s = s := by
  have hopen : st ≠ .fault → s.plant.state ≠ .stopping ∨ StopIncomplete s := by
    intro hst
    rcases h with ⟨-, h⟩ | h | h
    · exact h
    · exact .inl (by simp [h])
    · exact .inl (by simp [h])
  cases st with
  | ok => exact completionTest_of_incomplete (hopen (by decide))
  | moving => exact completionTest_of_incomplete (hopen (by decide))
  | fault =>
    rcases h with ⟨hne, -⟩ | h | h
    · exact absurd rfl hne
    · simp [gateEvent, gateFaultEvent, h]
    · simp [gateEvent, gateFaultEvent, h]

/-- A sound report ends a stop that is complete. -/
theorem gateEvent_of_ready {st : GateStatus} {s : State} (hfine : st ≠ .fault)
    (hstate : s.plant.state = .stopping) (h : StopReady s) :
    gateEvent st s = enterPlant .stopped .stopDone s := by
  cases st with
  | fault => exact absurd rfl hfine
  | ok => exact completionTest_of_ready hstate h
  | moving => exact completionTest_of_ready hstate h

/-- Settles O40. -/
theorem gateSample : Obligations.GateSample := by
  intro a b c rest s pos st s1 s2
  have hheard : exec (.gateSample (a :: b :: c :: rest)) s =
      .next (gateOrderCheck pos st (gateEvent st s2)) := by
    refine congrArg Host.Outcome.next ?_
    rw [show Machine.gateSample (a :: b :: c :: rest) s = gateOrderCheck (min (u16 a b) 1000)
      (gateStatusOfCode c.toNat) (gateEvent (gateStatusOfCode c.toNat)
        (gateHeard (storeGate (u16 a b) (gateStatusOfCode c.toNat) s))) from rfl,
      gateStatusOfCode_eq, gateHeard_storeGate]
    rfl
  have hwater : s2.water = s1.water := by dsimp only [s2]; split <;> simp
  have hplant : s2.plant = s.plant := by dsimp only [s2]; split <;> simp [s1]
  have hedge : s2.edge = s.edge := by dsimp only [s2]; split <;> simp [s1]
  have hpos : s2.water.gatePos = some pos := by rw [hwater]
  rw [hheard]
  refine ⟨fun hquiet => ?quiet, fun hfault hstate => ?fault, fun hfine hstate hlost hle => ?stop,
    fun payload hshort => ?short⟩
  case quiet =>
    have hevent : gateEvent st s2 = s2 := by
      refine gateEvent_of_quiet ?_
      rw [StopIncomplete, hplant, hedge, hpos]
      refine hquiet.imp_left (And.imp_right (Or.imp_right (Or.imp_right fun h p hp => ?_)))
      exact Option.some.inj hp ▸ h
    rw [hevent, gateOrderCheck_eq, show s2.water.gate = s.water.gate by rw [hwater]]
  case fault =>
    have htrip : gateEvent st s2 = trip .gateFault s2 := by
      rw [hfault, gateEvent, gateFaultEvent]
      rcases hstate with h | h | h <;> simp [hplant, h]
    have hdone : gateOrderCheck pos st (trip .gateFault s2) = trip .gateFault s2 := if_neg (by simp [hfault])
    rw [htrip, hdone]
    refine ⟨_, rfl, trip_tripped ?_ rfl⟩
    rcases hstate with h | h | h <;> simp [hplant, h]
  case stop =>
    have hready : StopReady s2 := ⟨by rw [hedge, hlost], pos, hpos, hle⟩
    have hdone : gateOrderCheck pos st (enterPlant .stopped .stopDone s2) = enterPlant .stopped .stopDone s2 := by
      refine if_neg ?_
      rw [enterPlant_water]
      simp [gateAway, State.entryGate]
      omega
    rw [gateEvent_of_ready hfine (by rw [hplant, hstate]) hready, hdone]
    exact ⟨_, rfl, enterPlant_stopped .stopDone s2, enterPlant_sameRecord (by decide) .stopDone s2⟩
  case short =>
    match payload, hshort with
    | [], _ => rfl
    | [_], _ => rfl
    | [_, _], _ => rfl

end Sys2Proof.Proofs
end

section
namespace Sys2Proof.Proofs
open Sys2Proof.Machine Sys2Proof.Safety

/-! ## Slots that follow their orders through several operations

`SlotsFollow [] s t` lets the answer queue differ, so it passes through raises too. -/

/-- The tables are kept and the slots of the Loop Port follow the orders; answers may have been queued. -/
structure Follow (s t : State) : Prop where
  tables : t.tables = s.tables
  slots : SlotsFollow [] s t

theorem Follow.address {s t : State} (h : Follow s t) (r : Nat) : t.address r = s.address r := by
  simp [State.address, h.tables]

/-- An operation that changes no order and leaves the Loop Port but for its answers. -/
theorem Follow.of_same {s t : State} (htables : t.tables = s.tables) (horder : slotOrder t = slotOrder s)
    (hloop : ∃ a b, t.loop = { s.loop with answers := a, held := b }) : Follow s t := by
  have hkeep : slotAfter [] s t = fun _ old => old := by
    funext k old
    simp [slotAfter_nil, horder]
  obtain ⟨a, b, hab⟩ := hloop
  refine ⟨htables, ?_⟩
  rw [SlotsFollow, hkeep, hab]
  simp [List.mapIdx_eq_zipIdx_map]

theorem Follow.refl (s : State) : Follow s s := .of_same rfl rfl ⟨_, _, rfl⟩

theorem Follow.of_ordersFollow {s t : State} (h : OrdersFollow s t) : Follow s t :=
  ⟨h.tables, by rw [SlotsFollow, h.loop]⟩

/-- Operations in sequence follow the orders where no order comes back to what it was. -/
theorem Follow.trans {s t u : State} (hst : Follow s t) (htu : Follow t u)
    (hone : ∀ k, slotOrder u k = slotOrder s k → slotOrder t k = slotOrder s k) : Follow s u := by
  have hslot : ∀ k old, slotAfter [] t u k (slotAfter [] s t k old) = slotAfter [] s u k old := by
    intro k old
    simp only [slotAfter_nil, hst.address]
    by_cases hm : k = 0 ∨ s.address (k + 1) ≠ 0
    · by_cases hback : slotOrder u k = slotOrder s k
      · simp [hback, hone k hback]
      · by_cases hlast : slotOrder u k = slotOrder t k
        · simp [hm, hlast, hlast ▸ hback]
        · simp [hm, hback, hlast]
    · simp [hm]
  refine ⟨htu.tables.trans hst.tables, ?_⟩
  have hloop := htu.slots
  rw [SlotsFollow, hst.slots] at hloop
  rw [SlotsFollow, hloop]
  simp [List.mapIdx_mapIdx, Function.comp_def, hslot]

/-- The order of a feeder is what its eight circuits are wanted to be. -/
theorem slotOrder_feeder (s : State) {k : Nat} (hk : k < 6) :
    slotOrder s (k + 2) = some (.feeder (positions s k)) := if_pos hk

theorem positions_eq_iff {s t : State} {k : Nat} : positions t k = positions s k ↔
    ∀ m < 8, (t.circuit (k * 8 + m)).wanted = (s.circuit (k * 8 + m)).wanted := by
  simp [positions, List.map_inj_left, Circuit.wanted]

/-! ## Operations on one circuit -/

/-- Of the circuits and of the orders the operation changes at most circuit `i` and its feeder's order, whose
slot follows it. -/
structure OneCircuit (i : Nat) (s t : State) : Prop where
  length : t.hamlet.entries.length = s.hamlet.entries.length
  others : ∀ j, j ≠ i → t.circuit j = s.circuit j
  gate : t.water.gate = s.water.gate
  saw : t.saw.order = s.saw.order
  follow : Follow s t

namespace OneCircuit

/-- An operation on other blocks, which may queue notices. -/
theorem of_same {i : Nat} {s t : State} (hentries : t.hamlet.entries = s.hamlet.entries)
    (hgate : t.water.gate = s.water.gate) (hsaw : t.saw.order = s.saw.order) (htables : t.tables = s.tables)
    (hloop : ∃ a b, t.loop = { s.loop with answers := a, held := b }) : OneCircuit i s t := by
  have hcircuit : ∀ j, t.circuit j = s.circuit j := fun j => by simp [State.circuit, hentries]
  refine ⟨by rw [hentries], fun j _ => hcircuit j, hgate, hsaw, .of_same htables ?_ hloop⟩
  funext k
  match k with
  | 0 => simp [slotOrder, hgate]
  | 1 => simp [slotOrder, hsaw]
  | k + 2 => simp [slotOrder, positions, hcircuit]

theorem refl (i : Nat) (s : State) : OneCircuit i s s := .of_same rfl rfl rfl rfl ⟨_, _, rfl⟩

/-- Operations on one circuit compose where its order does not come back to what it was. -/
theorem trans {i : Nat} {s t u : State} (hst : OneCircuit i s t) (htu : OneCircuit i t u)
    (hone : (u.circuit i).wanted = (s.circuit i).wanted → (t.circuit i).wanted = (s.circuit i).wanted) :
    OneCircuit i s u := by
  refine ⟨htu.length.trans hst.length, fun j hj => (htu.others j hj).trans (hst.others j hj),
    htu.gate.trans hst.gate, htu.saw.trans hst.saw, hst.follow.trans htu.follow fun k => ?_⟩
  match k with
  | 0 => simp [slotOrder, hst.gate]
  | 1 => simp [slotOrder, hst.saw]
  | k + 2 =>
    by_cases hk : k < 6
    · simp only [slotOrder_feeder _ hk, Option.some.injEq, Order.feeder.injEq, positions_eq_iff]
      intro h m hm
      by_cases hj : k * 8 + m = i
      · rw [hj]; exact hone (hj ▸ h m hm)
      · rw [hst.others _ hj]
    · simp [slotOrder, hk]

/-- A change of one entry that keeps the position wanted. -/
theorem modifyCircuit {i : Nat} {f : Circuit → Circuit} {s : State}
    (hf : (f (s.circuit i)).wanted = (s.circuit i).wanted) : OneCircuit i s (modifyCircuit i f s) := by
  refine ⟨by simp [Machine.modifyCircuit], fun j hj => ?_, rfl, rfl, .of_same rfl ?_ ⟨_, _, rfl⟩⟩
  · rw [circuit_modifyCircuit, if_neg (by omega)]
  · have hwanted : ∀ j, ((Machine.modifyCircuit i f s).circuit j).wanted = (s.circuit j).wanted := by
      intro j
      rw [circuit_modifyCircuit]
      split
      · rename_i h; rw [← h.1]; exact hf
      · rfl
    funext k
    match k with
    | 0 => rfl
    | 1 => rfl
    | k + 2 =>
      by_cases hk : k < 6
      · rw [slotOrder_feeder _ hk, slotOrder_feeder _ hk, positions_eq_iff.mpr fun m _ => hwanted _]
      · simp [slotOrder, hk]

/-- A move, whose slot is written where the position wanted changes. -/
theorem moveCircuit {i : Nat} (hi : i < 48) {s : State} (hlen : i < s.hamlet.entries.length)
    (st : CircuitState) : OneCircuit i s (moveCircuit i st s) := by
  have hself : (Machine.moveCircuit i st s).circuit i = (s.circuit i).move st := by
    rw [circuit_moveCircuit, if_pos ⟨rfl, hlen⟩]
  by_cases hsame : ((s.circuit i).state == .closed) = (st == .closed)
  · rw [Machine.moveCircuit, if_pos hsame]
    exact modifyCircuit hsame.symm
  · have hothers : ∀ j, j ≠ i → (Machine.moveCircuit i st s).circuit j = s.circuit j := fun j hj => by
      rw [circuit_moveCircuit, if_neg (by omega)]
    refine ⟨by simp, hothers, by simp, by simp, by simp, ?_⟩
    have hloop : (Machine.moveCircuit i st s).loop =
        (writeFeederSlot (i / 8) (Machine.modifyCircuit i (Circuit.move st) s)).loop := by
      rw [Machine.moveCircuit, if_neg hsame]
    have hpos : ∀ k, positions (Machine.modifyCircuit i (Circuit.move st) s) k =
        positions (Machine.moveCircuit i st s) k := fun k => by
      simp [positions, State.circuit, Machine.modifyCircuit]
    have hchanged : ∀ k, positions (Machine.moveCircuit i st s) k ≠ positions s k ↔ k = i / 8 := by
      intro k
      rw [Ne, positions_eq_iff]
      constructor
      · intro h
        by_contra hk
        exact h fun m hm => by rw [hothers _ (by omega)]
      · rintro rfl h
        have := h (i % 8) (by omega)
        rw [show i / 8 * 8 + i % 8 = i by omega, hself] at this
        exact hsame this.symm
    have hafter : slotAfter [] s (Machine.moveCircuit i st s) = fun k old =>
        if k = i / 8 + 2 ∧ s.address (k + 1) ≠ 0 then
          ⟨some (.feeder (positions (Machine.moveCircuit i st s) (i / 8))), true⟩ else old := by
      funext k old
      rw [slotAfter_nil]
      match k with
      | 0 => simp [slotOrder]
      | 1 => simp [slotOrder]
      | k + 2 =>
        by_cases hk : k < 6
        · rw [slotOrder_feeder _ hk, slotOrder_feeder _ hk]
          by_cases h : k = i / 8
          · subst h; simp [(hchanged (i / 8)).mpr rfl]
          · simp [h, not_not.mp (mt (hchanged k).mp h)]
        · have : k ≠ i / 8 := by omega
          simp [slotOrder, hk, this]
    rw [SlotsFollow, hafter, hloop, writeFeederSlot_loop, hpos]
    rfl

/-- After the operation another block may change, and notices may be queued. -/
theorem then_same {i : Nat} {s t u : State} (h : OneCircuit i s t) (hentries : u.hamlet.entries = t.hamlet.entries)
    (hgate : u.water.gate = t.water.gate) (hsaw : u.saw.order = t.saw.order) (htables : u.tables = t.tables)
    (hloop : ∃ a b, u.loop = { t.loop with answers := a, held := b }) : OneCircuit i s u :=
  h.trans (.of_same hentries hgate hsaw htables hloop) fun hback => by
    simpa only [State.circuit, hentries] using hback

theorem journalAppend {i : Nat} {s t : State} (h : OneCircuit i s t) (kind : JournalKind) (x : Option Nat)
    (v : Int) : OneCircuit i s (journalAppend kind x v t) := h.then_same rfl rfl rfl rfl ⟨_, _, rfl⟩

theorem raise {i : Nat} {s t : State} (h : OneCircuit i s t) (c : Condition) (x : Option Nat) :
    OneCircuit i s (raise c x t) :=
  h.then_same (by simp) (by simp) (by simp) (by simp) ⟨_, _, raise_loop c x t⟩

theorem mapShed {i : Nat} {s t : State} (h : OneCircuit i s t) (f : Shedding → Shedding) :
    OneCircuit i s (t.mapShed f) := h.then_same rfl rfl rfl rfl ⟨_, _, rfl⟩

end OneCircuit

/-! ## The record of a move and of an append -/

/-- A move of a circuit changes only the hamlet and slots. -/
theorem moveCircuit_agree (i : Nat) (st : CircuitState) (s : State) : RecordAgree s (moveCircuit i st s) := by
  refine .of_slots (by simp) (by simp) ?_ (by simp) (by simp)
  rw [moveCircuit]
  dsimp only
  split
  · exact ⟨_, rfl⟩
  · exact ⟨_, writeFeederSlot_loop _ _⟩

theorem modifyCircuit_agree (i : Nat) (f : Circuit → Circuit) (s : State) : RecordAgree s (modifyCircuit i f s) :=
  .of_loop rfl rfl rfl rfl rfl

/-- A taken append leaves the record of R115. -/
theorem appendTaken_agree (i : Nat) (cause : ShedCause) (s : State) :
    RecordAgree (appended i cause s) (appendTaken i cause s) := by
  have hagree : RecordAgree { s with
      shed := { s.shed with
        list := s.shed.list ++ [⟨i, cause, (s.circuit i).reading, s.secondOfDay⟩], restoreTimer := none }
      journal := s.journal.push s.time.clock .shed (some i) cause.code }
      (journalAppend .shed (some i) cause.code (moveCircuit i .shed
        (pushShed ⟨i, cause, (s.circuit i).reading, s.secondOfDay⟩ s))) :=
    ((moveCircuit_agree i .shed (pushShed ⟨i, cause, (s.circuit i).reading, s.secondOfDay⟩ s)).journalAppend
      .shed (some i) cause.code)
  rw [appended, appendTaken]
  by_cases h : s.shed.list = []
  · simpa only [h, if_true, List.isEmpty_nil] using hagree.raise .shedActive none
  · simpa only [h, if_false, List.isEmpty_eq_false_iff.mpr h, Bool.false_eq_true] using hagree

/-- A taken append of a circuit of the hamlet. -/
theorem appendTaken_oneCircuit {i : Nat} (hi : i < 48) {s : State} (hlen : i < s.hamlet.entries.length)
    (cause : ShedCause) : OneCircuit i s (appendTaken i cause s) := by
  have hpush := (OneCircuit.refl i s).mapShed fun l => { l with
    list := l.list ++ [⟨i, cause, (s.circuit i).reading, s.secondOfDay⟩], restoreTimer := none }
  have hmove := (hpush.trans (OneCircuit.moveCircuit hi (by exact hlen) .shed) fun _ => rfl).journalAppend
    .shed (some i) cause.code
  rw [appendTaken]
  split
  · exact hmove.raise .shedActive none
  · exact hmove

/-- The append of an open circuit to a list that holds others changes hamlet, list and journal alone. -/
theorem appendTaken_of_open {i : Nat} {cause : ShedCause} {s : State} (hopen : (s.circuit i).state ≠ .closed)
    (hlist : s.shed.list ≠ []) : appendTaken i cause s =
      journalAppend .shed (some i) cause.code (modifyCircuit i (Circuit.move .shed)
        (pushShed ⟨i, cause, (s.circuit i).reading, s.secondOfDay⟩ s)) := by
  have hmove : moveCircuit i .shed (pushShed ⟨i, cause, (s.circuit i).reading, s.secondOfDay⟩ s) =
      modifyCircuit i (Circuit.move .shed) (pushShed ⟨i, cause, (s.circuit i).reading, s.secondOfDay⟩ s) := by
    refine if_pos ?_
    simpa [pushShed] using hopen
  rw [appendTaken, hmove]
  exact if_neg (by simpa using hlist)

/-! ## The positions that a circuit passes to -/

/-- To DARK, OFF, LOCKED or SHED from a state other than CLOSED. -/
theorem move_of_open {st : CircuitState} {c : Circuit} (hc : c.state ≠ .closed) (hst : st ≠ .closed)
    (hlimit : st ≠ .limitOpen) : c.move st = { c with state := st, reclose := none } := by
  simp [Circuit.move, hc, hst, hlimit]

/-- To CLOSED from another state. -/
theorem move_closed {c : Circuit} (hc : c.state ≠ .closed) :
    c.move .closed = { c with state := .closed, disagree := 0, reclose := none } := by
  simp [Circuit.move, hc]

/-- From CLOSED to another state. -/
theorem move_of_closed {st : CircuitState} {c : Circuit} (hc : c.state = .closed) (hst : st ≠ .closed) :
    c.move st = { c with
      state := st, overCount := 0, disagree := 0, reclose := if st = .limitOpen then c.reclose else none } := by
  simp [Circuit.move, hc, hst]

/-- A move reads the same at its own circuit. -/
theorem circuit_moveCircuit_self {i : Nat} {s : State} (hlen : i < s.hamlet.entries.length) (st : CircuitState) :
    (moveCircuit i st s).circuit i = (s.circuit i).move st := by
  rw [circuit_moveCircuit, if_pos ⟨rfl, hlen⟩]

theorem circuit_modifyCircuit_self {i : Nat} {s : State} (hlen : i < s.hamlet.entries.length)
    (f : Circuit → Circuit) : (modifyCircuit i f s).circuit i = f (s.circuit i) := by
  rw [circuit_modifyCircuit, if_pos ⟨rfl, hlen⟩]

theorem circuit_appendTaken_self {i : Nat} {s : State} (hlen : i < s.hamlet.entries.length) (cause : ShedCause) :
    (appendTaken i cause s).circuit i = (s.circuit i).move .shed := by
  rw [circuit_appendTaken, if_pos ⟨rfl, hlen⟩]

/-! ## The reclose (R99) -/

/-- A LIMIT_OPEN circuit whose reclose is journalled with the state that follows. -/
def reclosing (i : Nat) (st : CircuitState) (s : State) : State :=
  journalAppend .reclose (some i) st.code (modifyCircuit i (fun c => { c with reclose := none }) s)

theorem reclosing_oneCircuit (i : Nat) (st : CircuitState) (s : State) : OneCircuit i s (reclosing i st s) :=
  (OneCircuit.modifyCircuit rfl).journalAppend .reclose (some i) st.code

theorem circuit_reclosing {i : Nat} {s : State} (hlen : i < s.hamlet.entries.length) (st : CircuitState) :
    (reclosing i st s).circuit i = { s.circuit i with reclose := none } := circuit_modifyCircuit_self hlen _

/-- A reclose that closes the circuit. -/
theorem recloseExpires_of_closes {i : Nat} {s : State} (hlen : i < s.hamlet.entries.length)
    (hstate : (s.circuit i).state = .limitOpen) (h : (s.circuit i).tier = 0 ∨ s.shed.list = []) :
    recloseExpires i s = moveCircuit i .closed (reclosing i .closed s) := by
  have hcode : (decide ((s.circuit i).tier = 0) || s.shed.list.isEmpty) = true := by simpa using h
  rw [recloseExpires, if_pos hstate, hcode]
  exact if_pos (h.imp_left (congrArg Circuit.tier (circuit_reclosing hlen .closed)).trans)

/-- A reclose that sheds the circuit. -/
theorem recloseExpires_of_sheds {i : Nat} {s : State} (hlen : i < s.hamlet.entries.length)
    (hstate : (s.circuit i).state = .limitOpen) (htier : 1 ≤ (s.circuit i).tier) (hlist : s.shed.list ≠ [])
    (hrun : s.plant.state = .run) (hfree : s.listed i = false) :
    recloseExpires i s = appendTaken i .frequency (reclosing i .shed s) := by
  have hcircuit := circuit_reclosing hlen .shed
  have hcode : (decide ((s.circuit i).tier = 0) || s.shed.list.isEmpty) = false := by
    simpa [hlist] using Nat.ne_of_gt htier
  rw [recloseExpires, if_pos hstate, hcode]
  have hplace : placeReclosed i (reclosing i .shed s) = appendRequest i .frequency (reclosing i .shed s) :=
    if_neg (by rw [hcircuit]; exact not_or.mpr ⟨Nat.ne_of_gt htier, hlist⟩)
  have htaken : appendRequest i .frequency (reclosing i .shed s) =
      appendTaken i .frequency (reclosing i .shed s) := by
    refine if_pos ?_
    rw [hcircuit]
    simpa [reclosing, State.inPlant, modifyCircuit, hrun, State.listed, htier] using hfree
  exact hplace.trans htaken

/-- Settles O46. -/
theorem reclose : Obligations.Reclose := by
  intro i s hi hlen c
  have hlt : i < s.hamlet.entries.length := by omega
  have hlt' : ∀ st, i < (reclosing i st s).hamlet.entries.length := fun st =>
    (reclosing_oneCircuit i st s).length ▸ hlt
  refine ⟨fun hnot => congrArg Host.Outcome.next (if_neg hnot), fun hstate hcloses => ?closes,
    fun hstate htier hlist hrun hfree => ?sheds⟩
  case closes =>
    have hone : OneCircuit i s (moveCircuit i .closed (reclosing i .closed s)) :=
      (reclosing_oneCircuit i .closed s).trans (.moveCircuit hi (hlt' .closed) .closed) fun _ => by
        rw [circuit_reclosing hlt]; rfl
    refine ⟨_, congrArg Host.Outcome.next (recloseExpires_of_closes hlt hstate hcloses), ?_,
      fun j _ hj => hone.others j hj, ?_, hone.follow.slots, ?_⟩
    · rw [circuit_moveCircuit_self (hlt' .closed), circuit_reclosing hlt, move_closed (by simp [c, hstate])]
    · exact (((modifyCircuit_agree i _ s).journalAppend .reclose (some i) 2).trans
        (moveCircuit_agree i .closed _)).sameRecord
    · intro b hb
      cases b <;> simp_all [Block.same, reclosing, modifyCircuit]
  case sheds =>
    have hone : OneCircuit i s (appendTaken i .frequency (reclosing i .shed s)) :=
      (reclosing_oneCircuit i .shed s).trans (appendTaken_oneCircuit hi (hlt' .shed) .frequency) fun _ => by
        rw [circuit_reclosing hlt]; rfl
    have hreading : ((reclosing i .shed s).circuit i).reading = c.reading := by rw [circuit_reclosing hlt]
    refine ⟨_, congrArg Host.Outcome.next (recloseExpires_of_sheds hlt hstate htier hlist hrun hfree), ?_, ?_, ?_,
      fun j _ hj => hone.others j hj, ?_⟩
    · rw [circuit_appendTaken_self (hlt' .shed), circuit_reclosing hlt,
        move_of_open (by simp [c, hstate]) (by decide) (by decide)]
    · rw [appendTaken_shed, hreading]
      rfl
    · rw [(appendTaken_agree i .frequency (reclosing i .shed s)).journal, appended,
        if_neg (show (reclosing i .shed s).shed.list ≠ [] from hlist)]
      rfl
    · have hopen : ((reclosing i .shed s).circuit i).state ≠ .closed := by
        rw [circuit_reclosing hlt]; simp [c, hstate]
      rw [appendTaken_of_open hopen hlist]
      intro b hb
      cases b <;> simp_all [Block.same, reclosing, modifyCircuit, pushShed]

end Sys2Proof.Proofs
end

section
namespace Sys2Proof.Proofs
open Sys2Proof.Machine Sys2Proof.Safety

/-! ## A limiter trip (R98) -/

/-- The strike window has passed exactly where no strikes are being counted. -/
theorem windowPassed_eq (s : State) (c : Circuit) :
    c.windowPassed s.time.count (s.setting Setting.STRIKE_WINDOW) = !strikesCount s c := by
  cases hw : c.windowStart with
  | none => simp [Circuit.windowPassed, strikesCount, hw]
  | some w =>
    simp only [Circuit.windowPassed, strikesCount, hw, Bool.not_and, bne, Bool.not_not, ← decide_not, Nat.not_lt]

/-- The strike of a trip (R98). -/
theorem strike_eq (s : State) (c : Circuit) :
    c.strike s.time.count (s.setting Setting.STRIKE_WINDOW) = { c with
      strikes := (struck s c).strikes, windowStart := (struck s c).windowStart } := by
  rw [Circuit.strike, windowPassed_eq]
  cases h : strikesCount s c <;> simp [struck, h]

/-- A struck circuit, by its strikes. -/
theorem struck_eq (s : State) (c : Circuit) : struck s c = { c with
    strikes := (struck s c).strikes, windowStart := (struck s c).windowStart, overCount := 0, disagree := 0
    state := if s.setting Setting.STRIKE_LIMIT ≤ (struck s c).strikes then .locked else .limitOpen
    reclose := if s.setting Setting.STRIKE_LIMIT ≤ (struck s c).strikes then none
      else some (s.setting Setting.RECLOSE_DELAY) } := by
  simp [struck]

/-- The state of the circuit decides between the two forms of a trip. -/
theorem struck_state (s : State) (c : Circuit) : (struck s c).state =
    if s.setting Setting.STRIKE_LIMIT ≤ (struck s c).strikes then .locked else .limitOpen := by
  simp [struck]

/-- What a limiter trip leaves in conditions and journal (R98). -/
def tripRecord (i reading : Nat) (c' : Circuit) (r : State) : State :=
  if c'.state = .locked then
    raise .lockout none { r with journal := r.journal.push r.time.clock .lockout (some i) c'.strikes }
  else { r with journal := r.journal.push r.time.clock .limitTrip (some i) reading }

/-- A limiter trip of a CLOSED circuit: the entry, its feeder's slot, and the record. -/
structure TripTaken (i reading : Nat) (s t : State) : Prop where
  entry : t.circuit i = struck s (s.circuit i)
  one : OneCircuit i s t
  record : RecordAgree (tripRecord i reading (struck s (s.circuit i)) s) t
  kept : KeptBut [.hamlet, .conds, .journal, .loop] s t

theorem limiterTrips_taken {i : Nat} (hi : i < 48) (reading : Nat) {s : State} (hlen : i < s.hamlet.entries.length)
    (hclosed : (s.circuit i).state = .closed) : TripTaken i reading s (limiterTrips i reading s) := by
  obtain ⟨s1, hs1⟩ : ∃ s1, s1 = modifyCircuit i
      (Circuit.strike s.time.count (s.setting Setting.STRIKE_WINDOW)) s := ⟨_, rfl⟩
  have hentry : s1.circuit i = { s.circuit i with
      strikes := (struck s (s.circuit i)).strikes, windowStart := (struck s (s.circuit i)).windowStart } := by
    rw [hs1, circuit_modifyCircuit_self hlen, strike_eq]
  have hone : OneCircuit i s s1 := hs1 ▸ .modifyCircuit (by rw [strike_eq]; rfl)
  have hlen1 : i < s1.hamlet.entries.length := hone.length ▸ hlen
  have hagree : RecordAgree s s1 := hs1 ▸ modifyCircuit_agree i _ s
  have hclosed1 : (s1.circuit i).state = .closed := by rw [hentry]; exact hclosed
  have hset : s1.setting Setting.RECLOSE_DELAY = s.setting Setting.RECLOSE_DELAY := by rw [hs1]; rfl
  have hstate := struck_state s (s.circuit i)
  have htrip : limiterTrips i reading s =
      if s.setting Setting.STRIKE_LIMIT ≤ (struck s (s.circuit i)).strikes then lockOut i s1
      else limitOpen i reading s1 := by
    rw [limiterTrips, ← hs1, hentry]
  rw [htrip]
  by_cases hlock : s.setting Setting.STRIKE_LIMIT ≤ (struck s (s.circuit i)).strikes
  · rw [if_pos hlock] at hstate ⊢
    have hmove := hone.trans (.moveCircuit hi hlen1 .locked) fun _ => by rw [hentry]; rfl
    refine ⟨?_, (hmove.journalAppend _ _ _).raise _ _, ?_, ?_⟩
    · refine Eq.trans (b := (moveCircuit i .locked s1).circuit i) (by simp [lockOut, State.circuit]) ?_
      rw [circuit_moveCircuit_self hlen1, move_of_closed hclosed1 (by decide), hentry, struck_eq s (s.circuit i),
        if_pos hlock, if_pos hlock]
      rfl
    · rw [tripRecord, if_pos hstate]
      have := (hagree.trans (moveCircuit_agree i .locked s1)).journalAppend .lockout (some i)
        (struck s (s.circuit i)).strikes
      rw [lockOut, hentry]
      exact this.raise .lockout none
    · subst hs1
      intro b hb
      cases b <;> simp_all [Block.same, lockOut, modifyCircuit]
  · rw [if_neg hlock] at hstate ⊢
    have hmove := hone.trans (.moveCircuit hi hlen1 .limitOpen) fun _ => by rw [hentry]; rfl
    have hlen2 : i < (moveCircuit i .limitOpen s1).hamlet.entries.length := hmove.length ▸ hlen
    refine ⟨?_, (hmove.trans (.modifyCircuit rfl) fun hback => hback ▸ by rw [circuit_modifyCircuit_self hlen2]; rfl).journalAppend _ _ _, ?_, ?_⟩
    · refine Eq.trans (circuit_modifyCircuit_self hlen2 _) ?_
      rw [circuit_moveCircuit_self hlen1, move_of_closed hclosed1 (by decide), hentry, struck_eq s (s.circuit i),
        if_neg hlock, if_neg hlock, hset]
    · rw [tripRecord, if_neg (by simp [hstate])]
      exact ((hagree.trans (moveCircuit_agree i .limitOpen s1)).trans (modifyCircuit_agree i _ _)).journalAppend
        .limitTrip (some i) reading
    · subst hs1
      intro b hb
      cases b <;> simp_all [Block.same, limitOpen, modifyCircuit]

/-- Settles O45. -/
theorem limitTrip : Obligations.LimitTrip := by
  intro i reading s hi hlen c fresh
  refine ⟨fun hnot => congrArg Host.Outcome.next (if_neg hnot), fun hclosed hwindow => ?_⟩
  have ⟨hentry, hone, hrecord, hkept⟩ := limiterTrips_taken hi reading (hlen ▸ hi) hclosed
  have hfresh : strikesCount s c = false ↔ fresh := by
    cases hw : c.windowStart with
    | none => simp [strikesCount, fresh, hw, hwindow.mpr hw]
    | some w =>
      have hne : c.strikes ≠ 0 := fun h => by simp [hwindow.mp h] at hw
      simp only [strikesCount, fresh, hw, hne, Option.some.injEq, exists_eq_left', false_or]
      rw [show (c.strikes != 0) = true by simpa using hne]
      simp only [Bool.true_and, decide_eq_false_iff_not, Nat.not_lt]
  refine ⟨_, (struck s c).strikes, (struck s c).windowStart,
    congrArg Host.Outcome.next (if_pos hclosed), fun h => ?_, fun h => ?_, hentry.trans (struck_eq s c),
    fun j _ hj => hone.others j hj, ?_, hone.follow.slots, hkept⟩
  · simp [struck, hfresh.mpr h]
  · simp [struck, Bool.eq_true_of_not_eq_false (mt hfresh.mp h)]
  · have hlocked : (struck s (s.circuit i)).state = .locked ↔
        s.setting Setting.STRIKE_LIMIT ≤ (struck s (s.circuit i)).strikes := by
      rw [struck_state]; split <;> simp_all
    have := hrecord.sameRecord
    simpa only [tripRecord, hlocked] using this

/-! ## Breaker agreement (R104) -/

theorem modify_eq_set {α : Type} (l : List α) (i : Nat) (f : α → α) (d : α) (h : i < l.length) :
    l.modify i f = l.set i (f (l.getD i d)) := by
  rw [List.modify_eq_set_getElem?, List.getElem?_eq_getElem h, List.getD_eq_getElem _ _ h]
  rfl

theorem modifyCircuit_eq_set {i : Nat} {s : State} (h : i < s.hamlet.entries.length) (f : Circuit → Circuit) :
    modifyCircuit i f s = { s with hamlet := { s.hamlet with
      entries := s.hamlet.entries.set i (f (s.circuit i)) } } := by
  rw [modifyCircuit, State.mapHamlet, modify_eq_set _ _ _ _ h]
  rfl

theorem setDisagree_eq {i n : Nat} {s : State} (h : i < s.hamlet.entries.length) :
    setDisagree i n s = { s with hamlet := { s.hamlet with
      entries := s.hamlet.entries.set i { s.circuit i with disagree := n } } } := modifyCircuit_eq_set h _

/-- A report of the position wanted agrees, the other one counts (R104). -/
theorem agreementCheck_eq (i : Nat) {r : BreakerReport} (hr : r = .opened ∨ r = .closed) (s : State) :
    agreementCheck i r s = if r = .closed ↔ (s.circuit i).state = .closed then setDisagree i 0 s
      else countDisagree i s := by
  have hwanted : (s.circuit i).wanted = true ↔ (s.circuit i).state = .closed := by simp [Circuit.wanted]
  rcases hr with rfl | rfl <;> by_cases h : (s.circuit i).state = .closed <;> simp [agreementCheck, hwanted, h]

/-- Settles O47. -/
theorem breakerAgreement : Obligations.BreakerAgreement := by
  intro i s hi hlen c with_ wanted other
  have hlt : i < s.hamlet.entries.length := by omega
  have hset : ∀ n, setDisagree i n s = with_ n := fun n => setDisagree_eq hlt
  refine ⟨fun habsent r => congrArg Host.Outcome.next (if_pos habsent), fun hpresent => ?_⟩
  have hexec : ∀ r, exec (.breakerDisagree i r) s = .next (agreementCheck i r s) := fun r =>
    congrArg Host.Outcome.next (if_neg hpresent)
  have hwanted : agreementCheck i wanted s = with_ 0 := by
    have hr : wanted = .opened ∨ wanted = .closed := by dsimp only [wanted]; split <;> simp
    rw [agreementCheck_eq i hr, if_pos (by dsimp only [wanted]; split <;> simp_all [c]), hset]
  have hother : agreementCheck i other s = countDisagree i s := by
    have hr : other = .opened ∨ other = .closed := by dsimp only [other]; split <;> simp
    rw [agreementCheck_eq i hr, if_neg (by dsimp only [other]; split <;> simp_all [c])]
  simp only [hexec, hwanted, hother, Host.Outcome.next.injEq, true_and]
  refine ⟨congrArg (raise .breakerDisagree (some i)) (hset 3), fun hlow => ?_, fun htwo => ?_, fun hstands => ?_⟩
  · rw [countDisagree, if_pos (show c.disagree < 3 by omega), if_neg (show ¬c.disagree + 1 = 3 by omega), hset]
  · rw [countDisagree, if_pos (show c.disagree < 3 by omega), if_pos (show c.disagree + 1 = 3 by omega), hset,
      show (s.circuit i).disagree + 1 = 3 from congrArg (· + 1) htwo]
  · exact if_neg (show ¬c.disagree < 3 by omega)

/-! ## The shed candidate (R116) -/

/-- The circuit of the entry may be shed at this floor. -/
def Sheddable (floor : Nat) (c : Circuit) : Prop := c.state = .closed ∧ floor ≤ c.tier

/-- What the search has found in the circuits it has passed: the best of the sheddable ones, if there are any. -/
def BestOf (floor : Nat) (passed : List (Circuit × Nat)) : Option (Nat × Nat) → Prop
  | none => ∀ x ∈ passed, ¬Sheddable floor x.1
  | some (t, i) => (∃ x ∈ passed, Sheddable floor x.1 ∧ x.1.tier = t ∧ x.2 = i) ∧
      ∀ x ∈ passed, Sheddable floor x.1 → x.1.tier < t ∨ (x.1.tier = t ∧ x.2 ≤ i)

/-- The next circuit, of a higher index than those passed, is weighed against the best so far. -/
theorem bestOf_betterShed {floor : Nat} {passed : List (Circuit × Nat)} {best : Option (Nat × Nat)}
    {x : Circuit × Nat} (hbest : BestOf floor passed best) (hindex : ∀ y ∈ passed, y.2 ≤ x.2) :
    BestOf floor (passed ++ [x]) (betterShed floor best x) := by
  have hsplit : ∀ y ∈ passed ++ [x], y ∈ passed ∨ y = x := fun y hy => by simpa using hy
  have hlast : x ∈ passed ++ [x] := by simp
  by_cases hx : Sheddable floor x.1
  · unfold betterShed
    rw [if_pos (by exact hx)]
    cases best with
    | none =>
      refine ⟨⟨x, hlast, hx, rfl, rfl⟩, fun y hy hshed => ?_⟩
      rcases hsplit y hy with hy | rfl
      · exact absurd hshed (hbest y hy)
      · exact .inr ⟨rfl, Nat.le_refl _⟩
    | some b =>
      obtain ⟨t, i⟩ := b
      obtain ⟨⟨y, hy, hyshed, hytier, hyindex⟩, hall⟩ := hbest
      dsimp only
      split
      · rename_i hle
        refine ⟨⟨x, hlast, hx, rfl, rfl⟩, fun z hz hshed => ?_⟩
        rcases hsplit z hz with hz | rfl
        · have := hindex z hz
          rcases hall z hz hshed with h | h <;> omega
        · exact .inr ⟨rfl, Nat.le_refl _⟩
      · rename_i hlt
        refine ⟨⟨y, List.mem_append_left _ hy, hyshed, hytier, hyindex⟩, fun z hz hshed => ?_⟩
        rcases hsplit z hz with hz | rfl
        · exact hall z hz hshed
        · exact .inl (by omega)
  · unfold betterShed
    rw [if_neg (by exact hx)]
    cases best with
    | none =>
      intro y hy
      rcases hsplit y hy with hy | rfl
      · exact hbest y hy
      · exact hx
    | some b =>
      obtain ⟨⟨y, hy, hyshed⟩, hall⟩ := hbest
      refine ⟨⟨y, List.mem_append_left _ hy, hyshed⟩, fun z hz hshed => ?_⟩
      rcases hsplit z hz with hz | rfl
      · exact hall z hz hshed
      · exact absurd hshed hx

/-- The search over a list of circuits finds the best of them. -/
theorem bestOf_foldl {floor : Nat} (xs : List (Circuit × Nat)) : ∀ {passed : List (Circuit × Nat)}
    {best : Option (Nat × Nat)}, BestOf floor passed best →
    (passed ++ xs).Pairwise (fun y x => y.2 ≤ x.2) →
    BestOf floor (passed ++ xs) (xs.foldl (betterShed floor) best) := by
  induction xs with
  | nil => intro passed best hbest _; simpa using hbest
  | cons x xs ih =>
    intro passed best hbest hsorted
    rw [show passed ++ x :: xs = (passed ++ [x]) ++ xs by simp] at hsorted ⊢
    refine ih (bestOf_betterShed hbest fun y hy => ?_) hsorted
    obtain ⟨hpassed, -, -⟩ := List.pairwise_append.mp hsorted
    exact (List.pairwise_append.mp hpassed).2.2 y hy x (by simp)

/-- Settles O49, by the search's invariant at its end. -/
theorem shedCandidate : Obligations.ShedCandidate := by
  intro cs floor
  have hsorted : ([] ++ cs.zipIdx : List (Circuit × Nat)).Pairwise (fun y x => y.2 ≤ x.2) := by
    rw [List.nil_append, ← List.pairwise_map (f := fun x : Circuit × Nat => x.2) (R := (· ≤ ·)),
      show (fun x : Circuit × Nat => x.2) = Prod.snd from rfl, List.zipIdx_map_snd]
    exact List.pairwise_le_range'
  have hbest : BestOf floor cs.zipIdx (cs.zipIdx.foldl (betterShed floor) none) :=
    bestOf_foldl cs.zipIdx (passed := []) (fun _ h => absurd h (by simp)) hsorted
  have hmem : ∀ {c i}, (c, i) ∈ cs.zipIdx ↔ cs[i]? = some c := List.mem_zipIdx_iff_getElem?
  cases hfound : cs.zipIdx.foldl (betterShed floor) none with
  | none =>
    rw [hfound] at hbest
    have hnone : Machine.shedCandidate floor cs = none := by rw [Machine.shedCandidate, hfound]; rfl
    refine ⟨iff_of_true hnone fun c hc => ?_, fun i hi => by simp [hnone] at hi⟩
    obtain ⟨i, hi⟩ := List.mem_iff_getElem?.mp hc
    exact hbest (c, i) (hmem.mpr hi)
  | some b =>
    obtain ⟨t, i⟩ := b
    rw [hfound] at hbest
    obtain ⟨⟨⟨c, k⟩, hc, hshed, rfl, rfl⟩, hall⟩ := hbest
    have hsome : Machine.shedCandidate floor cs = some k := by rw [Machine.shedCandidate, hfound]; rfl
    refine ⟨iff_of_false (by simp [hsome]) fun h => h c (List.mem_of_getElem? (hmem.mp hc)) hshed,
      fun i hi => ?_⟩
    obtain rfl : k = i := by simpa [hsome] using hi
    exact ⟨c, hmem.mp hc, hshed.1, hshed.2, fun j x hx hclosed htier => hall (x, j) (hmem.mpr hx) ⟨hclosed, htier⟩⟩

end Sys2Proof.Proofs
end

section
namespace Sys2Proof.Proofs
open Sys2Proof.Machine Sys2Proof.Safety

/-! ## Raises and cause ends (R157 to R159) -/

/-- The sequence number that an append gives to its entry (R163). -/
theorem push_next (j : Journal) (time : Option DayClock) (kind : JournalKind) (x : Option Nat) (v : Int) :
    (j.push time kind x v).next = (if j.next = 4294967295 then 1 else j.next) + 1 := by
  rw [Journal.push]; split <;> simp_all

/-- The notice enables are written by SET NOTICES alone. -/
theorem notice_mapConds_modify (c d : Condition) {f : CondCell → CondCell} (hf : ∀ x, (f x).notice = x.notice)
    (s : State) : ((s.mapConds fun cs => cs.modify d.num f).cond c).notice = (s.cond c).notice := by
  rw [State.cond, State.mapConds_conds, getD_modify]
  split
  · rw [hf]; rfl
  · rfl

/-- The Loop Port after a raise: the notice at the tail of the answer queue, where one is queued. -/
theorem raise_loop_eq (c : Condition) (x : Option Nat) (s : State) : (raise c x s).loop =
    if (s.cond c).flag = false ∧ (s.cond c).notice = true ∧ s.setting Setting.NOTICE_ADDRESS ≠ 0 ∧
        s.answerRoom = true then
      { s.loop with answers := s.loop.answers ++ [noticeFrame s.loop.ownAddress
        (s.setting Setting.NOTICE_ADDRESS) c x (if s.journal.next = 4294967295 then 1 else s.journal.next)] }
    else s.loop := by
  cases hflag : (s.cond c).flag with
  | true => simp [raise_of_set hflag]
  | false =>
    obtain ⟨t, ht⟩ : ∃ t, t = journalAppend .condition x c.num (setFlag c x (markCause c s)) := ⟨_, rfl⟩
    have hnotice : (t.cond c).notice = (s.cond c).notice := by
      rw [ht]
      exact (notice_mapConds_modify c c (by intro; rfl) _).trans (notice_mapConds_modify c c (by intro; rfl) s)
    have hloop : t.loop = s.loop := by rw [ht]; rfl
    have htables : t.tables = s.tables := by rw [ht]; rfl
    have hroom : t.answerRoom = s.answerRoom := by rw [State.answerRoom, State.answerRoom, hloop]
    have hset : t.setting Setting.NOTICE_ADDRESS = s.setting Setting.NOTICE_ADDRESS := setting_congr htables _
    have hseq : t.journal.next - 1 = if s.journal.next = 4294967295 then 1 else s.journal.next := by
      rw [ht, journalAppend_journal, push_next, Nat.add_sub_cancel]
      rfl
    rw [raise_of_clear hflag, ← ht, offerNotice, hnotice, hset, hroom, apply_ite State.loop, State.mapLoop_loop,
      hseq, hloop]
    simp [and_assoc]

/-- The journal after a raise: a CONDITION entry at the first raise since the last acknowledgement. -/
theorem raise_journal_eq (c : Condition) (x : Option Nat) (s : State) : (raise c x s).journal =
    if (s.cond c).flag then s.journal else s.journal.push s.time.clock .condition x c.num := by
  cases hflag : (s.cond c).flag with
  | true => simp [raise_of_set hflag]
  | false => simp [raise_of_clear hflag]

/-- The cell of a raised condition. -/
theorem raise_cond_eq (c : Condition) (x : Option Nat) {s : State} (h : s.conds.length = 25) :
    (raise c x s).cond c = { s.cond c with
      flag := true, cause := persistentNum c.num || (s.cond c).cause
      subject := if (s.cond c).flag then (s.cond c).subject else x } := by
  obtain ⟨hflag, hcause, hnotice, hsubject⟩ := raise_cond_self c x s h
  cases hcell : (raise c x s).cond c
  simp_all

/-- A cause end leaves the other conditions. -/
theorem causeEnd_cond_ne {c d : Condition} (h : d ≠ c) (s : State) : (causeEnd c s).cond d = s.cond d :=
  getD_modify_ne _ _ _ _ _ fun e => h (Condition.num_inj e).symm

/-- Settles O60. -/
theorem raiseAndCauseEnd : Obligations.RaiseAndCauseEnd := by
  intro c x s hlength
  refine ⟨raise_cond_eq c x hlength, fun d hd => raise_cond_ne c d x s hd.symm, raise_journal_eq c x s, ?loop,
    fun b hb => ?kept, causeEnd_cond_self c s hlength, fun d hd => causeEnd_cond_ne hd s, fun b hb => ?ended⟩
  case loop => exact ⟨fun h => (raise_loop_eq c x s).trans (if_pos h), fun h => (raise_loop_eq c x s).trans (if_neg h)⟩
  case kept => cases b <;> simp_all [Block.same]
  case ended => cases b <;> simp_all [Block.same]

/-! ## Answers (R173, R176) -/

/-- A request that finds a place is answered in it with what its owner replies. -/
theorem serve_eq_answered {s m : State} {owner : State → Reply} {outcome : ReqOutcome} {data : List Byte}
    (src : Byte) (tag : Word16) (code : Nat) (hroom : s.answerRoom = true)
    (h : owner (holding s) = ⟨m, outcome, data⟩) :
    serve src tag code owner s = answered src tag code outcome data m := by
  rw [serve_of_answerRoom src tag code owner hroom, h]
  rfl

/-- An answer frees the place that the request held. -/
theorem serve_eq_answered_of_holding {s m : State} {owner : State → Reply} {outcome : ReqOutcome}
    {data : List Byte} (src : Byte) (tag : Word16) (code : Nat) (hroom : s.answerRoom = true)
    (h : owner (holding s) = ⟨holding m, outcome, data⟩) :
    serve src tag code owner s = answered src tag code outcome data m :=
  (serve_eq_answered src tag code hroom h).trans rfl

/-! ## Sets as numbers (R184) -/

/-- Adding one more member to a set. -/
theorem bitsOf_succ (n : Nat) (p : Nat → Bool) :
    bitsOf (n + 1) p = if p n then bitsOf n p + 2 ^ n else bitsOf n p := by
  rw [bitsOf, List.range_succ, List.foldl_append]
  rfl

theorem bitsOf_congr {n : Nat} {p q : Nat → Bool} (h : ∀ k < n, p k = q k) : bitsOf n p = bitsOf n q := by
  induction n with
  | zero => rfl
  | succ n ih => rw [bitsOf_succ, bitsOf_succ, ih fun k hk => h k (by omega), h n (by omega)]

/-- The least member aside, a set is that of the others, doubled. -/
theorem bitsOf_succ_left (n : Nat) (p : Nat → Bool) :
    bitsOf (n + 1) p = (if p 0 then 1 else 0) + 2 * bitsOf n fun k => p (k + 1) := by
  induction n with
  | zero => rw [bitsOf_succ]; cases p 0 <;> rfl
  | succ n ih =>
    rw [bitsOf_succ, ih, bitsOf_succ n fun k => p (k + 1)]
    cases p (n + 1) with
    | false => rfl
    | true => simp only [if_true, Nat.pow_succ]; omega

/-- The number of a set of members in order. -/
theorem setBits_eq_bitsOf (l : List Bool) : setBits l = bitsOf l.length fun k => l.getD k false := by
  induction l with
  | nil => rfl
  | cons b l ih =>
    rw [List.length_cons, bitsOf_succ_left]
    exact congrArg (fun n => (if b then 1 else 0) + 2 * n) ih

/-! ## ACKNOWLEDGE and SET NOTICES (R160, R161) -/

/-- A list worked on by index, as a function of the index. -/
theorem mapIdx_eq_range {α β : Type} (l : List α) (f : Nat → α → β) (d : α) :
    l.mapIdx f = (List.range l.length).map fun n => f n (l.getD n d) := by
  refine List.ext_getElem (by simp) fun n h _ => ?_
  have hn : n < l.length := by simpa using h
  simp [hn]

theorem setBits_map_range (n : Nat) (f : Nat → Bool) : setBits ((List.range n).map f) = bitsOf n f := by
  rw [setBits_eq_bitsOf, List.length_map, List.length_range]
  exact bitsOf_congr fun k hk => by simp [List.getD_eq_getElem?_getD, hk]

/-- Settles O56. -/
theorem acknowledgeAndNotices : Obligations.AcknowledgeAndNotices := by
  intro src tag set s hroom hlength cell active
  have hactive : ∀ n, (cell n).stillActive n = active n := fun n => by
    simp [CondCell.stillActive, persistentNum, active, Bool.and_assoc]
  have hcells : ∀ f : Nat → CondCell → CondCell, s.conds.mapIdx f = (List.range 25).map fun n => f n (cell n) :=
    fun f => by rw [mapIdx_eq_range _ _ ⟨false, false, false, none⟩, hlength]
  have hacknowledged : ∀ n, (if set.getLsbD n then (cell n).acknowledged n else cell n) =
      if set.getLsbD n && (cell n).flag && !active n then { cell n with flag := false, subject := none }
      else cell n := fun n => by
    rw [CondCell.acknowledged, hactive]
    cases set.getLsbD n <;> simp
  have hall : acknowledgeAll set s.conds = (List.range 25).map fun n =>
      if set.getLsbD n && (cell n).flag && !active n then { cell n with flag := false, subject := none }
      else cell n := by
    rw [acknowledgeAll, hcells]
    exact List.map_congr_left fun n _ => hacknowledged n
  have hstill : activeSet set s.conds = bitsOf 25 fun n => set.getLsbD n && active n := by
    rw [activeSet, mapIdx_eq_range _ _ ⟨false, false, false, none⟩, hlength, setBits_map_range]
    exact bitsOf_congr fun n _ => by rw [← hactive]
  have hflags : flagSet (acknowledgeAll set s.conds) =
      bitsOf 25 fun n => (cell n).flag && (!set.getLsbD n || active n) := by
    rw [hall, flagSet, List.map_map, setBits_map_range]
    refine bitsOf_congr fun n _ => ?_
    cases hset : set.getLsbD n <;> cases hflag : (cell n).flag <;> cases hact : active n <;>
      simp [hset, hflag, hact]
  refine ⟨fun hhigh => ⟨?refused, ?refused'⟩, fun hlow => ⟨?taken, ?notices⟩⟩
  all_goals refine congrArg Host.Outcome.next (serve_eq_answered_of_holding src tag _ hroom ?_)
  case refused => exact if_pos (by simpa [setTooHigh] using hhigh)
  case refused' => exact if_pos (by simpa [setTooHigh] using hhigh)
  case notices =>
    refine (if_neg (by simpa [setTooHigh] using hlow)).trans ?_
    rw [State.mapConds, enableNotices, show (holding s).conds = s.conds from rfl, hcells]
    rfl
  case taken =>
    refine (if_neg (by simpa [setTooHigh] using hlow)).trans ?_
    simp only [State.mapConds, show (holding s).conds = s.conds from rfl, hstill, hflags]
    rw [hall]
    rfl

/-! ## JOURNAL FIND (R164) -/

/-- The filters that a request may carry (R164). -/
theorem badFilter_iff (kind subject : Byte) : badFilter kind.toNat subject.toNat = true ↔
    (14 < kind.toNat ∧ kind ≠ 255) ∨ (47 < subject.toNat ∧ subject ≠ 255) := by
  simp [badFilter, ← BitVec.toNat_inj]

theorem journalMatches_iff (kind subject : Byte) (e : JournalEntry) :
    journalMatches kind.toNat subject.toNat e = true ↔
      (kind = 255 ∨ e.kind.code = kind.toNat) ∧ (subject = 255 ∨ e.subject = some subject.toNat) := by
  simp [journalMatches, kindMatches, subjectMatches, ← BitVec.toNat_inj]

/-- No entry held is older than the first. -/
theorem journal_head_le {s : State} (h : journalLaw s = true) {e x : JournalEntry} {rest : List JournalEntry}
    (hes : s.journal.entries = e :: rest) (hx : x ∈ s.journal.entries) : e.seq ≤ x.seq := by
  have ⟨_, hseqs⟩ := seqs_of_journalLaw h
  have hsorted : (s.journal.entries.map fun y => y.seq).Pairwise (· ≤ ·) := by
    rw [hseqs]; exact List.pairwise_le_range'
  rw [hes, List.map_cons, List.pairwise_cons] at hsorted
  rw [hes] at hx
  rcases List.mem_cons.mp hx with rfl | hx
  · exact Nat.le_refl _
  · exact hsorted.1 _ (List.mem_map_of_mem hx)

/-- The search examines the entries held from the start on. -/
theorem journal_from_eq {s : State} (h : journalLaw s = true) (start : Nat) :
    s.journal.from start = s.journal.entries.filter fun e => decide (start ≤ e.seq) := by
  rw [Journal.from]
  split
  · rename_i hlost
    refine (List.filter_eq_self.mpr fun x hx => ?_).symm
    cases hes : s.journal.entries with
    | nil => simp [hes] at hx
    | cons e rest =>
      have hfirst := journal_head_le h hes hx
      rw [Journal.startLost, hes, decide_eq_true_eq] at hlost
      simp only [decide_eq_true_eq]
      omega
  · rfl

/-- Settles O58, by the outcome of the search. -/
theorem journalAppendAndFind : Obligations.JournalAppendAndFind := by
  refine ⟨fun time kind x value j => ?append, fun src tag s start kind subject hroom hlaw => ?find⟩
  case append =>
    intro held seq
    refine ⟨?_, push_next j time kind x value⟩
    dsimp only [held, seq]
    rw [Journal.push]
    split <;> simp
  case find =>
    intro find bad lost hit image pool seen
    have hpool : s.journal.from start.toNat = pool := journal_from_eq hlaw start.toNat
    have hhit : ∀ e, journalMatches kind.toNat subject.toNat e = true ↔ hit e := journalMatches_iff kind subject
    have hlost : boolByte (s.journal.startLost start.toNat) = lost := by
      dsimp only [lost]
      rw [Journal.startLost]
      cases s.journal.entries <;> simp [boolByte]
    have hfind : ∀ {o d}, Machine.journalFind start.toNat kind.toNat subject.toNat (holding s) =
        ⟨holding s, o, d⟩ → exec find s = .next (answered src tag 11 o d s) := fun h =>
      congrArg Host.Outcome.next (serve_eq_answered_of_holding src tag _ hroom h)
    have hsearch : ¬bad → start.toNat ≤ s.journal.next →
        Machine.journalFind start.toNat kind.toNat subject.toNat (holding s) =
          let r := s.journal.search start.toNat kind.toNat subject.toNat
          ⟨holding s, r.1, [lost] ++ be32 r.2.1 ++ entryBytes? r.2.2⟩ := fun hgood hstart => by
      rw [Machine.journalFind, if_neg (mt (badFilter_iff kind subject).mp hgood),
        if_neg (show ¬(holding s).journal.next < start.toNat from Nat.not_lt.mpr hstart), ← hlost]
      rfl
    refine ⟨fun hbad => hfind (if_pos ((badFilter_iff kind subject).mpr hbad)), fun hgood hstart => hfind ?_,
      fun hgood hstart => ⟨fun before after e hseen hbefore he => hfind ?_, fun hnone => ⟨fun hlen => hfind ?_,
        fun e he hlen => hfind ?_⟩⟩⟩
    · rw [Machine.journalFind, if_neg (mt (badFilter_iff kind subject).mp hgood), if_pos (by exact hstart)]
    · have hfound : seen.find? (journalMatches kind.toNat subject.toNat) = some e := by
        rw [List.find?_eq_some_iff_append]
        exact ⟨(hhit e).mpr he, before, after, hseen, fun x hx => by simpa using mt (hhit x).mp (hbefore x hx)⟩
      rw [hsearch hgood hstart, Journal.search, hpool]
      simp only [show pool.take 32 = seen from rfl, hfound]
      rfl
    all_goals
      have hfound : seen.find? (journalMatches kind.toNat subject.toNat) = none :=
        List.find?_eq_none.mpr fun x hx => mt (hhit x).mp (hnone x hx)
      rw [hsearch hgood hstart, Journal.search, hpool]
      simp only [show pool.take 32 = seen from rfl, hfound]
    · rw [if_pos hlen]
      simp [entryBytes?]
    · have hlast : seen.getLast? = some e := by
        rw [List.getLast?_eq_getElem?, List.length_take, min_eq_left (by omega), List.getElem?_take_of_lt (by decide)]
        exact he
      rw [if_neg (by omega), seqAfter, hlast]
      simp [entryBytes?]

end Sys2Proof.Proofs
end

section
namespace Sys2Proof.Proofs
open Sys2Proof.Machine Sys2Proof.Safety

/-! ## Raises in a row -/

/-- The conditions are raised in their order, without a subject. -/
def raiseAll (cs : List Condition) (r : State) : State := cs.foldl (fun r c => raise c none r) r

theorem raiseAll_cons (c : Condition) (cs : List Condition) (r : State) :
    raiseAll (c :: cs) r = raiseAll cs (raise c none r) := rfl

theorem raiseAll_append (cs ds : List Condition) (r : State) :
    raiseAll (cs ++ ds) r = raiseAll ds (raiseAll cs r) := List.foldl_append

theorem raiseIf_eq (b : Bool) (c : Condition) (r : State) : raiseIf b c r = raiseAll (if b then [c] else []) r := by
  cases b <;> rfl

/-- Raises change the record alone. -/
theorem raiseAll_keptBut (cs : List Condition) : ∀ r, KeptBut [.conds, .journal, .loop] r (raiseAll cs r) := by
  induction cs with
  | nil => intro r b _; cases b <;> rfl
  | cons c cs ih =>
    intro r b hb
    have := ih (raise c none r) b hb
    cases b <;> simp_all [Block.same, raiseAll_cons]

/-- Of the Loop Port raises change the answer queue alone. -/
theorem raiseAll_loop (cs : List Condition) : ∀ r, (raiseAll cs r).loop =
    { r.loop with answers := (raiseAll cs r).loop.answers } := by
  induction cs with
  | nil => intro r; rfl
  | cons c cs ih =>
    intro r
    rw [raiseAll_cons, ih, raise_loop]

theorem RecordAgree.raiseAll {r t : State} (h : RecordAgree r t) (cs : List Condition) :
    RecordAgree (raiseAll cs r) (raiseAll cs t) := by
  induction cs generalizing r t with
  | nil => exact h
  | cons c cs ih => exact ih (h.raise c none)

/-- The answer joins the answer queue of whatever state it is given in. -/
theorem RecordAgree.answered {r t : State} (h : RecordAgree r t) (src : Byte) (tag : Word16) (code : Nat)
    (outcome : ReqOutcome) (data : List Byte) :
    RecordAgree (answered src tag code outcome data r) (answered src tag code outcome data t) :=
  ⟨h.conds, h.journal, by simp [Safety.answered, h.answers, h.own], rfl, h.own, h.tables, h.clock⟩

/-- Persistent conditions whose flags are clear, each raised once: flag and cause mark of each are set. -/
theorem raiseAll_cond {cs : List Condition} (hnodup : cs.Nodup) (hpersistent : ∀ c ∈ cs, persistentNum c.num = true)
    {r : State} (hlength : r.conds.length = 25)
    (hclear : ∀ c ∈ cs, (r.cond c).flag = false ∧ (r.cond c).cause = false ∧ (r.cond c).subject = none)
    (d : Condition) : (raiseAll cs r).cond d =
      if d ∈ cs then ⟨true, (r.cond d).notice, true, none⟩ else r.cond d := by
  induction cs generalizing r with
  | nil => simp [raiseAll]
  | cons c cs ih =>
    obtain ⟨hnot, hnodup⟩ := List.nodup_cons.mp hnodup
    have hkeep : ∀ e, e ≠ c → (raise c none r).cond e = r.cond e := fun e he => raise_cond_ne c e none r he.symm
    have hrest := ih hnodup (fun e he => hpersistent e (.tail _ he)) (r := raise c none r) (by simpa using hlength)
      fun e he => by
        rw [hkeep e fun h => hnot (h ▸ he)]
        exact hclear e (.tail _ he)
    rw [raiseAll_cons, hrest]
    by_cases hd : d = c
    · subst hd
      obtain ⟨hflag, hcause, hsubject⟩ := hclear d (.head _)
      rw [if_neg hnot, if_pos (.head _), raise_cond_eq d none hlength, hpersistent d (.head _), hflag]
      rfl
    · simp [hkeep d hd, hd]

/-- Each of those raises has its CONDITION entry. -/
theorem raiseAll_journal {cs : List Condition} (hnodup : cs.Nodup) {r : State}
    (hclear : ∀ c ∈ cs, (r.cond c).flag = false) : (raiseAll cs r).journal =
      cs.foldl (fun j c => j.push r.time.clock .condition none c.num) r.journal := by
  induction cs generalizing r with
  | nil => rfl
  | cons c cs ih =>
    obtain ⟨hnot, hnodup⟩ := List.nodup_cons.mp hnodup
    have hrest := ih hnodup (r := raise c none r) fun e he => by
      rw [raise_cond_ne c e none r fun h => hnot (h ▸ he)]
      exact hclear e (.tail _ he)
    rw [raiseAll_cons, hrest, raise_journal_eq, hclear c (.head _)]
    simp

/-! ## RESTART (R182) -/

/-- The conditions whose persistent cause still holds, in the order in which they are raised (assumption 5). -/
def holdingCauses (s : State) : List Condition :=
  (if s.shaftHolds then [.shaftSensor] else []) ++ (if atLimit s.time.te then [.timeErrorLimit] else []) ++
    (if s.water.pondSilent then [.pondSilent] else []) ++ (if s.water.gateSilent then [.gateSilent] else []) ++
    (if s.anyFeederSilent then [.feederSilent] else []) ++ (if s.saw.silent then [.sawSilent] else []) ++
    (if s.loop.broken then [.loopBroken] else [])

/-- Each of the causes is persistent, and none is named twice. -/
theorem holdingCauses_spec (s : State) :
    (holdingCauses s).Nodup ∧ ∀ c ∈ holdingCauses s, persistentNum c.num = true := by
  unfold holdingCauses
  generalize s.shaftHolds = shaft
  generalize atLimit s.time.te = limit
  generalize s.water.pondSilent = pond
  generalize s.water.gateSilent = gate
  generalize s.anyFeederSilent = feeder
  generalize s.saw.silent = saw
  generalize s.loop.broken = broken
  revert shaft limit pond gate feeder saw broken
  decide

/-- The shaft cause that stands after a warm reset (R9). -/
theorem reraiseShaft_eq (s : State) : reraiseShaft s = raiseAll (if s.shaftHolds then [.shaftSensor] else [])
    (s.mapEdge fun e => { e with shaftCause := s.shaftHolds }) := by
  cases h : s.shaftHolds with
  | true => simp [reraiseShaft, h, raiseShaft, raiseAll]
  | false =>
    have hcause : s.edge.shaftCause = false := by
      cases hc : s.edge.shaftCause <;> simp_all [State.shaftHolds]
    simp only [reraiseShaft, h, Bool.false_eq_true, if_false, raiseAll, List.foldl_nil, State.mapEdge]
    rw [← hcause]

/-- The raises after a warm reset are those of the causes that hold. -/
theorem reraise_eq (s : State) : reraise s =
    raiseAll (holdingCauses s) (s.mapEdge fun e => { e with shaftCause := s.shaftHolds }) := by
  simp only [reraise, raiseIf_eq, reraiseShaft_eq, ← raiseAll_append, holdingCauses, List.append_assoc]

/-- The state at step 4 of a warm reset, before the causes that still hold are raised again. -/
def warmState (s : State) : State :=
  (warmBlocks ((journalRestart s).mapLoop LoopPort.warm)).mapEdge fun e => { e with shaftCause := s.shaftHolds }

theorem warmReset_eq (s : State) : warmReset s = raiseAll (holdingCauses s) (warmState s) := reraise_eq _

/-- Every flag and cause mark is clear before those raises; the notice enables are kept (R162). -/
theorem warmState_cond (s : State) (c : Condition) :
    (warmState s).cond c = ⟨false, (s.cond c).notice, false, none⟩ := by
  have : (warmState s).conds = s.conds.map CondCell.warm := rfl
  rw [State.cond, this, show CondCell.reset = CondCell.warm .reset from rfl, List.getD_map]
  rfl

/-- The blocks that a warm reset leaves: the pins, the tables and the model's own fields. -/
theorem warmState_keptBut (src : Byte) (tag : Word16) (cs : List Condition) (s : State) :
    KeptBut [.edge, .time, .gov, .firing, .plant, .water, .hamlet, .shed, .saw, .conds, .journal, .loop] s
      (answered src tag 13 .done [] (raiseAll cs (warmState (holding s)))) := by
  have hkept := raiseAll_keptBut cs (warmState (holding s))
  intro b hb
  cases b with
  | edge | time | gov | firing | plant | water | hamlet | shed | saw | conds | journal | loop => simp at hb
  | pins => exact (hkept .pins (by decide)).trans rfl
  | tables => exact (hkept .tables (by decide)).trans rfl
  | draws => exact (hkept .draws (by decide)).trans rfl
  | pending => exact (hkept .pending (by decide)).trans rfl

/-- Settles O59. -/
theorem restart : Obligations.Restart := by
  intro src tag s hroom
  refine ⟨fun hstate => congrArg Host.Outcome.next (serve_eq_answered_of_holding src tag _ hroom ?refused),
    fun hstate hlength => ?taken⟩
  case refused => rcases hstate with h | h | h <;> simp [Machine.restart, h, show (holding s).plant = s.plant from rfl]
  case taken =>
    intro shaft limit causes
    have hcauses : causes = holdingCauses (holding s) := rfl
    have hdone : Machine.restart (holding s) = ⟨warmReset (holding s), .done, []⟩ := by
      rcases hstate with h | h <;> simp [Machine.restart, h, show (holding s).plant = s.plant from rfl]
    have ⟨hnodup, hpersistent⟩ := holdingCauses_spec (holding s)
    have hkept := raiseAll_keptBut causes (warmState (holding s))
    have hloop := raiseAll_loop causes (warmState (holding s))
    have hcond : ∀ c ∈ causes, ((warmState (holding s)).cond c).flag = false ∧
        ((warmState (holding s)).cond c).cause = false ∧ ((warmState (holding s)).cond c).subject = none :=
      fun c _ => by rw [warmState_cond]; exact ⟨rfl, rfl, rfl⟩
    refine ⟨answered src tag 13 .done [] (raiseAll causes (warmState (holding s))), congrArg Host.Outcome.next
      (serve_eq_answered src tag _ hroom (hdone.trans (congrArg (Reply.mk · .done []) (warmReset_eq (holding s))))),
      (hkept .plant (by decide)).trans rfl, (hkept .gov (by decide)).trans rfl, (hkept .firing (by decide)).trans rfl,
      (hkept .time (by decide)).trans rfl, (hkept .water (by decide)).trans rfl,
      (hkept .hamlet (by decide)).trans rfl, (hkept .shed (by decide)).trans rfl, (hkept .saw (by decide)).trans rfl,
      (hkept .edge (by decide)).trans rfl, fun c => ?cond, ?journal, ?record, ?loop, fun b hb => ?kept⟩
    case cond =>
      refine (raiseAll_cond hnodup hpersistent ((List.length_map _).trans hlength) hcond c).trans ?_
      rw [warmState_cond, ← hcauses]
      by_cases hc : c ∈ causes <;> simp [hc] <;> rfl
    case journal => exact (raiseAll_journal hnodup fun c hc => (hcond c hc).1).trans rfl
    case record =>
      refine (RecordAgree.answered (.raiseAll ?_ causes) src tag 13 .done []).sameRecord
      exact ⟨rfl, rfl, rfl, rfl, rfl, rfl, rfl⟩
    case loop =>
      rw [answered, hloop]
      rfl
    case kept => exact warmState_keptBut src tag causes s b hb

end Sys2Proof.Proofs
end

section
namespace Sys2Proof.Proofs
open Sys2Proof.Machine Sys2Proof.Safety

/-! ## What the takers of a valid period take (R3 to R5, R16) -/

/-- The state that the takers of an accepted valid period take: the level is accepted, the period stored, the
signal PRESENT, and the time error charged. -/
def periodTaken (t : Count) (p lag : Nat) (s : State) : State :=
  addTimeError 1 (recoverSignal (storePeriod t p lag
    { acceptLevel .xing true s with draws := s.draws + 1 }))

/-- A valid edge is taken in one of the two orders in which the takers stand, and the observers in one of
theirs. -/
theorem exec_validEdge {t : Count} {p : Nat} {s : State} (lag : Nat) (h : ValidEdge t p s) :
    ∃ plantFirst shedFirst, exec (.acceptedRisingCrossingEdge t lag) s =
      .next (takersInOrder plantFirst shedFirst (frequencyOf p) p t lag (periodTaken t p lag s)) :=
  ⟨_, _, exec_acceptedRisingCrossingEdge_of_validEdge lag h⟩

/-- The blocks that the period reaches only through its takers. -/
theorem periodTaken_frame (t : Count) (p lag : Nat) (s : State) :
    (periodTaken t p lag s).gov = s.gov ∧ (periodTaken t p lag s).firing = s.firing ∧
      (periodTaken t p lag s).water = s.water ∧ (periodTaken t p lag s).hamlet = s.hamlet ∧
      (periodTaken t p lag s).shed = s.shed ∧ (periodTaken t p lag s).saw = s.saw ∧
      (periodTaken t p lag s).tables = s.tables ∧ (periodTaken t p lag s).pins = s.pins ∧
      (periodTaken t p lag s).pending = s.pending ∧ (periodTaken t p lag s).draws = s.draws + 1 := by
  unfold periodTaken
  and_intros <;> simp

theorem periodTaken_direction (t : Count) (p lag : Nat) (s : State) :
    (periodTaken t p lag s).time.direction = s.time.direction := by
  simp [periodTaken]

/-- The signal-loss timer stops where the signal recovers (R60). -/
theorem periodTaken_plant (t : Count) (p lag : Nat) (s : State) : (periodTaken t p lag s).plant =
    { s.plant with signalLoss := if s.edge.signal = .lost then none else s.plant.signalLoss } := by
  unfold periodTaken recoverSignal signalEntersPresent plantSignalPresent
  cases hsignal : s.edge.signal <;> cases hsilent : s.edge.toothSilent <;>
    simp [acceptLevel, storePeriod, hsignal, hsilent]

@[simp] theorem periodTaken_state (t : Count) (p lag : Nat) (s : State) :
    (periodTaken t p lag s).plant.state = s.plant.state := by rw [periodTaken_plant]

/-! ## The Governor at a demand update, engaged or not (R23 to R25) -/

/-- The Governor where the update sets the engaged flag: the law starts from the present error (R25). -/
def engagingLaw (f : Nat) (s : State) : Governor :=
  piStep (applyPendingGain s).kp (applyPendingGain s).ki (s.freqError f)
    { (applyPendingGain s).gov with engaged := true, ePrev := s.freqError f, residue := 0 }

/-- The Governor after its own part of an update (R23 to R25). -/
theorem governorUpdate_gov (f : Nat) (s : State) : (governorUpdate f s).gov =
    if s.gov.engaged = true then governorLaw f s
    else if s.engages f = true then engagingLaw f s
    else (applyPendingGain s).gov := by
  have herror : (applyPendingGain s).freqError f = s.freqError f := by
    simp [State.freqError, State.fSet, State.nominal, State.offset, State.setting]
  have hengages : (applyPendingGain s).engages f = s.engages f := by
    simp [State.engages, applyPendingGain_gov, State.nominal, State.setting]
  cases heng : s.gov.engaged with
  | true => rw [if_pos rfl, governorUpdate_gov_of_engaged f heng]
  | false =>
    have hnot : (applyPendingGain s).gov.engaged = false := by rw [applyPendingGain_gov]; exact heng
    rw [governorUpdate, if_neg (by decide), engage, hengages, herror]
    by_cases he : s.engages f = true
    · simp [he, runLaw, State.kp, State.ki, State.setting, engagingLaw]
    · simp [he, runLaw, hnot]

theorem engagingLaw_congr {s u : State} (f : Nat) (hgov : u.gov = s.gov) (htables : u.tables = s.tables)
    (hdir : u.time.direction = s.time.direction) : engagingLaw f u = engagingLaw f s := by
  simp [engagingLaw, applyPendingGain_gov, State.kp, State.ki, State.freqError, State.fSet,
    State.nominal, State.offset, State.setting, hgov, htables, hdir]

/-- The plant state that the Governor reads is the one before the period, or after it. -/
def governorReads (plantFirst : Bool) (f : Nat) (s : State) : State :=
  if plantFirst then plantPeriod f s else s

theorem governorReads_frame (plantFirst : Bool) (f : Nat) (s : State) :
    (governorReads plantFirst f s).gov = s.gov ∧ (governorReads plantFirst f s).time = s.time ∧
      (governorReads plantFirst f s).tables = s.tables := by
  cases plantFirst <;> simp [governorReads, plantPeriod_gov_time]

/-- After a valid period the Governor is as its own part of the update left it, but for the pending set. -/
theorem takersInOrder_gov (plantFirst shedFirst : Bool) (f p : Nat) (t : Count) (lag : Nat) (s : State) :
    ∃ g, (takersInOrder plantFirst shedFirst f p t lag s).gov =
      { (governorUpdate f (governorReads plantFirst f s)).gov with pendingSet := g } := by
  cases plantFirst with
  | true => exact demandUpdates_gov shedFirst f p t lag (plantPeriod f s)
  | false =>
    simpa [takersInOrder, governorReads, plantPeriod_gov_time] using demandUpdates_gov shedFirst f p t lag s

/-- The Governor after an accepted valid period, by the state that stands before it and the plant state that it
reads. -/
theorem validEdge_gov (plantFirst shedFirst : Bool) (t : Count) (p lag : Nat) (s : State) :
    ∃ g, (takersInOrder plantFirst shedFirst (frequencyOf p) p t lag (periodTaken t p lag s)).gov =
      { (if s.gov.engaged = true then governorLaw (frequencyOf p) s
        else if (governorReads plantFirst (frequencyOf p) (periodTaken t p lag s)).engages (frequencyOf p) = true
          then engagingLaw (frequencyOf p) s
        else (applyPendingGain s).gov) with pendingSet := g } := by
  obtain ⟨g, hg⟩ := takersInOrder_gov plantFirst shedFirst (frequencyOf p) p t lag (periodTaken t p lag s)
  obtain ⟨hgov, htime, htables⟩ := governorReads_frame plantFirst (frequencyOf p) (periodTaken t p lag s)
  obtain ⟨hgov', -, -, -, -, -, htables', -⟩ := periodTaken_frame t p lag s
  have hdir : (governorReads plantFirst (frequencyOf p) (periodTaken t p lag s)).time.direction =
      s.time.direction := by rw [htime, periodTaken_direction]
  rw [governorUpdate_gov, governorLaw_congr _ (hgov.trans hgov') (htables.trans htables') hdir,
    engagingLaw_congr _ (hgov.trans hgov') (htables.trans htables') hdir, applyPendingGain_gov, hgov.trans hgov',
    ← applyPendingGain_gov] at hg
  exact ⟨g, hg⟩

/-! ## The Plant State Controller at a valid period (R55, R59, R61) -/

/-- The period brings the acceptance count to RUNUP_ACCEPT. -/
def acceptsLast (f : Nat) (s : State) : Prop :=
  s.plant.state = .runup ∧ s.inBand f = true ∧ s.setting Setting.RUNUP_ACCEPT ≤ s.plant.accept + 1

/-- The entry to RUN at the last acceptance. -/
theorem acceptPeriod_of_last {f : Nat} {s : State} (h : acceptsLast f s) : acceptPeriod f s =
    enterPlant .run .runupDone (s.mapPlant fun p => { p with accept := p.accept + 1 }) := by
  obtain ⟨hstate, hband, hlast⟩ := h
  have hmax : ∀ u : State, u = s.mapPlant (fun p => { p with accept := p.accept + 1 }) →
      u.mapPlant (fun p => { p with accept := max p.accept (u.setting Setting.RUNUP_ACCEPT) }) = u := by
    rintro u rfl
    refine mapPlant_eq_self ?_
    simp [max_eq_left hlast]
  rw [acceptPeriod, if_pos ((inPlant_iff s _).mpr hstate), if_pos hband]
  dsimp only
  rw [if_pos (by exact hlast), runupAccepted, if_pos (by simpa [State.inPlant] using hstate), hmax _ rfl]

/-- The count of the acceptances where the plant does not enter RUN. -/
theorem acceptPeriod_of_not_last {f : Nat} {s : State} (h : ¬acceptsLast f s) : acceptPeriod f s =
    s.mapPlant fun p => { p with accept := if s.plant.state = .runup then
      (if s.inBand f = true then p.accept + 1 else 0) else p.accept } := by
  by_cases hstate : s.plant.state = .runup
  · rw [acceptPeriod, if_pos ((inPlant_iff s _).mpr hstate)]
    cases hband : s.inBand f with
    | true =>
      have hmore : ¬s.setting Setting.RUNUP_ACCEPT ≤ s.plant.accept + 1 := fun hle => h ⟨hstate, hband, hle⟩
      dsimp only
      rw [if_pos rfl, if_neg (by exact hmore)]
      simp [hstate]
    | false => simp [hstate]
  · rw [acceptPeriod, if_neg (by rwa [inPlant_iff])]
    simp [hstate, State.mapPlant]

/-- The frequency-overspeed timer after a period (R59). -/
def overspeedAfter (f : Nat) (s : State) (timer : Option Nat) : Option Nat :=
  if s.nominal + s.setting Setting.FREQ_OVERSPEED < (f : Int) then some (timer.getD 2000000) else none

theorem watchOverspeed_eq (f : Nat) (s : State) : watchOverspeed f s = s.mapPlant fun p => { p with
    freqOverspeed := if p.state = .tripped then p.freqOverspeed else overspeedAfter f s p.freqOverspeed } := by
  by_cases hstate : s.plant.state = .tripped
  · rw [watchOverspeed, if_pos ((inPlant_iff s _).mpr hstate)]
    exact (mapPlant_eq_self (by rw [if_pos hstate])).symm
  · rw [watchOverspeed, if_neg (by rwa [inPlant_iff])]
    by_cases hfast : s.nominal + s.setting Setting.FREQ_OVERSPEED < (f : Int) <;>
      simp [State.overFrequency, overspeedAfter, hfast, hstate, State.mapPlant]

/-- The collapse timer after a period in RUN (R61). -/
def collapseAfter (f : Nat) (s : State) (timer : Option Nat) : Option Nat :=
  if (f : Int) < s.nominal - s.setting Setting.COLLAPSE_DROP then
    some (timer.getD (s.setting Setting.COLLAPSE_TIME * 2000000)) else none

theorem watchCollapse_eq (f : Nat) (s : State) : watchCollapse f s = s.mapPlant fun p => { p with
    collapse := if p.state = .run then collapseAfter f s p.collapse else p.collapse } := by
  by_cases hstate : s.plant.state = .run
  · rw [watchCollapse, if_pos ((inPlant_iff s _).mpr hstate)]
    by_cases hslow : (f : Int) < s.nominal - s.setting Setting.COLLAPSE_DROP <;>
      simp [State.underFrequency, startCollapse, collapseAfter, hslow, hstate, State.mapPlant, seconds]
  · rw [watchCollapse, if_neg (by rwa [inPlant_iff])]
    exact (mapPlant_eq_self (by rw [if_neg hstate])).symm

/-- The timers that a period starts, keeps or stops. -/
def timersWatched (f : Nat) (s : State) (p : Plant) : Plant := { p with
  freqOverspeed := if p.state = .tripped then p.freqOverspeed else overspeedAfter f s p.freqOverspeed
  collapse := if p.state = .run then collapseAfter f s p.collapse else p.collapse }

/-- The Plant State Controller's part of a valid period: the acceptance, and the timers. -/
theorem plantPeriod_eq (f : Nat) (s : State) :
    plantPeriod f s = (acceptPeriod f s).mapPlant (timersWatched f s) := by
  rw [plantPeriod, watchCollapse_eq, watchOverspeed_eq]
  simp [State.mapPlant, timersWatched, overspeedAfter, collapseAfter, State.nominal, State.setting]

theorem plantPeriod_plant (f : Nat) (s : State) :
    (plantPeriod f s).plant = timersWatched f s (acceptPeriod f s).plant := by rw [plantPeriod_eq]; rfl

/-- In RUNUP the flag is set at a frequency near nominal, whether the plant enters RUN first or not (R25, R55). -/
theorem engages_governorReads (plantFirst : Bool) {f : Nat} {s : State} (h : s.gov.engaged = false) :
    (governorReads plantFirst f s).engages f =
      match s.plant.state with
      | .runup => decide (s.nominal - 1000 ≤ (f : Int))
      | .run => true
      | .stopping => true
      | .stopped => false
      | .tripped => false := by
  obtain ⟨hgov, htime, htables⟩ := governorReads_frame plantFirst f s
  have hnominal : (governorReads plantFirst f s).nominal = s.nominal := by
    rw [State.nominal, State.nominal, setting_congr htables]
  have heng : (governorReads plantFirst f s).gov.engaged = false := by rw [hgov, h]
  rw [State.engages, heng, hnominal, Bool.not_false, Bool.true_and]
  cases plantFirst with
  | false => rfl
  | true =>
    rw [governorReads, if_pos rfl, plantPeriod_plant]
    by_cases hlast : acceptsLast f s
    · obtain ⟨hstate, hband, -⟩ := id hlast
      have hnear : s.nominal - 1000 ≤ (f : Int) := by
        rw [State.inBand, Bool.and_eq_true, decide_eq_true_eq] at hband
        exact hband.1
      rw [acceptPeriod_of_last hlast, enterPlant_plant, hstate]
      simp [timersWatched, Plant.enter, hnear]
    · rw [acceptPeriod_of_not_last hlast]
      cases hstate : s.plant.state <;> simp [timersWatched, hstate]

end Sys2Proof.Proofs
end

section
namespace Sys2Proof.Proofs
open Sys2Proof.Machine Sys2Proof.Safety

/-! ## A restore of a circuit that the hamlet does not have

O53 says of a demand update that the slots follow the orders, for every hamlet. A shed list that names a
circuit beyond the entries of the hamlet makes the restore write the slot of its feeder again, with the order
that stood there before. -/

/-- RUN with a demand of 4,096, a hamlet without entries, and circuit 0 listed and due to be restored. -/
def restoreOfNoCircuit : State := { State.reset with
  edge := { EdgeCapture.reset with signal := .present, tPrev := some 0 }
  gov := { Governor.reset with d := 4096 }
  plant := { Plant.reset with state := .run }
  hamlet := { Hamlet.reset with entries := [] }
  shed := ⟨[⟨0, .frequency, 0, none⟩], none, 0, some ⟨0, 20000000⟩⟩
  tables := { TableStore.reset with nodeMap := ⟨[0, 0, 0, 5, 0, 0, 0, 0, 0], List.replicate 9 true⟩ } }

/-- In whichever order the period is taken, the slot of feeder 0 is written. -/
theorem slot_of_restoreOfNoCircuit (plantFirst shedFirst : Bool) :
    (takersInOrder plantFirst shedFirst (frequencyOf 40000) 40000 40000 0
      (periodTaken 40000 40000 0 restoreOfNoCircuit)).loop.slots[2]? =
        some ⟨some (.feeder (List.replicate 8 false)), true⟩ := by
  cases plantFirst <;> cases shedFirst <;> decide

/-- The order of feeder 0 is as it was: no circuit of it is CLOSE, before and after. -/
theorem order_of_restoreOfNoCircuit (plantFirst shedFirst : Bool) :
    slotOrder (takersInOrder plantFirst shedFirst (frequencyOf 40000) 40000 40000 0
      (periodTaken 40000 40000 0 restoreOfNoCircuit)) 2 = slotOrder restoreOfNoCircuit 2 := by
  have hnone : (takersInOrder plantFirst shedFirst (frequencyOf 40000) 40000 40000 0
      (periodTaken 40000 40000 0 restoreOfNoCircuit)).hamlet.entries = [] := by
    cases plantFirst <;> cases shedFirst <;> decide
  have hold : restoreOfNoCircuit.hamlet.entries = [] := rfl
  simp only [slotOrder, positions, State.circuit, hnone, hold]

theorem validEdge_restoreOfNoCircuit : ValidEdge 40000 40000 restoreOfNoCircuit :=
  ⟨.inl rfl, 0, rfl, by simp, by omega, by omega⟩

/-- Refutes O53: its clause on the slots at a demand update holds of no hamlet that lacks a listed circuit whose
restore is due. The slot of that circuit's feeder is written, and its order has not changed. -/
theorem not_sawTimersAndSilence : ¬ Obligations.SawTimersAndSilence := by
  intro h
  obtain ⟨-, -, -, -, -, -, -, -, -, -, -, -, -, -, hupdate⟩ := h restoreOfNoCircuit
  obtain ⟨u, hexec, hslots, -⟩ := hupdate 40000 0 40000 validEdge_restoreOfNoCircuit
  obtain ⟨plantFirst, shedFirst, htaken⟩ := exec_validEdge 0 validEdge_restoreOfNoCircuit
  obtain rfl := Host.Outcome.next.inj (htaken.symm.trans hexec)
  have hfollow := hslots rfl (by decide) (.inl (by decide))
  have hwritten := slot_of_restoreOfNoCircuit plantFirst shedFirst
  have hkept : slotAfter [] restoreOfNoCircuit (takersInOrder plantFirst shedFirst (frequencyOf 40000) 40000 40000 0
      (periodTaken 40000 40000 0 restoreOfNoCircuit)) 2 ⟨none, false⟩ = ⟨none, false⟩ := by
    rw [slotAfter_nil, order_of_restoreOfNoCircuit, if_neg (by simp)]
  rw [SlotsFollow] at hfollow
  rw [hfollow, List.getElem?_mapIdx] at hwritten
  exact absurd ((congrArg some hkept).symm.trans hwritten) (by decide)

end Sys2Proof.Proofs
end

section
namespace Sys2Proof.Proofs
open Sys2Proof.Machine Sys2Proof.Safety

/-! ## O24: engagement -/

/-- The gain that the law integrates with, by the set active after a switch (R28, R30). -/
theorem applyPendingGain_ki (s : State) : ((applyPendingGain s).ki : Int) =
    match s.gov.pendingSet.getD s.gov.active with
    | .normal => (s.setting Setting.KI_NORMAL : Int)
    | .saw => (s.setting Setting.KI_SAW : Int) := by
  rw [State.ki, applyPendingGain_gov]
  cases s.gov.pendingSet.getD s.gov.active <;> simp [State.setting]

/-- The engaging law has no proportional term and no residue: `N` is `Ki` times the error (R25). -/
theorem engagingLaw_demand (f : Nat) (s : State) :
    let n : Int := (applyPendingGain s).ki * s.freqError f
    let d' : Int := s.gov.d + n / 256
    (engagingLaw f s).ePrev = s.freqError f ∧ (engagingLaw f s).engaged = true ∧
      (d' < 0 → (engagingLaw f s).d = 0 ∧ (engagingLaw f s).residue = 0) ∧
      (4096 < d' → (engagingLaw f s).d = 4096 ∧ (engagingLaw f s).residue = 0) ∧
      (0 ≤ d' → d' ≤ 4096 → ((engagingLaw f s).d : Int) = d' ∧
        ((engagingLaw f s).residue : Int) = n - 256 * (n / 256)) := by
  intro n d'
  set g : Governor := { (applyPendingGain s).gov with engaged := true, ePrev := s.freqError f, residue := 0 } with hg
  have hn : lawSum (applyPendingGain s).kp (applyPendingGain s).ki (s.freqError f) g = n := by
    simp [lawSum, hg, n]
  have hd' : lawDemand (applyPendingGain s).kp (applyPendingGain s).ki (s.freqError f) g = d' := by
    rw [lawDemand, hn]
    simp [hg, d', applyPendingGain_gov]
  have hlaw : engagingLaw f s =
    piStep (applyPendingGain s).kp (applyPendingGain s).ki (s.freqError f) g := rfl
  rw [hlaw]
  refine ⟨by simp, by simp [hg], fun hneg => ?_, fun hhigh => ?_, fun hlow hhigh => ?_⟩
  · rw [piStep_of_demand_neg (hd' ▸ hneg)]
    exact ⟨rfl, rfl⟩
  · rw [piStep_of_demand_high (hd' ▸ hhigh)]
    exact ⟨rfl, rfl⟩
  · rw [piStep_of_demand_inRange (hd' ▸ hlow) (hd' ▸ hhigh), hd', hn]
    dsimp only
    omega

/-- Settles O24: the flag by the plant state read, which a period's own entry to RUN does not alter, and the
law of the update that sets it. -/
theorem engagement : Obligations.Engagement := by
  intro t lag p s hedge hclear f ki e n d'
  obtain ⟨plantFirst, shedFirst, hexec⟩ := exec_validEdge lag hedge
  obtain ⟨g, hgov⟩ := validEdge_gov plantFirst shedFirst t p lag s
  obtain ⟨hframe, -, -, -, -, -, htables, -⟩ := periodTaken_frame t p lag s
  have hengages := engages_governorReads plantFirst (f := frequencyOf p) (s := periodTaken t p lag s)
    (by rw [hframe, hclear])
  have hnominal : (periodTaken t p lag s).nominal = s.nominal := by
    rw [State.nominal, State.nominal, setting_congr htables]
  rw [periodTaken_state, hnominal] at hengages
  have hnot : (applyPendingGain s).gov.engaged = false := by rw [applyPendingGain_gov]; exact hclear
  have hdemand : (applyPendingGain s).gov.d = s.gov.d := by rw [applyPendingGain_gov]
  obtain ⟨hprev, hengaged, hlaw⟩ := engagingLaw_demand (frequencyOf p) s
  rw [if_neg (by rw [hclear]; decide)] at hgov
  have hflag : ∀ b, (governorReads plantFirst (frequencyOf p) (periodTaken t p lag s)).engages (frequencyOf p) = b →
      (takersInOrder plantFirst shedFirst (frequencyOf p) p t lag (periodTaken t p lag s)).gov.engaged = b := by
    rintro b hb
    rw [hgov, hb]
    cases b <;> simp [hnot, hengaged]
  refine ⟨_, hexec, fun hstate => ?_, fun hstate => ?_, fun hstate => ?_, fun hoff => ?_, fun hon => ?_⟩
  · rw [hflag _ hengages, hstate]
    exact decide_eq_true_iff
  · rw [hflag _ hengages]
    rcases hstate with hstate | hstate <;> rw [hstate]
  · rw [hflag _ hengages]
    rcases hstate with hstate | hstate <;> rw [hstate]
  · rw [hflag _ rfl] at hoff
    rw [hgov, if_neg (by rw [hoff]; decide)]
    exact hdemand
  · rw [hflag _ rfl] at hon
    rw [hgov, if_pos hon]
    have hki : ki = ((applyPendingGain s).ki : Int) := (applyPendingGain_ki s).symm
    have hn : n = (applyPendingGain s).ki * s.freqError (frequencyOf p) := by rw [← hki]; rfl
    have hd' : d' = s.gov.d + ((applyPendingGain s).ki * s.freqError (frequencyOf p) : Int) / 256 := by rw [← hn]
    rw [hd', hn]
    exact ⟨hprev, hlaw⟩

end Sys2Proof.Proofs
end

section
namespace Sys2Proof.Proofs
open Sys2Proof.Machine Sys2Proof.Safety

/-! ## O25: ballast firing -/

theorem plantPeriod_firing (f : Nat) (s : State) : (plantPeriod f s).firing = s.firing := by
  rw [plantPeriod_eq]
  by_cases hlast : acceptsLast f s
  · rw [acceptPeriod_of_last hlast]
    simp [enterPlant, sawEntry, firingEntry]
  · rw [acceptPeriod_of_not_last hlast]
    simp

/-- After a valid period the firing is that of the split of the demand which then stands. -/
theorem takersInOrder_firing (plantFirst shedFirst : Bool) (f p : Nat) (t : Count) (lag : Nat) (s : State) :
    ∃ v, (takersInOrder plantFirst shedFirst f p t lag s).firing = (firingUpdate p t lag v).firing ∧
      v.gov.d = (takersInOrder plantFirst shedFirst f p t lag s).gov.d ∧ v.tables = s.tables := by
  have hdemand (x : State) : (demandUpdates shedFirst f p t lag x).firing =
        (firingUpdate p t lag (governorUpdate f x)).firing ∧
      (governorUpdate f x).gov.d = (demandUpdates shedFirst f p t lag x).gov.d := by
    obtain ⟨g, hg⟩ := demandUpdates_gov shedFirst f p t lag x
    exact ⟨by simp [demandUpdates], by rw [hg]⟩
  cases plantFirst with
  | true =>
    obtain ⟨hfiring, hd⟩ := hdemand (plantPeriod f s)
    exact ⟨governorUpdate f (plantPeriod f s), hfiring, hd, by simp⟩
  | false =>
    obtain ⟨hfiring, hd⟩ := hdemand s
    refine ⟨governorUpdate f s, ?_, ?_, by simp⟩
    · exact (plantPeriod_firing _ _).trans hfiring
    · exact hd.trans (congrArg Governor.d (plantPeriod_gov_time f _).1.symm)

/-- The guards pass a trim with an offset inside the half-cycle, and no other (R35). -/
theorem trimOffset_of_refused {s : State} {c h : Nat} (hguard : c ≤ s.setting Setting.MIN_CONDUCTION ∨
    h < max (rawOffset c h) (s.setting Setting.EARLY_GUARD) + s.setting Setting.TRIM_PULSE +
      s.setting Setting.END_GUARD) : s.trimOffset c h = none := by
  unfold State.trimOffset
  dsimp only
  split
  · rfl
  · next hc => rw [if_pos (hguard.resolve_left hc)]

theorem trimOffset_of_passed {s : State} {c h : Nat} (hc : s.setting Setting.MIN_CONDUCTION < c)
    (hend : max (rawOffset c h) (s.setting Setting.EARLY_GUARD) + s.setting Setting.TRIM_PULSE +
      s.setting Setting.END_GUARD ≤ h) :
    s.trimOffset c h = some (max (rawOffset c h) (s.setting Setting.EARLY_GUARD)) := by
  unfold State.trimOffset
  rw [if_neg (by omega)]
  exact if_neg (by omega)

/-- The banks after the split (R33). -/
theorem firingUpdate_banks (p : Nat) (t : Count) (lag : Nat) (s : State) :
    (firingUpdate p t lag s).firing.step1 = decide (1 ≤ stepsOf s.gov.d) ∧
      (firingUpdate p t lag s).firing.step2 = decide (2 ≤ stepsOf s.gov.d) ∧
      (firingUpdate p t lag s).firing.step3 = decide (3 ≤ stepsOf s.gov.d) := by
  unfold firingUpdate scheduleTrim
  dsimp only
  repeat' split
  all_goals simp [setBanks, scheduleNone]

/-- A demand without a trim that the guards pass schedules nothing (R35). -/
theorem firingUpdate_of_refused {p : Nat} {t : Count} {lag : Nat} {s : State}
    (h : s.gov.d = 0 ∨ s.trimOffset (s.conduction (trimOf s.gov.d)) (p / 2) = none) :
    (firingUpdate p t lag s).firing.pulses = [] ∧ (firingUpdate p t lag s).firing.scheduled = 0 ∧
      (firingUpdate p t lag s).firing.trimGate = false := by
  set x := setBanks (stepsOf s.gov.d) (removePulses s) with hx
  have hnone : (scheduleNone x).firing.pulses = [] ∧ (scheduleNone x).firing.scheduled = 0 ∧
      (scheduleNone x).firing.trimGate = false := ⟨rfl, rfl, rfl⟩
  by_cases hd : s.gov.d = 0
  · simpa only [firingUpdate, if_pos hd] using hnone
  · have hoffset : x.trimOffset (x.conduction (trimOf s.gov.d)) (p / 2) = none := h.resolve_left hd
    simpa only [firingUpdate, if_neg hd, scheduleTrim, ← hx, hoffset] using hnone

/-- A trim that the guards pass schedules its two pulses (R36). -/
theorem firingUpdate_of_passed {p : Nat} {t : Count} {lag o : Nat} {s : State} (hd : s.gov.d ≠ 0)
    (h : s.trimOffset (s.conduction (trimOf s.gov.d)) (p / 2) = some o) :
    let ps := makePulse t lag (s.setting Setting.TRIM_PULSE) o ++
      makePulse t lag (s.setting Setting.TRIM_PULSE) (p / 2 + o)
    (firingUpdate p t lag s).firing.pulses = ps ∧ (firingUpdate p t lag s).firing.scheduled = 2 ∧
      (firingUpdate p t lag s).firing.trimGate = anyDelivering ps := by
  set x := setBanks (stepsOf s.gov.d) (removePulses s) with hx
  have hoffset : x.trimOffset (x.conduction (trimOf s.gov.d)) (p / 2) = some o := h
  simp only [firingUpdate, if_neg hd, scheduleTrim, ← hx, hoffset]
  exact ⟨rfl, rfl, rfl⟩

/-- A pulse by the counts that have passed since its crossing (R36). -/
theorem makePulse_waiting (t : Count) {lag width o : Nat} (h : lag < o) :
    makePulse t lag width o = [⟨t + BitVec.ofNat 24 o, t + BitVec.ofNat 24 (o + width), .waiting⟩] := by
  rw [makePulse, if_neg (by omega), if_neg (by omega)]

theorem makePulse_begun (t : Count) {lag width o : Nat} (h : o ≤ lag) (hend : lag < o + width) :
    makePulse t lag width o = [⟨t + BitVec.ofNat 24 o, t + BitVec.ofNat 24 (o + width), .delivering⟩] := by
  rw [makePulse, if_neg (by omega), if_pos h]

theorem makePulse_past (t : Count) {lag width o : Nat} (h : o + width ≤ lag) :
    makePulse t lag width o = [] := if_pos h

/-- Settles O25: the split of the demand, and the first pulse by the lag; a half-cycle is longer than any lag,
so the second pulse waits. -/
theorem ballastFiring : Obligations.BallastFiring := by
  intro t lag p s hedge hlag
  obtain ⟨plantFirst, shedFirst, hexec⟩ := exec_validEdge lag hedge
  refine ⟨_, hexec, ?_⟩
  obtain ⟨v, hfiring, hd, htables⟩ :=
    takersInOrder_firing plantFirst shedFirst (frequencyOf p) p t lag (periodTaken t p lag s)
  obtain ⟨-, -, -, -, -, -, htaken, -⟩ := periodTaken_frame t p lag s
  obtain ⟨-, -, -, -, hlow, -⟩ := hedge
  set u := takersInOrder plantFirst shedFirst (frequencyOf p) p t lag (periodTaken t p lag s)
  have hset := setting_congr (htables.trans htaken)
  have hcond : ∀ x, s.conduction x = v.conduction x := fun x => by
    rw [State.conduction, State.conduction, htables, htaken]
  simp -zeta only [hcond, ← hset, ← hd, hfiring]
  intro steps c h o w second
  have hc : c = v.conduction (trimOf v.gov.d) := rfl
  have ho : o = max (rawOffset c h) (v.setting Setting.EARLY_GUARD) := rfl
  have hh : h = p / 2 := rfl
  obtain ⟨h1, h2, h3⟩ := firingUpdate_banks p t lag v
  refine ⟨h1, h2, h3, fun hrefused => ?_, fun hne hmin hend => ?_⟩
  · refine firingUpdate_of_refused (hrefused.imp_right fun hguard => ?_)
    rw [← hc, ← hh]
    exact trimOffset_of_refused hguard
  · obtain ⟨hpulses, hcount, hgate⟩ := firingUpdate_of_passed (t := t) (lag := lag) hne
      (trimOffset_of_passed hmin hend)
    have hlater : makePulse t lag w (h + o) = [second] := makePulse_waiting t (by omega)
    rw [← hh, ← hc, ← ho, hlater] at hpulses hgate
    refine ⟨hcount, fun hwait => ?_, fun hbegun hlast => ?_, fun hpast => ?_⟩
    · rw [hpulses, hgate, makePulse_waiting t hwait]
      exact ⟨rfl, rfl⟩
    · rw [hpulses, hgate, makePulse_begun t hbegun hlast]
      exact ⟨rfl, rfl⟩
    · rw [hpulses, hgate, makePulse_past t hpast]
      exact ⟨rfl, rfl⟩

end Sys2Proof.Proofs
end

section
namespace Sys2Proof.Proofs
open Sys2Proof.Machine Sys2Proof.Safety

/-! ## The record of a valid period before its observers take it (R8, R17, R30) -/

theorem applyPendingGain_agree {r s : State} (h : RecordAgree r s) : RecordAgree
    (match s.gov.pendingSet with
      | some g => { r with journal := r.journal.push r.time.clock .gain none g.code }
      | none => r) (applyPendingGain s) := by
  unfold applyPendingGain
  cases s.gov.pendingSet with
  | none => exact h
  | some g =>
    have hmap : RecordAgree r (s.mapGov fun gov => { gov with active := g, pendingSet := none }) :=
      h.trans (.of_loop rfl rfl rfl rfl rfl)
    exact hmap.journalAppend .gain none g.code

/-- The engagement and the law leave the record. -/
theorem governorUpdate_agree (f : Nat) (s : State) :
    RecordAgree (applyPendingGain s) (governorUpdate f s) := by
  have hmap : ∀ (g : Governor → Governor) (u : State), RecordAgree u (u.mapGov g) :=
    fun g u => .of_loop rfl rfl rfl rfl rfl
  have hengage : ∀ e u, RecordAgree u (engage f e u) := fun e u => by
    unfold engage
    split
    · exact hmap _ _
    · exact .refl u
  have hlaw : ∀ e u, RecordAgree u (runLaw e u) := fun e u => by
    unfold runLaw
    split
    · exact hmap _ _
    · exact .refl u
  exact (hengage _ _).trans (hlaw _ _)

theorem addTimeError_agree {r s : State} (h : RecordAgree r s) (x : Int) :
    RecordAgree (timeErrorRecord (max (-30000) (min 30000 (s.time.te + x))) r) (addTimeError x s) := by
  have hmapped : RecordAgree r (s.mapTime fun t => { t with te := clampInt (-30000) 30000 (t.te + x) }) :=
    h.trans (.of_loop rfl rfl rfl rfl rfl)
  have hlimit : atLimit (clampInt (-30000) 30000 (s.time.te + x)) = true ↔
      max (-30000) (min 30000 (s.time.te + x)) = -30000 ∨ max (-30000) (min 30000 (s.time.te + x)) = 30000 := by
    simp [atLimit, clampInt]
  unfold timeErrorRecord addTimeError judgeTimeError
  by_cases hat : max (-30000) (min 30000 (s.time.te + x)) = -30000 ∨ max (-30000) (min 30000 (s.time.te + x)) = 30000
  · rw [if_pos hat, if_pos (by exact hlimit.mpr hat)]
    exact hmapped.raise .timeErrorLimit none
  · rw [if_neg hat, if_neg (by exact fun h => hat (hlimit.mp h))]
    exact hmapped.causeEnd .timeErrorLimit

theorem recoverSignal_agree {r s : State} (h : RecordAgree r s) : RecordAgree
    (if s.edge.signal = .lost ∧ s.edge.toothSilent = true then raise .shaftSensor none r else r)
    (recoverSignal s) := by
  have hpresent : RecordAgree r (plantSignalPresent (s.mapEdge fun e => { e with signal := .present })) :=
    h.trans (.of_loop rfl rfl rfl rfl rfl)
  unfold recoverSignal signalEntersPresent
  by_cases hlost : s.edge.signal = .lost
  · by_cases hsilent : s.edge.toothSilent = true
    · rw [if_pos ⟨hlost, hsilent⟩, if_pos hlost, if_pos hsilent]
      have hcause : RecordAgree r ((plantSignalPresent (s.mapEdge fun e => { e with signal := .present })).mapEdge
          fun e => { e with shaftCause := true }) := hpresent.trans (.of_loop rfl rfl rfl rfl rfl)
      exact hcause.raise .shaftSensor none
    · rw [if_neg fun h => hsilent h.2, if_pos hlost, if_neg hsilent]
      exact hpresent
  · rw [if_neg fun h => hlost h.1, if_neg hlost]
    exact h

/-- The record of the period before its Governor's part. -/
def takenRecord (s : State) : State :=
  timeErrorRecord (max (-30000) (min 30000 (s.time.te + 1)))
    (if s.edge.signal = .lost ∧ s.edge.toothSilent = true then raise .shaftSensor none s else s)

theorem periodTaken_agree (t : Count) (p lag : Nat) (s : State) :
    RecordAgree (takenRecord s) (periodTaken t p lag s) := by
  have hstore : RecordAgree s (storePeriod t p lag { acceptLevel .xing true s with draws := s.draws + 1 }) :=
    .of_loop rfl rfl rfl rfl rfl
  have hte : (recoverSignal (storePeriod t p lag { acceptLevel .xing true s with draws := s.draws + 1 })).time.te =
      s.time.te := by simp [acceptLevel]
  have hrecover := addTimeError_agree (recoverSignal_agree hstore) 1
  rw [hte] at hrecover
  exact hrecover

theorem periodTaken_loop (t : Count) (p lag : Nat) (s : State) :
    ∃ a b, (periodTaken t p lag s).loop = { s.loop with answers := a, held := b } := by
  have hraise : ∀ (c : Condition) (u : State), (∃ a b, u.loop = { s.loop with answers := a, held := b }) →
      ∃ a b, (raise c none u).loop = { s.loop with answers := a, held := b } := by
    rintro c u ⟨a, b, hu⟩
    exact ⟨_, b, by rw [raise_loop, hu]⟩
  have hrecover : ∃ a b, (recoverSignal (storePeriod t p lag
      { acceptLevel .xing true s with draws := s.draws + 1 })).loop = { s.loop with answers := a, held := b } := by
    unfold recoverSignal signalEntersPresent
    repeat' split
    · exact hraise _ _ ⟨_, _, rfl⟩
    · exact ⟨_, _, rfl⟩
    · exact ⟨_, _, rfl⟩
  obtain ⟨a, b, hab⟩ := hrecover
  unfold periodTaken addTimeError judgeTimeError
  split
  · exact hraise _ _ ⟨a, b, hab⟩
  · exact ⟨a, b, hab⟩

/-! ## What the observers of a demand update read -/

/-- The state that the observers take at a valid period stands to the state before the period as follows. -/
structure PeriodSeen (s w : State) : Prop where
  hamlet : w.hamlet = s.hamlet
  shed : w.shed = s.shed
  saw : w.saw = s.saw
  tables : w.tables = s.tables
  gate : w.water.gate = s.water.gate
  state : w.plant.state = s.plant.state
  record : RecordAgree (periodRecord s) w
  loop : ∃ a b, w.loop = { s.loop with answers := a, held := b }

theorem PeriodSeen.follow {s w : State} (h : PeriodSeen s w) : Follow s w := by
  refine .of_same h.tables ?_ h.loop
  exact slotOrder_congr h.gate (by rw [h.saw]) h.hamlet

theorem demandUpdate_gate (s : State) : (demandUpdate s).water.gate = s.water.gate := by
  unfold demandUpdate
  split <;> rfl

/-- The Governor's update and the firing, on a state that differs from the taken period in the plant's timers
alone. -/
theorem periodSeen_of_mapPlant (t : Count) (p lag : Nat) (s : State) {g : Plant → Plant}
    (hg : ∀ x, (g x).state = x.state) : PeriodSeen s (demandUpdate (firingUpdate p t lag
      (governorUpdate (frequencyOf p) ((periodTaken t p lag s).mapPlant g)))) := by
  obtain ⟨hgov, -, hwater, hhamlet, hshed, hsaw, htables, -⟩ := periodTaken_frame t p lag s
  have htaken : RecordAgree (takenRecord s) ((periodTaken t p lag s).mapPlant g) :=
    (periodTaken_agree t p lag s).trans (.of_loop rfl rfl rfl rfl rfl)
  have hrecord : RecordAgree (periodRecord s) (applyPendingGain ((periodTaken t p lag s).mapPlant g)) := by
    have happly := applyPendingGain_agree htaken
    rw [show ((periodTaken t p lag s).mapPlant g).gov = s.gov from hgov] at happly
    exact happly
  obtain ⟨a, b, hloop⟩ := periodTaken_loop t p lag s
  refine ⟨by simp [hhamlet], by simp [hshed], by simp [hsaw], by simp [htables], ?_, by simp [hg], ?_,
    a, b, by simp [hloop]⟩
  · rw [demandUpdate_gate]
    simp [hwater]
  · refine (hrecord.trans (governorUpdate_agree (frequencyOf p) _)).trans (.of_loop ?_ ?_ ?_ ?_ ?_) <;> simp

/-- At a valid period that does not bring the plant to RUN the observers take a state that differs from the one
before the period in what the period itself writes, and the plant's timers are set before or after them. -/
theorem takersInOrder_seen (plantFirst shedFirst : Bool) (t : Count) (p lag : Nat) {s : State}
    (hlast : ¬acceptsLast (frequencyOf p) (periodTaken t p lag s)) :
    ∃ w g, PeriodSeen s w ∧
      takersInOrder plantFirst shedFirst (frequencyOf p) p t lag (periodTaken t p lag s) =
        (observersInOrder shedFirst (frequencyOf p) (s.freqError (frequencyOf p)) p w).mapPlant g := by
  set f := frequencyOf p with hf
  set x := periodTaken t p lag s with hx
  obtain ⟨-, -, -, -, -, -, htables, -⟩ := periodTaken_frame t p lag s
  have herror : x.freqError f = s.freqError f := by
    simp only [State.freqError, State.fSet, State.offset, State.nominal, hx, periodTaken_direction,
      setting_congr htables]
  have hperiod : ∀ u : State, ¬acceptsLast f u →
      ∃ g : Plant → Plant, (∀ y, (g y).state = y.state) ∧ plantPeriod f u = u.mapPlant g := by
    intro u hu
    refine ⟨fun y => timersWatched f u { y with accept := if u.plant.state = .runup then
      (if u.inBand f = true then y.accept + 1 else 0) else y.accept }, fun y => rfl, ?_⟩
    rw [plantPeriod_eq, acceptPeriod_of_not_last hu]
    rfl
  cases plantFirst with
  | true =>
    obtain ⟨g, hstate, hg⟩ := hperiod x hlast
    refine ⟨_, id, periodSeen_of_mapPlant t p lag s hstate, ?_⟩
    have hsame : (x.mapPlant g).freqError f = s.freqError f := herror
    simp only [takersInOrder, if_true, demandUpdates, hg]
    rw [hsame]
    rfl
  | false =>
    have hsame : ∀ u : State, u.plant = x.plant → u.tables = x.tables → (acceptsLast f u ↔ acceptsLast f x) := by
      intro u hplant htab
      have hband : u.inBand f = x.inBand f := by
        rw [State.inBand, State.inBand, State.nominal, State.nominal, setting_congr htab]
      rw [acceptsLast, acceptsLast, hplant, hband, setting_congr htab]
    set v := demandUpdates shedFirst f p t lag x with hv
    have hplant : v.plant = x.plant := by simp [hv, demandUpdates]
    have htab : v.tables = x.tables := by simp [hv, demandUpdates]
    obtain ⟨g, -, hg⟩ := hperiod v fun h => hlast ((hsame v hplant htab).mp h)
    refine ⟨_, g, periodSeen_of_mapPlant t p lag s (g := id) fun _ => rfl, ?_⟩
    simp only [takersInOrder, ← hv, Bool.false_eq_true, if_false, hg]
    rw [hv, demandUpdates, herror]
    rfl

end Sys2Proof.Proofs
end

section
namespace Sys2Proof.Proofs
open Sys2Proof.Machine Sys2Proof.Safety

/-! ## The saw at a demand update without a shed request of its own (R141, R148) -/

/-- The saw has taken a demand update without a shed request; `noted` says whether it has entered ENGAGING. -/
structure SawOnly (noted : Bool) (s t : State) : Prop where
  hamlet : t.hamlet = s.hamlet
  shed : t.shed = s.shed
  tables : t.tables = s.tables
  plant : t.plant = s.plant
  water : t.water = s.water
  clock : t.time = s.time
  demand : t.gov.d = s.gov.d
  state : t.saw.state = if noted then .engaging else s.saw.state
  record : RecordAgree (if noted then sawNoted 2 s else s) t
  follow : Follow s t

theorem SawOnly.refl (s : State) : SawOnly false s s :=
  ⟨rfl, rfl, rfl, rfl, rfl, rfl, rfl, rfl, .refl s, .refl s⟩

theorem setSawOrder_agree (o : SawOrder) (s : State) : RecordAgree s (setSawOrder o s) := by
  refine .of_slots (by simp) (by simp) ?_ (by simp) (by simp)
  rw [setSawOrder_loop]
  split
  · exact ⟨_, rfl⟩
  · exact ⟨_, rfl⟩

/-- The entry to ENGAGING requests the SAW set, orders ENGAGE, and is journalled (R141, R143). -/
theorem sawOnly_enterEngaging (s : State) : SawOnly true s (enterEngaging s) := by
  refine ⟨by simp, by simp, by simp, by simp, by simp, by simp, by simp [enterEngaging],
    by simp [enterEngaging], ?_, .of_ordersFollow (.of_saw (by simp) (by simp) (by simp) ?_)⟩
  · have hmap : RecordAgree s (s.mapSaw fun w => { w with
        state := .engaging
        reserve := none
        settle := none
        confirm := some (seconds (s.setting Setting.CLUTCH_CONFIRM))
        engagedSeen := false }) := .of_loop rfl rfl rfl rfl rfl
    have horder := hmap.trans (setSawOrder_agree { s.saw.order with clutch := .engage, feed := 0, lamp := .wait } _)
    have hgain := horder.trans (RecordAgree.of_loop (t := requestGain .saw _) rfl rfl rfl rfl rfl)
    exact hgain.journalAppend .saw none 2
  · simp [enterEngaging, setSawOrder_loop, State.mapped]

/-- A new feed scale is an order of its own (R148). -/
theorem sawOnly_feedUpdate (f : Nat) (s : State) : SawOnly false s (feedUpdate f s) := by
  unfold feedUpdate
  dsimp only
  split
  · exact ⟨by simp, by simp, by simp, by simp, by simp, by simp, by simp, by simp, setSawOrder_agree _ _,
      .of_ordersFollow (.of_saw (by simp) (by simp) (by simp) (by simp))⟩
  · exact .refl s

/-- The saw makes no shed request of its own at this update (R141). -/
def SawQuiet (s : State) : Prop := s.saw.state = .reserving →
  s.plant.state ≠ .run ∨ s.saw.settle.isSome = true ∨ s.setting Setting.SAW_RESERVE_W ≤ s.surplus

theorem sawUpdate_of_engages {f : Nat} {s : State} (hstate : s.saw.state = .reserving)
    (h : s.setting Setting.SAW_RESERVE_W ≤ s.surplus) : sawUpdate f s = enterEngaging s := by
  simp [sawUpdate, hstate, reserveUpdate, h]

theorem sawUpdate_of_waits {f : Nat} {s : State} (hstate : s.saw.state = .reserving)
    (h : ¬s.setting Setting.SAW_RESERVE_W ≤ s.surplus)
    (hquiet : s.plant.state ≠ .run ∨ s.saw.settle.isSome = true) : sawUpdate f s = s := by
  have hreserve : sawUpdate f s = reserveUpdate s := by simp [sawUpdate, hstate]
  rw [hreserve, reserveUpdate, if_neg h]
  by_cases hsettle : s.saw.settle.isSome = true
  · rw [if_pos hsettle]
  · have hnone : s.sawShedAnswer = none := by
      rw [State.sawShedAnswer, if_neg (by rw [inPlant_iff]; exact hquiet.resolve_right hsettle)]
    rw [if_neg hsettle, hnone]

theorem sawUpdate_sawOnly (f : Nat) {s : State} (hquiet : SawQuiet s) :
    SawOnly (decide (s.saw.state = .reserving ∧ s.setting Setting.SAW_RESERVE_W ≤ s.surplus)) s (sawUpdate f s) := by
  cases hstate : s.saw.state with
  | reserving =>
    by_cases henough : s.setting Setting.SAW_RESERVE_W ≤ s.surplus
    · rw [sawUpdate_of_engages hstate henough, decide_eq_true ⟨rfl, henough⟩]
      exact sawOnly_enterEngaging s
    · rw [sawUpdate_of_waits hstate henough ((or_assoc.mpr (hquiet hstate)).resolve_right henough),
        decide_eq_false fun h => henough h.2]
      exact .refl s
  | running =>
    rw [decide_eq_false (by simp), show sawUpdate f s = feedUpdate f s by simp [sawUpdate, hstate]]
    exact sawOnly_feedUpdate f s
  | idle | engaging | stopping =>
    rw [decide_eq_false (by simp), show sawUpdate f s = s by simp [sawUpdate, hstate]]
    exact .refl s

/-! ## The conditions that a demand update and an entry to RUN may raise -/

/-- Of the conditions only PLANT_CHANGED, SHED_ACTIVE and NOTHING_TO_SHED may have changed, and no flag has been
cleared. -/
structure CondsGrow (s t : State) : Prop where
  quiet : ∀ c, c ∉ [Condition.plantChanged, .shedActive, .nothingToShed] → t.cond c = s.cond c
  flags : s.conds.length = 25 → t.conds.length = 25 ∧ ∀ c, (s.cond c).flag = true → (t.cond c).flag = true

namespace CondsGrow

theorem of_conds {s t : State} (h : t.conds = s.conds) : CondsGrow s t := by
  have hcond : ∀ c, t.cond c = s.cond c := fun c => by rw [State.cond, State.cond, h]
  exact ⟨fun c _ => hcond c, fun hlen => ⟨by rw [h, hlen], fun c hc => by rw [hcond, hc]⟩⟩

theorem refl (s : State) : CondsGrow s s := .of_conds rfl

theorem trans {s t u : State} (hst : CondsGrow s t) (htu : CondsGrow t u) : CondsGrow s u :=
  ⟨fun c hc => (htu.quiet c hc).trans (hst.quiet c hc), fun hlen =>
    ⟨(htu.flags (hst.flags hlen).1).1, fun c hc => (htu.flags (hst.flags hlen).1).2 c ((hst.flags hlen).2 c hc)⟩⟩

/-- An operation on other blocks may come first. -/
theorem after {s t u : State} (h : CondsGrow t u) (hconds : t.conds = s.conds) : CondsGrow s u :=
  (CondsGrow.of_conds hconds).trans h

theorem raise {s : State} (c : Condition) (hc : c ∈ [Condition.plantChanged, .shedActive, .nothingToShed])
    (x : Option Nat) : CondsGrow s (raise c x s) := by
  refine ⟨fun d hd => raise_cond_ne c d x s fun h => hd (h ▸ hc), fun hlen => ⟨by simp [hlen], fun d hd => ?_⟩⟩
  by_cases h : c = d
  · subst h
    obtain ⟨hflag, -⟩ := raise_cond_self c x s hlen
    exact hflag
  · rw [raise_cond_ne c d x s h, hd]

theorem appendRequest (i : Nat) (cause : ShedCause) (s : State) : CondsGrow s (appendRequest i cause s) := by
  rcases appendRequest_cases i cause s with ⟨-, -, -, h⟩ | h
  · rw [h]
    unfold appendTaken
    dsimp only
    split
    · exact (CondsGrow.raise .shedActive (by simp) none).after (by simp [pushShed])
    · exact .of_conds (by simp [pushShed])
  · rw [h]
    exact .refl s

theorem frequencyShed (s : State) : CondsGrow s (frequencyShed s) := by
  unfold Machine.frequencyShed
  split
  · exact .appendRequest _ _ _
  · exact .raise _ (by simp) _

theorem sheddingUpdate (f : Nat) (e : Int) (p : Nat) (s : State) : CondsGrow s (sheddingUpdate f e p s) := by
  have hemergency : ∀ u, CondsGrow u (emergencyTest f u) := fun u => by
    unfold emergencyTest
    split
    · exact (CondsGrow.frequencyShed _).after rfl
    · exact .refl u
  have htimer : ∀ u, CondsGrow u (shedTimerStep e p u) := fun u => by
    unfold shedTimerStep shedDue
    dsimp only
    repeat' split
    · exact (CondsGrow.frequencyShed _).after rfl
    · exact .of_conds rfl
    · exact .of_conds rfl
  have hrestore : ∀ u, CondsGrow u (restoreStep p u) := fun u => by
    unfold restoreStep
    dsimp only
    repeat' split
    · exact .of_conds (by simp)
    · exact .of_conds rfl
    · exact .of_conds rfl
  have hlower : CondsGrow s (lowerLockout s) := .of_conds rfl
  unfold Machine.sheddingUpdate
  split
  · exact hlower.trans ((hemergency _).trans ((htimer _).trans (hrestore _)))
  · exact .refl s

theorem sawUpdate (f : Nat) (s : State) : CondsGrow s (sawUpdate f s) := by
  have hreserve : CondsGrow s (reserveUpdate s) := by
    unfold reserveUpdate
    repeat' split
    · exact .of_conds (by simp)
    · exact .refl s
    · exact (CondsGrow.appendRequest _ _ _).trans (.of_conds rfl)
    · exact .refl s
  have hfeed : CondsGrow s (feedUpdate f s) := by
    unfold feedUpdate
    dsimp only
    split
    · exact .of_conds (by simp)
    · exact .refl s
  unfold Machine.sawUpdate
  split
  · exact hreserve
  · exact hfeed
  all_goals exact .refl s

theorem observersInOrder (shedFirst : Bool) (f : Nat) (e : Int) (p : Nat) (s : State) :
    CondsGrow s (observersInOrder shedFirst f e p s) := by
  cases shedFirst
  · exact (CondsGrow.sawUpdate f s).trans (.sheddingUpdate f e p _)
  · exact (CondsGrow.sheddingUpdate f e p s).trans (.sawUpdate f _)

theorem foldl {ι : Type} {step : State → ι → State} (hstep : ∀ s i, CondsGrow s (step s i)) (l : List ι) :
    ∀ s, CondsGrow s (l.foldl step s) := by
  induction l with
  | nil => exact CondsGrow.refl
  | cons i l ih => exact fun s => (hstep s i).trans (ih _)

theorem enterPlant_run (s : State) : CondsGrow s (enterPlant .run .runupDone s) := by
  have hrecord : CondsGrow s (recordEntry .run .runupDone s) :=
    (CondsGrow.raise .plantChanged (by simp) none).after (t := journalAppend .plant none _
      (s.mapPlant (Plant.enter .run .runupDone))) rfl
  have hwater : ∀ u, CondsGrow u (waterEntry .run u) := fun u => .of_conds (by simp [waterEntry])
  have henergise : ∀ u, CondsGrow u (energise u) := fun u =>
    (CondsGrow.foldl (fun s i => .of_conds (by simp)) _ u).trans (.foldl (fun s i => .appendRequest i .runup s) _ _)
  have hsaw : ∀ u, sawEntry .run u = u := fun u => by simp [sawEntry]
  rw [enterPlant, hsaw]
  exact hrecord.trans ((hwater _).trans (henergise _))

theorem plantPeriod (f : Nat) (s : State) : CondsGrow s (plantPeriod f s) := by
  rw [plantPeriod_eq]
  by_cases hlast : acceptsLast f s
  · rw [acceptPeriod_of_last hlast]
    have hentry := (CondsGrow.enterPlant_run (s.mapPlant fun p => { p with accept := p.accept + 1 })).after
      (s := s) rfl
    exact hentry.trans (.of_conds (by rw [State.mapPlant_conds]))
  · rw [acceptPeriod_of_not_last hlast]
    exact .of_conds rfl

theorem demandUpdates (shedFirst : Bool) (f p : Nat) (t : Count) (lag : Nat) (s : State) :
    CondsGrow s (demandUpdates shedFirst f p t lag s) := by
  unfold Machine.demandUpdates
  exact (CondsGrow.observersInOrder shedFirst f (s.freqError f) p _).after (by simp)

theorem takersInOrder (plantFirst shedFirst : Bool) (f p : Nat) (t : Count) (lag : Nat) (s : State) :
    CondsGrow s (takersInOrder plantFirst shedFirst f p t lag s) := by
  unfold Machine.takersInOrder
  split
  · exact (CondsGrow.plantPeriod f s).trans (.demandUpdates shedFirst f p t lag _)
  · exact (CondsGrow.demandUpdates shedFirst f p t lag s).trans (.plantPeriod f _)

end CondsGrow

end Sys2Proof.Proofs
end

section
namespace Sys2Proof.Proofs
open Sys2Proof.Machine Sys2Proof.Safety

/-! ## The edge and the plant after a valid period -/

theorem periodTaken_edge (t : Count) (p lag : Nat) (s : State) : (periodTaken t p lag s).edge = { s.edge with
    xing := { s.edge.xing with level := true, run := 0 }
    tPrev := some t
    period := some p
    freq := some (2000000000 / p)
    lossTimer := some (200000 - lag)
    signal := .present
    shaftCause := s.edge.shaftCause || (s.edge.signal == .lost && s.edge.toothSilent) } := by
  unfold periodTaken recoverSignal signalEntersPresent raiseShaft plantSignalPresent
  cases hsignal : s.edge.signal <;> cases hsilent : s.edge.toothSilent <;>
    simp [acceptLevel, storePeriod, hsignal, hsilent, frequencyOf, lossLeft, lossCounts]

theorem periodTaken_time (t : Count) (p lag : Nat) (s : State) :
    (periodTaken t p lag s).time = { s.time with te := max (-30000) (min 30000 (s.time.te + 1)) } := by
  unfold periodTaken addTimeError judgeTimeError
  split <;> simp [acceptLevel, clampInt]

/-- The plant after its part of a valid period, as a function of the plant and the settings before it. -/
theorem plantPeriod_plant_congr {f : Nat} {s u : State} (hplant : u.plant = s.plant) (htables : u.tables = s.tables) :
    (plantPeriod f u).plant = (plantPeriod f s).plant := by
  have hset := setting_congr htables
  have hband : u.inBand f = s.inBand f := by
    rw [State.inBand, State.inBand, State.nominal, State.nominal, hset]
  have hlast : acceptsLast f u ↔ acceptsLast f s := by
    rw [acceptsLast, acceptsLast, hplant, hband, hset]
  have hnominal : u.nominal = s.nominal := by rw [State.nominal, State.nominal, hset]
  have hover : overspeedAfter f u = overspeedAfter f s := by
    funext x
    rw [overspeedAfter, overspeedAfter, hnominal, hset]
  have hcollapse : collapseAfter f u = collapseAfter f s := by
    funext x
    rw [collapseAfter, collapseAfter, hnominal, hset, hset]
  have htimers : timersWatched f u = timersWatched f s := by
    funext p
    rw [timersWatched, timersWatched, hover, hcollapse]
  rw [plantPeriod_plant, plantPeriod_plant, htimers]
  by_cases h : acceptsLast f s
  · rw [acceptPeriod_of_last h, acceptPeriod_of_last (hlast.mpr h), enterPlant_plant, enterPlant_plant]
    simp [hplant]
  · rw [acceptPeriod_of_not_last h, acceptPeriod_of_not_last (mt hlast.mp h)]
    simp [hplant, hband]

theorem takersInOrder_plant (plantFirst shedFirst : Bool) (f p : Nat) (t : Count) (lag : Nat) (s : State) :
    (takersInOrder plantFirst shedFirst f p t lag s).plant = (plantPeriod f s).plant := by
  cases plantFirst with
  | true => simp [takersInOrder, demandUpdates]
  | false => exact plantPeriod_plant_congr (by simp [demandUpdates]) (by simp [demandUpdates])

theorem takersInOrder_time (plantFirst shedFirst : Bool) (f p : Nat) (t : Count) (lag : Nat) (s : State) :
    (takersInOrder plantFirst shedFirst f p t lag s).time = s.time := by
  cases plantFirst <;> simp [takersInOrder, demandUpdates, plantPeriod_gov_time]

/-- In RUN the demand after the update is added to the sum (R77). -/
theorem takersInOrder_water {plantFirst shedFirst : Bool} {f p : Nat} {t : Count} {lag : Nat} {s : State}
    (h : s.plant.state = .run) : (takersInOrder plantFirst shedFirst f p t lag s).water = { s.water with
      demandSum := s.water.demandSum + (takersInOrder plantFirst shedFirst f p t lag s).gov.d
      demandCount := s.water.demandCount + 1 } := by
  have hnot : ∀ u : State, u.plant.state = .run → plantPeriod f u = u.mapPlant (timersWatched f u) := by
    intro u hu
    have hlast : ¬acceptsLast f u := fun hlast => by
      obtain ⟨hrunup, -⟩ := hlast
      simp [hu] at hrunup
    rw [plantPeriod_eq, acceptPeriod_of_not_last hlast]
    congr 1
    exact mapPlant_eq_self (by rw [if_neg (by simp [hu])])
  have hdemand : ∀ u : State, u.plant.state = .run → (demandUpdates shedFirst f p t lag u).water = { u.water with
      demandSum := u.water.demandSum + (demandUpdates shedFirst f p t lag u).gov.d
      demandCount := u.water.demandCount + 1 } := by
    intro u hu
    obtain ⟨g, hg⟩ := demandUpdates_gov shedFirst f p t lag u
    rw [hg]
    simp [demandUpdates, demandUpdate, State.inPlant, hu]
  cases plantFirst with
  | true =>
    rw [takersInOrder, if_pos rfl, hnot s h]
    exact hdemand _ h
  | false =>
    have hrun : (demandUpdates shedFirst f p t lag s).plant.state = .run := by simp [demandUpdates, h]
    rw [takersInOrder, if_neg (by decide), hnot _ hrun]
    exact hdemand s h

/-- The gain set that is active after an update. -/
theorem governorLaw_active (f : Nat) (s : State) : (governorLaw f s).active = s.gov.pendingSet.getD s.gov.active ∧
    (engagingLaw f s).active = s.gov.pendingSet.getD s.gov.active := by
  have hstep : ∀ kp ki e g, (piStep kp ki e g).active = g.active := by
    intro kp ki e g
    unfold piStep
    dsimp only
    repeat' split
    all_goals rfl
  rw [governorLaw, engagingLaw, hstep, hstep, applyPendingGain_gov]
  exact ⟨rfl, rfl⟩

/-! ## The record where nothing is shed or restored -/

/-- With nothing listed, no emergency and no shed timer running, an update changes the timers at most. -/
theorem sheddingUpdate_of_nothing {f : Nat} {e : Int} {p : Nat} {s : State} (hlist : s.shed.list = [])
    (htimer : s.shed.shedTimer = none) (hemergency : s.emergency f = false)
    (hdelay : 1 ≤ s.setting Setting.SHED_DELAY) : ∃ g, sheddingUpdate f e p s = s.mapShed g := by
  have htest : emergencyTest f (lowerLockout s) = lowerLockout s := by
    have : (lowerLockout s).emergency f = false := hemergency
    rw [emergencyTest, this, Bool.false_and, if_neg (by decide)]
  obtain ⟨g, hg, hkeep⟩ : ∃ g : Shedding → Shedding, shedTimerStep e p (lowerLockout s) = s.mapShed g ∧
      (g s.shed).list = [] := by
    have hnotdue : ¬seconds ((lowerLockout s).setting Setting.SHED_DELAY) ≤
        shedTimerAfter p (lowerLockout s).shed.shedTimer := by
      have hset : (lowerLockout s).setting Setting.SHED_DELAY = s.setting Setting.SHED_DELAY := rfl
      rw [show (lowerLockout s).shed.shedTimer = none from htimer, hset, shedTimerAfter, seconds]
      omega
    unfold shedTimerStep
    dsimp only
    rw [if_neg hnotdue]
    split
    · exact ⟨fun l => { l with lockout := l.lockout - 1, shedTimer := some (shedTimerAfter p l.shedTimer) },
        rfl, hlist⟩
    · exact ⟨fun l => { l with lockout := l.lockout - 1, shedTimer := none }, rfl, hlist⟩
  have hnone : (s.mapShed g).restorable = none := by
    have hcandidate : (s.mapShed g).restoreCandidate = none := by
      simp [State.restoreCandidate, hkeep]
    rw [State.restorable, hcandidate]
  unfold sheddingUpdate
  split
  · rw [htest, hg, restoreStep, hnone]
    exact ⟨fun l => { g l with restoreTimer := none }, rfl⟩
  · exact ⟨id, rfl⟩

/-- Where the shedding changes timers at most and the saw makes no request, the record takes the saw's entry to
ENGAGING alone. -/
theorem observersInOrder_record (shedFirst : Bool) {f : Nat} {e : Int} {p : Nat} {w : State} (hsaw : SawQuiet w)
    (hshed : ∀ v : State, v.shed = w.shed → v.plant = w.plant → v.tables = w.tables →
      ∃ g, sheddingUpdate f e p v = v.mapShed g) :
    RecordAgree (if w.saw.state = .reserving ∧ w.setting Setting.SAW_RESERVE_W ≤ w.surplus then sawNoted 2 w else w)
      (observersInOrder shedFirst f e p w) := by
  cases shedFirst with
  | true =>
    obtain ⟨g, hg⟩ := hshed w rfl rfl rfl
    have hrecord := (sawUpdate_sawOnly f (s := w.mapShed g) hsaw).record
    rw [observersInOrder, if_pos rfl, hg]
    refine RecordAgree.trans ?_ hrecord
    simp only [decide_eq_true_eq]
    split
    · rename_i h
      rw [if_pos (by exact h)]
      exact RecordAgree.journalAppend (r := w) (t := w.mapShed g) (.of_loop rfl rfl rfl rfl rfl) .saw none 2
    · rename_i h
      rw [if_neg (by exact h)]
      exact .of_loop rfl rfl rfl rfl rfl
  | false =>
    have honly := sawUpdate_sawOnly f hsaw
    obtain ⟨g, hg⟩ := hshed _ honly.shed honly.plant honly.tables
    have hrecord := honly.record
    simp only [decide_eq_true_eq] at hrecord
    have hobservers : observersInOrder false f e p w = (sawUpdate f w).mapShed g := hg
    rw [hobservers]
    exact hrecord.trans (.of_loop rfl rfl rfl rfl rfl)

theorem periodRecord_conds (s : State) : (periodRecord s).conds = (takenRecord s).conds := by
  unfold periodRecord
  cases s.gov.pendingSet <;> rfl

/-- The record of a period whose observers shed and restore nothing. -/
theorem validEdge_record {plantFirst shedFirst : Bool} {t : Count} {p lag : Nat} {s : State}
    (hlast : ¬acceptsLast (frequencyOf p) (periodTaken t p lag s))
    (hsaw : s.saw.state = .reserving → s.plant.state ≠ .run)
    (hshed : ∀ v : State, v.shed = s.shed → v.plant.state = s.plant.state → v.tables = s.tables →
      ∃ g, sheddingUpdate (frequencyOf p) (s.freqError (frequencyOf p)) p v = v.mapShed g) :
    let u := takersInOrder plantFirst shedFirst (frequencyOf p) p t lag (periodTaken t p lag s)
    SameRecord (if s.saw.state = .reserving ∧ s.setting Setting.SAW_RESERVE_W ≤
      u.gov.d * s.setting Setting.BALLAST_W / 4096 then sawNoted 2 (periodRecord s) else periodRecord s) u := by
  intro u
  obtain ⟨w, g, hseen, hu⟩ := takersInOrder_seen plantFirst shedFirst t p lag hlast
  obtain ⟨g', hgov⟩ := observersInOrder_gov shedFirst (frequencyOf p) (s.freqError (frequencyOf p)) p w
  have hset := setting_congr hseen.tables
  have hsurplus : w.surplus = u.gov.d * s.setting Setting.BALLAST_W / 4096 := by
    simp only [u]
    rw [State.surplus, hu, State.mapPlant_gov, hgov, hset]
    rfl
  have hrecord := observersInOrder_record shedFirst (w := w)
    (fun hreserve => .inl (hseen.state.trans_ne (hsaw (by rw [← hseen.saw]; exact hreserve))))
    fun v hv hplant htab => hshed v (hv.trans hseen.shed) ((congrArg Plant.state hplant).trans hseen.state)
      (htab.trans hseen.tables)
  rw [hseen.saw, hset, hsurplus] at hrecord
  have hstart : RecordAgree (if s.saw.state = .reserving ∧ s.setting Setting.SAW_RESERVE_W ≤
      u.gov.d * s.setting Setting.BALLAST_W / 4096 then sawNoted 2 (periodRecord s) else periodRecord s)
      (if s.saw.state = .reserving ∧ s.setting Setting.SAW_RESERVE_W ≤
        u.gov.d * s.setting Setting.BALLAST_W / 4096 then sawNoted 2 w else w) := by
    split
    · exact hseen.record.journalAppend .saw none 2
    · exact hseen.record
  refine (hstart.trans (hrecord.trans ?_)).sameRecord
  simp only [u]
  rw [hu]
  exact .of_loop rfl rfl rfl rfl rfl

end Sys2Proof.Proofs
end

section
namespace Sys2Proof.Proofs
open Sys2Proof.Machine Sys2Proof.Safety

/-! ## O22: an accepted valid period -/

/-- The active gain set after a valid period is the pending one, if there was one (R30). -/
theorem validEdge_active (plantFirst shedFirst : Bool) (t : Count) (p lag : Nat) (s : State) :
    (takersInOrder plantFirst shedFirst (frequencyOf p) p t lag (periodTaken t p lag s)).gov.active =
      s.gov.pendingSet.getD s.gov.active := by
  obtain ⟨g, hg⟩ := validEdge_gov plantFirst shedFirst t p lag s
  obtain ⟨hlaw, hengaging⟩ := governorLaw_active (frequencyOf p) s
  rw [hg]
  dsimp only
  split
  · exact hlaw
  · split
    · exact hengaging
    · rw [applyPendingGain_gov]

/-- The plant after a valid period outside RUNUP: the timers alone. -/
theorem validEdge_plant_of_not_runup (t : Count) (p lag : Nat) {s : State} (f : Nat) (h : s.plant.state ≠ .runup) :
    (plantPeriod f (periodTaken t p lag s)).plant = { s.plant with
      signalLoss := if s.edge.signal = .lost then none else s.plant.signalLoss
      freqOverspeed := if s.plant.state = .tripped then s.plant.freqOverspeed
        else overspeedAfter f (periodTaken t p lag s) s.plant.freqOverspeed
      collapse := if s.plant.state = .run then collapseAfter f (periodTaken t p lag s) s.plant.collapse
        else s.plant.collapse } := by
  have hlast : ¬acceptsLast f (periodTaken t p lag s) := fun hlast => by
    obtain ⟨hrunup, -⟩ := hlast
    exact h (by rwa [periodTaken_state] at hrunup)
  rw [plantPeriod_plant, acceptPeriod_of_not_last hlast, State.mapPlant_plant, periodTaken_state]
  simp only [if_neg h, timersWatched, periodTaken_plant]

/-- The plant after a valid period in RUNUP: the count, and the entry to RUN at the last acceptance. -/
theorem validEdge_plant_of_runup (t : Count) (p lag : Nat) {s : State} (f : Nat) (h : s.plant.state = .runup) :
    let x := periodTaken t p lag s
    let u := (plantPeriod f x).plant
    u.freqOverspeed = overspeedAfter f x s.plant.freqOverspeed ∧
      (x.inBand f = false → u.state = .runup ∧ u.accept = 0) ∧
      (x.inBand f = true → s.plant.accept + 1 < x.setting Setting.RUNUP_ACCEPT →
        u.state = .runup ∧ u.accept = s.plant.accept + 1) ∧
      (x.inBand f = true → x.setting Setting.RUNUP_ACCEPT ≤ s.plant.accept + 1 →
        u.state = .run ∧ u.cause = .runupDone ∧ u.accept = s.plant.accept + 1 ∧ u.runupTimer = none) := by
  intro x u
  have hstate : x.plant.state = .runup := by simp [x, h]
  have haccept : x.plant.accept = s.plant.accept := by simp [x, periodTaken_plant]
  have hover : x.plant.freqOverspeed = s.plant.freqOverspeed := by simp [x, periodTaken_plant]
  have hu : u = timersWatched f x (acceptPeriod f x).plant := plantPeriod_plant f x
  by_cases hlast : acceptsLast f x
  · obtain ⟨-, hband, hle⟩ := id hlast
    rw [haccept] at hle
    rw [hu, acceptPeriod_of_last hlast, enterPlant_plant]
    simp [timersWatched, Plant.enter, haccept, hover, hband, hle]
  · have hnot : x.inBand f = true → ¬x.setting Setting.RUNUP_ACCEPT ≤ s.plant.accept + 1 :=
      fun hband hle => hlast ⟨hstate, hband, by rwa [haccept]⟩
    rw [hu, acceptPeriod_of_not_last hlast]
    refine ⟨by simp [timersWatched, hstate, hover], fun hband => by simp [timersWatched, hstate, hband],
      fun hband _ => by simp [timersWatched, hstate, hband, haccept], fun hband hle => absurd hle (hnot hband)⟩

/-- Settles O22: what the period writes itself, and what each of its takers makes of it. -/
theorem validPeriod : Obligations.ValidPeriod := by
  intro t lag p s hedge f fast slow inBand
  obtain ⟨plantFirst, shedFirst, hexec⟩ := exec_validEdge lag hedge
  set x := periodTaken t p lag s with hx
  set u := takersInOrder plantFirst shedFirst (frequencyOf p) p t lag x with hu
  obtain ⟨-, -, hwater, -, -, -, htables, hpins, hpending, hdraws⟩ := periodTaken_frame t p lag s
  obtain ⟨hedge', hpins', htables', hdraws', hpending'⟩ :=
    takersInOrder_frame plantFirst shedFirst (frequencyOf p) p t lag x
  have hset := setting_congr htables
  have hnominal : x.nominal = s.nominal := by rw [State.nominal, State.nominal, hset]
  have hfast : overspeedAfter (frequencyOf p) x s.plant.freqOverspeed = fast := by
    rw [overspeedAfter, hnominal, hset]; rfl
  have hslow : collapseAfter (frequencyOf p) x s.plant.collapse = slow := by
    rw [collapseAfter, hnominal, hset, hset]; rfl
  have hband : x.inBand (frequencyOf p) = true ↔ inBand := by
    rw [State.inBand, Bool.and_eq_true, decide_eq_true_eq, decide_eq_true_eq, hnominal]; rfl
  have hplant : u.plant = (plantPeriod (frequencyOf p) x).plant := takersInOrder_plant _ _ _ _ _ _ _
  have hgrow : CondsGrow x u := .takersInOrder plantFirst shedFirst (frequencyOf p) p t lag x
  have hcond : ∀ c, c ∉ [Condition.plantChanged, .shedActive, .nothingToShed] → u.cond c = (periodRecord s).cond c := by
    intro c hc
    rw [hgrow.quiet c hc, (periodTaken_agree t p lag s).cond, State.cond, State.cond, periodRecord_conds]
  refine ⟨u, hexec, ?edge, ?time, ?active, fun hrun => ?water, fun hstate => ?plant, fun hstate => ?runup,
    hcond _ (by simp), hcond _ (by simp), fun hbefore hafter => ?idle, fun hrun hsaw hlist hfreq htimer hdelay => ?run,
    ?draws, ?tables, ?pins, ?pending⟩
  case edge => exact hedge'.trans (periodTaken_edge t p lag s)
  case time => exact (takersInOrder_time plantFirst shedFirst (frequencyOf p) p t lag x).trans (periodTaken_time t p lag s)
  case active => exact validEdge_active plantFirst shedFirst t p lag s
  case water =>
    have hsum : u.water = _ := takersInOrder_water (by rw [hx, periodTaken_state, hrun])
    rw [hwater] at hsum
    exact hsum
  case plant => rw [hplant, validEdge_plant_of_not_runup t p lag _ hstate, ← hx, hfast, hslow]
  case runup =>
    obtain ⟨hover, hout, hmore, hdone⟩ := validEdge_plant_of_runup t p lag (frequencyOf p) hstate
    rw [hplant, ← hset]
    exact ⟨hover.trans hfast, fun hnot => hout (by rw [← Bool.not_eq_true, hband]; exact hnot),
      fun h => hmore (hband.mpr h), fun h => hdone (hband.mpr h)⟩
  case idle =>
    have hlast : ¬acceptsLast (frequencyOf p) x := by
      intro hlast
      refine hafter ?_
      rw [hplant, plantPeriod_plant, acceptPeriod_of_last hlast, enterPlant_plant]
      rfl
    refine validEdge_record hlast (fun _ => hbefore) fun v _ hv _ => ⟨id, ?_⟩
    exact if_neg (by rwa [inPlant_iff, hv])
  case run =>
    have hlast : ¬acceptsLast (frequencyOf p) x := by
      rintro ⟨hrunup, -⟩
      rw [hx, periodTaken_state, hrun] at hrunup
      cases hrunup
    have hrecord := validEdge_record (plantFirst := plantFirst) (shedFirst := shedFirst) hlast
      (fun h => absurd h hsaw) fun v hshed _ htab =>
        sheddingUpdate_of_nothing (by rw [hshed, hlist]) (by rw [hshed, htimer])
          (by
            rw [State.emergency, State.nominal, setting_congr htab, setting_congr htab]
            exact decide_eq_false (not_lt.mpr hfreq))
          (by rw [setting_congr htab]; exact hdelay)
    dsimp only at hrecord
    rwa [if_neg fun h => hsaw h.1] at hrecord
  case draws => exact hdraws'.trans hdraws
  case tables => exact htables'.trans htables
  case pins => exact hpins'.trans hpins
  case pending => exact hpending'.trans hpending

end Sys2Proof.Proofs
end

section
namespace Sys2Proof.Proofs
open Sys2Proof.Machine Sys2Proof.Safety

/-! ## The steps of the Load Shedding Unit at a demand update (R117 to R125) -/

/-- The shed timer after an emergency shed, which restarts it where it runs. -/
def timerHeld (emergency : Bool) (v : State) : Option Nat :=
  if emergency then v.shed.shedTimer.map (fun _ => 0) else v.shed.shedTimer

/-- The emergency test takes its shed (R118). -/
def emergencyTaken (f : Nat) (v : State) : Bool := v.emergency f && v.shed.lockout - 1 == 0

/-- The shed timer has come to its length (R119). -/
def shedTimerDue (f p : Nat) (v : State) : Bool :=
  decide (seconds (v.setting Setting.SHED_DELAY) ≤ shedTimerAfter p (timerHeld (emergencyTaken f v) v))

/-- The update sheds, or finds nothing to shed. -/
def updateSheds (f : Nat) (e : Int) (p : Nat) (v : State) : Bool :=
  emergencyTaken f v || (v.shedCondition e && shedTimerDue f p v)

/-- The circuits, the list and the orders are as before; `raised` says whether NOTHING_TO_SHED has been raised. -/
structure Unshed (raised : Bool) (v z : State) : Prop where
  hamlet : z.hamlet = v.hamlet
  list : z.shed.list = v.shed.list
  timer : z.shed.restoreTimer = v.shed.restoreTimer
  record : RecordAgree (if raised then raise .nothingToShed none v else v) z
  follow : Follow v z
  gate : z.water.gate = v.water.gate
  saw : z.saw.order = v.saw.order

/-- Circuit `i` has been shed. -/
structure ShedOne (i : Nat) (v z : State) : Prop where
  list : z.shed.list = v.shed.list ++ [⟨i, .frequency, (v.circuit i).reading, v.secondOfDay⟩]
  timer : z.shed.restoreTimer = none
  circuit : z.circuit i = (v.circuit i).move .shed
  one : OneCircuit i v z
  record : RecordAgree (appended i .frequency v) z

/-- What a shed that is due makes of the state, by the candidate (R118 to R120). -/
structure ShedDue (v z : State) : Prop where
  nothing : v.frequencyCandidate = none → Unshed true v z
  taken : ∀ i, v.frequencyCandidate = some i → v.listed i = false → ShedOne i v z
  listed : ∀ i, v.frequencyCandidate = some i → v.listed i = true → Unshed false v z

theorem Unshed.refl (v : State) : Unshed false v v := ⟨rfl, rfl, rfl, .refl v, .refl v, rfl, rfl⟩

/-- The timers are no part of what these say. -/
theorem Unshed.mapShed {raised : Bool} {v z : State} (h : Unshed raised v z) {g : Shedding → Shedding}
    (hlist : ∀ l, (g l).list = l.list) (htimer : ∀ l, (g l).restoreTimer = l.restoreTimer) :
    Unshed raised v (z.mapShed g) :=
  ⟨h.hamlet, (hlist _).trans h.list, (htimer _).trans h.timer, h.record.trans (.of_loop rfl rfl rfl rfl rfl),
    h.follow.trans (.of_same rfl rfl ⟨_, _, rfl⟩) fun _ hk => hk, h.gate, h.saw⟩

theorem ShedOne.mapShed {i : Nat} {v z : State} (h : ShedOne i v z) {g : Shedding → Shedding}
    (hlist : ∀ l, (g l).list = l.list) (htimer : ∀ l, (g l).restoreTimer = l.restoreTimer) :
    ShedOne i v (z.mapShed g) :=
  ⟨(hlist _).trans h.list, (htimer _).trans h.timer, h.circuit, h.one.mapShed g,
    h.record.trans (.of_loop rfl rfl rfl rfl rfl)⟩

theorem ShedDue.mapShed {v z : State} (h : ShedDue v z) {g : Shedding → Shedding}
    (hlist : ∀ l, (g l).list = l.list) (htimer : ∀ l, (g l).restoreTimer = l.restoreTimer) :
    ShedDue v (z.mapShed g) :=
  ⟨fun hc => (h.nothing hc).mapShed hlist htimer, fun i hc hl => (h.taken i hc hl).mapShed hlist htimer,
    fun i hc hl => (h.listed i hc hl).mapShed hlist htimer⟩

/-- A candidate is a circuit of tier 1 or more of the hamlet. -/
theorem frequencyCandidate_tier {v : State} {i : Nat} (h : v.frequencyCandidate = some i) :
    i < v.hamlet.entries.length ∧ (v.circuit i).state = .closed ∧ 1 ≤ (v.circuit i).tier := by
  obtain ⟨c, hc, hstate, htier, -⟩ := (shedCandidate v.hamlet.entries 1).2 i h
  have hcircuit : v.circuit i = c := by
    rw [State.circuit, List.getD_eq_getElem?_getD, hc]; rfl
  rw [hcircuit]
  exact ⟨(List.getElem?_eq_some_iff.mp hc).1, hstate, htier⟩

theorem appended_shed (i : Nat) (cause : ShedCause) (r : State) : (appended i cause r).shed = { r.shed with
    list := r.shed.list ++ [⟨i, cause, (r.circuit i).reading, r.secondOfDay⟩], restoreTimer := none } := by
  rw [appended]
  split <;> simp

/-- The record of an append depends on the record and on whether the list is empty. -/
theorem appended_agree {r t : State} (h : RecordAgree r t) (hlist : t.shed.list = r.shed.list) (i : Nat)
    (cause : ShedCause) : RecordAgree (appended i cause r) (appended i cause t) := by
  have hentry := h.journalAppend .shed (some i) cause.code
  have hstep : ∀ (x y : State) (f g : Shedding), RecordAgree x y → RecordAgree { x with shed := f } { y with shed := g } :=
    fun x y f g hxy => ⟨hxy.conds, hxy.journal, hxy.answers, hxy.held, hxy.own, hxy.tables, hxy.clock⟩
  have hshed := hstep _ _ { r.shed with
      list := r.shed.list ++ [⟨i, cause, (r.circuit i).reading, r.secondOfDay⟩], restoreTimer := none }
    { t.shed with
      list := t.shed.list ++ [⟨i, cause, (t.circuit i).reading, t.secondOfDay⟩], restoreTimer := none } hentry
  rw [appended, appended, hlist]
  by_cases hempty : r.shed.list = []
  · rw [if_pos hempty, if_pos hempty]
    rw [hlist] at hshed
    exact hshed.raise .shedActive none
  · rw [if_neg hempty, if_neg hempty]
    rw [hlist] at hshed
    exact hshed

/-- A candidate that is not listed is taken. -/
theorem frequencyShed_taken {v : State} {i : Nat} (hrun : v.plant.state = .run)
    (hc : v.frequencyCandidate = some i) (hl : v.listed i = false) :
    frequencyShed v = appendTaken i .frequency v := by
  obtain ⟨-, -, htier⟩ := frequencyCandidate_tier hc
  rw [frequencyShed, hc]
  refine if_pos ?_
  rw [hl, Bool.and_eq_true, Bool.and_eq_true, inPlant_iff, decide_eq_true_eq]
  exact ⟨⟨hrun, htier⟩, rfl⟩

/-- A frequency shed, of a state whose timers may have been set before (R118, R119). -/
theorem frequencyShed_shedDue {v : State} (hrun : v.plant.state = .run) (hlen : v.hamlet.entries.length = 48)
    {g : Shedding → Shedding} (hlist : ∀ l, (g l).list = l.list) (htimer : ∀ l, (g l).restoreTimer = l.restoreTimer) :
    ShedDue v (frequencyShed (v.mapShed g)) := by
  have hmap : RecordAgree v (v.mapShed g) := .of_loop rfl rfl rfl rfl rfl
  have hlisted : ∀ i, (v.mapShed g).listed i = v.listed i := fun i => by
    rw [State.listed, State.listed, State.mapShed_shed, hlist]
  have hcandidate : (v.mapShed g).frequencyCandidate = v.frequencyCandidate := rfl
  refine ⟨fun hc => ?_, fun i hc hl => ?_, fun i hc hl => ?_⟩
  · rw [frequencyShed, hcandidate, hc]
    dsimp only
    refine ⟨by simp, by simp [hlist], by simp [htimer], hmap.raise .nothingToShed none,
      .of_same (by simp) ?_ ⟨_, _, raise_loop _ _ _⟩, by simp, by simp⟩
    exact slotOrder_congr (by simp) (by simp) (by simp)
  · obtain ⟨hi, -, -⟩ := frequencyCandidate_tier hc
    have htaken := frequencyShed_taken (v := v.mapShed g) hrun (hcandidate.trans hc) ((hlisted i).trans hl)
    have hone : OneCircuit i v (appendTaken i .frequency (v.mapShed g)) :=
      ((OneCircuit.refl i v).mapShed g).trans (appendTaken_oneCircuit (s := v.mapShed g) (by omega) hi .frequency) fun _ => rfl
    rw [htaken]
    refine ⟨?_, by simp, circuit_appendTaken_self (s := v.mapShed g) hi .frequency, hone,
      (appended_agree hmap (hlist _) i .frequency).trans (appendTaken_agree i .frequency _)⟩
    rw [appendTaken_shed, State.mapShed_shed, hlist]
    rfl
  · have hrefused : frequencyShed (v.mapShed g) = v.mapShed g := by
      rw [frequencyShed, hcandidate, hc]
      exact if_neg (by rw [hlisted, hl]; simp)
    rw [hrefused]
    exact (Unshed.refl v).mapShed hlist htimer

theorem frequencyShed_timers (v : State) : (frequencyShed v).shed.lockout = v.shed.lockout ∧
    (frequencyShed v).shed.shedTimer = v.shed.shedTimer := by
  unfold frequencyShed
  split
  · rename_i i _
    rcases appendRequest_cases i .frequency v with ⟨-, -, -, h⟩ | h <;> rw [h] <;> simp
  · simp

/-- The state after the first three steps of the update. -/
def shedSteps (f : Nat) (e : Int) (p : Nat) (v : State) : State :=
  shedTimerStep e p (emergencyTest f (lowerLockout v))

/-- After an emergency shed the shed timer is not due. -/
theorem shedTimerDue_of_emergency {f p : Nat} {v : State} (hp : p < 2000000) (hdelay : 1 ≤ v.setting Setting.SHED_DELAY)
    (h : emergencyTaken f v = true) : shedTimerDue f p v = false := by
  refine decide_eq_false ?_
  rw [h, timerHeld, if_pos rfl, seconds]
  cases v.shed.shedTimer <;> simp only [Option.map, shedTimerAfter] <;> omega

/-- The first three steps shed at most once, between two settings of the timers. -/
theorem shedSteps_eq {f : Nat} {e : Int} {p : Nat} {v : State} (hp : p < 2000000)
    (hdelay : 1 ≤ v.setting Setting.SHED_DELAY) :
    ∃ g h : Shedding → Shedding, (∀ l, (g l).list = l.list) ∧ (∀ l, (g l).restoreTimer = l.restoreTimer) ∧
      (∀ l, (h l).list = l.list) ∧ (∀ l, (h l).restoreTimer = l.restoreTimer) ∧
      shedSteps f e p v = (if updateSheds f e p v then frequencyShed (v.mapShed g) else v.mapShed g).mapShed h := by
  cases hemergency : emergencyTaken f v with
  | true =>
    have hnot := shedTimerDue_of_emergency hp hdelay hemergency
    rw [shedTimerDue, decide_eq_false_iff_not, hemergency, timerHeld, if_pos rfl] at hnot
    set g : Shedding → Shedding := fun l =>
      { l with lockout := 10, shedTimer := l.shedTimer.map fun _ => 0 } with hg
    have htest : emergencyTest f (lowerLockout v) = frequencyShed (v.mapShed g) := if_pos hemergency
    have htimer : (frequencyShed (v.mapShed g)).shed.shedTimer = v.shed.shedTimer.map fun _ => 0 :=
      (frequencyShed_timers _).2
    have hset : (frequencyShed (v.mapShed g)).setting Setting.SHED_DELAY = v.setting Setting.SHED_DELAY := by
      simp [State.setting]
    rw [shedSteps, htest, shedTimerStep, htimer, hset]
    dsimp only
    rw [if_neg hnot, updateSheds, hemergency, Bool.true_or]
    cases (frequencyShed (v.mapShed g)).shedCondition e
    · exact ⟨g, fun l => { l with shedTimer := none }, fun _ => rfl, fun _ => rfl, fun _ => rfl, fun _ => rfl, rfl⟩
    · exact ⟨g, fun l => { l with shedTimer := some (shedTimerAfter p (v.shed.shedTimer.map fun _ => 0)) },
        fun _ => rfl, fun _ => rfl, fun _ => rfl, fun _ => rfl, rfl⟩
  | false =>
    have htest : emergencyTest f (lowerLockout v) = lowerLockout v :=
      if_neg (by rw [show ((lowerLockout v).emergency f && (lowerLockout v).shed.lockout == 0) = false from hemergency]
                 decide)
    have hdue : shedTimerDue f p v = decide (seconds ((lowerLockout v).setting Setting.SHED_DELAY) ≤
        shedTimerAfter p (lowerLockout v).shed.shedTimer) := by
      rw [shedTimerDue, hemergency]; rfl
    have hcond : (lowerLockout v).shedCondition e = v.shedCondition e := rfl
    rw [shedSteps, htest, shedTimerStep, hcond, updateSheds, hemergency, Bool.false_or, hdue]
    dsimp only
    cases v.shedCondition e with
    | false => exact ⟨id, fun l => { l with lockout := l.lockout - 1, shedTimer := none },
        fun _ => rfl, fun _ => rfl, fun _ => rfl, fun _ => rfl, rfl⟩
    | true =>
      by_cases h : seconds ((lowerLockout v).setting Setting.SHED_DELAY) ≤
          shedTimerAfter p (lowerLockout v).shed.shedTimer
      · rw [if_pos rfl, if_pos h, decide_eq_true h]
        exact ⟨fun l => { l with lockout := l.lockout - 1, shedTimer := some 0 }, id,
          fun _ => rfl, fun _ => rfl, fun _ => rfl, fun _ => rfl, rfl⟩
      · rw [if_pos rfl, if_neg h, decide_eq_false h]
        exact ⟨id, fun l => { l with lockout := l.lockout - 1, shedTimer := some (shedTimerAfter p l.shedTimer) },
          fun _ => rfl, fun _ => rfl, fun _ => rfl, fun _ => rfl, rfl⟩

/-- The lockout and the shed timer after the first three steps (R118, R119). -/
theorem shedSteps_timers (f : Nat) (e : Int) (p : Nat) (v : State) :
    (shedSteps f e p v).shed.lockout = (if emergencyTaken f v then 10 else v.shed.lockout - 1) ∧
      (shedSteps f e p v).shed.shedTimer = if v.shedCondition e then
        some (if shedTimerDue f p v then 0 else shedTimerAfter p (timerHeld (emergencyTaken f v) v)) else none := by
  have hstep : ∀ z : State, z.gov = v.gov → z.tables = v.tables →
      z.shed.shedTimer = timerHeld (emergencyTaken f v) v →
      (shedTimerStep e p z).shed.lockout = z.shed.lockout ∧
      (shedTimerStep e p z).shed.shedTimer = if v.shedCondition e then
        some (if shedTimerDue f p v then 0 else shedTimerAfter p (timerHeld (emergencyTaken f v) v)) else none := by
    intro z hgov htables htimer
    have hcond : z.shedCondition e = v.shedCondition e := by
      rw [State.shedCondition, State.shedCondition, hgov, setting_congr htables]
    rw [shedTimerStep, hcond, htimer, setting_congr htables, shedTimerDue]
    dsimp only
    cases v.shedCondition e with
    | false => exact ⟨rfl, rfl⟩
    | true =>
      by_cases h : seconds (v.setting Setting.SHED_DELAY) ≤ shedTimerAfter p (timerHeld (emergencyTaken f v) v)
      · rw [if_pos rfl, if_pos h, if_pos rfl, decide_eq_true h]
        exact frequencyShed_timers _
      · rw [if_pos rfl, if_neg h, if_pos rfl, decide_eq_false h]
        exact ⟨rfl, rfl⟩
  cases hemergency : emergencyTaken f v with
  | true =>
    have htest : emergencyTest f (lowerLockout v) = frequencyShed ((lowerLockout v).mapShed fun l =>
      { l with lockout := 10, shedTimer := l.shedTimer.map fun _ => 0 }) := if_pos hemergency
    obtain ⟨hlockout, htimer⟩ := frequencyShed_timers ((lowerLockout v).mapShed fun l =>
      { l with lockout := 10, shedTimer := l.shedTimer.map fun _ => 0 })
    rw [hemergency] at hstep
    obtain ⟨hl, ht⟩ := hstep (emergencyTest f (lowerLockout v)) (by simp) (by simp) (by rw [htest]; exact htimer)
    exact ⟨hl.trans (by rw [htest]; exact hlockout), ht⟩
  | false =>
    have htest : emergencyTest f (lowerLockout v) = lowerLockout v :=
      if_neg (by rw [show ((lowerLockout v).emergency f && (lowerLockout v).shed.lockout == 0) = false from hemergency]
                 decide)
    rw [hemergency] at hstep
    obtain ⟨hl, ht⟩ := hstep (emergencyTest f (lowerLockout v)) (by simp) (by simp) (by rw [htest]; rfl)
    exact ⟨hl.trans (by rw [htest]; rfl), ht⟩

/-- The first three steps of the update, by whether it sheds. -/
theorem shedSteps_spec {f : Nat} {e : Int} {p : Nat} {v : State} (hrun : v.plant.state = .run)
    (hlen : v.hamlet.entries.length = 48) (hp : p < 2000000) (hdelay : 1 ≤ v.setting Setting.SHED_DELAY) :
    (updateSheds f e p v = false → Unshed false v (shedSteps f e p v)) ∧
      (updateSheds f e p v = true → ShedDue v (shedSteps f e p v)) := by
  obtain ⟨g, h, hglist, hgtimer, hhlist, hhtimer, heq⟩ := shedSteps_eq (f := f) (e := e) hp hdelay
  rw [heq]
  refine ⟨fun hnot => ?_, fun hsheds => ?_⟩
  · rw [hnot]
    exact ((Unshed.refl v).mapShed hglist hgtimer).mapShed hhlist hhtimer
  · rw [hsheds]
    exact (frequencyShed_shedDue hrun hlen hglist hgtimer).mapShed hhlist hhtimer

end Sys2Proof.Proofs
end

section
namespace Sys2Proof.Proofs
open Sys2Proof.Machine Sys2Proof.Safety

/-! ## The restore step (R122 to R125) -/

theorem shedSteps_frame (f : Nat) (e : Int) (p : Nat) (v : State) :
    (shedSteps f e p v).saw = v.saw ∧ (shedSteps f e p v).gov = v.gov ∧ (shedSteps f e p v).tables = v.tables := by
  simp [shedSteps]

/-- The restore step leaves the lockout and the shed timer. -/
theorem restoreStep_timers (p : Nat) (z : State) : (restoreStep p z).shed.lockout = z.shed.lockout ∧
    (restoreStep p z).shed.shedTimer = z.shed.shedTimer := by
  unfold restoreStep restoreCircuit
  dsimp only
  repeat' split
  all_goals simp [removeShed]

/-- What can be restored depends on the saw state, the list and the surplus. -/
theorem restorable_congr {v z : State} (hsaw : z.saw = v.saw) (hlist : z.shed.list = v.shed.list)
    (hgov : z.gov = v.gov) (htables : z.tables = v.tables) : z.restorable = v.restorable := by
  have hsurplus : z.surplus = v.surplus := by rw [State.surplus, State.surplus, hgov, setting_congr htables]
  have hcandidate : z.restoreCandidate = v.restoreCandidate := by
    rw [State.restoreCandidate, State.restoreCandidate, hsaw, hlist]
  rw [State.restorable, State.restorable, hcandidate, hsurplus, setting_congr htables, hsaw]

/-- A restore of a circuit of the hamlet that is SHED: the list, the circuit and the record (R125). -/
structure Restored (c : ShedEntry) (base v y : State) : Prop where
  list : y.shed.list = v.shed.list.filter fun x => x.circuit != c.circuit
  timer : y.shed.restoreTimer = none
  circuit : y.circuit c.circuit =
    { v.circuit c.circuit with state := .closed, disagree := 0, reclose := none }
  others : ∀ j < 48, j ≠ c.circuit → y.circuit j = v.circuit j
  record : RecordAgree (restored c.circuit v.surplus base) y

theorem restoreCircuit_restored {c : ShedEntry} {base v z : State} (hlen : v.hamlet.entries.length = 48)
    (hi : c.circuit < 48) (hstate : (v.circuit c.circuit).state = .shed) (hhamlet : z.hamlet = v.hamlet)
    (hlist : z.shed.list = v.shed.list) (hsurplus : z.surplus = v.surplus) (hrecord : RecordAgree base z) :
    Restored c base v (restoreCircuit c.circuit z) := by
  have hcircuit : ∀ j, z.circuit j = v.circuit j := fun j => by rw [State.circuit, State.circuit, hhamlet]
  have hone : ∀ j, (restoreCircuit c.circuit z).circuit j =
      (moveCircuit c.circuit .closed (removeShed c.circuit z)).circuit j := fun _ => rfl
  have hlt : c.circuit < (removeShed c.circuit z).hamlet.entries.length := by simp [hhamlet, hlen, hi]
  have hremoved : ∀ j, (removeShed c.circuit z).circuit j = v.circuit j := fun j => hcircuit j
  refine ⟨?_, ?_, ?_, fun j _ hj => ?_, ?_⟩
  · simp [restoreCircuit, removeShed, hlist]
  · simp [restoreCircuit, removeShed]
  · rw [hone, circuit_moveCircuit_self hlt, hremoved, move_closed (by simp [hstate])]
  · rw [hone, circuit_moveCircuit, if_neg (by omega), hremoved]
  · have hremove : RecordAgree base (removeShed c.circuit z) := hrecord.trans (.of_loop rfl rfl rfl rfl rfl)
    have hmove := (hremove.trans (moveCircuit_agree c.circuit .closed _)).journalAppend .restore
      (some c.circuit) v.surplus
    rw [restoreCircuit, hsurplus]
    exact hmove

/-- A restore of whatever circuit writes at most its feeder's slot, as its order changes. -/
theorem restoreCircuit_follow (i : Nat) {z : State} (hlen : z.hamlet.entries.length = 48)
    (hslots : z.loop.slots.length = 8) : Follow z (restoreCircuit i z) := by
  have hremove : OneCircuit i z (removeShed i z) := (OneCircuit.refl i z).mapShed _
  by_cases hi : i < 48
  · have hmove : OneCircuit i (removeShed i z) (moveCircuit i .closed (removeShed i z)) :=
      .moveCircuit hi (by simp [hlen, hi]) .closed
    exact ((hremove.trans hmove fun _ => rfl).journalAppend .restore (some i) z.surplus).follow
  · have hentries : (moveCircuit i .closed (removeShed i z)).hamlet = z.hamlet := by
      rw [moveCircuit_hamlet, List.modify_eq_self (by simp [hlen]; omega)]
      simp
    have hloop : (moveCircuit i .closed (removeShed i z)).loop = z.loop := by
      unfold moveCircuit
      dsimp only
      split
      · simp [modifyCircuit]
      · rw [writeFeederSlot]
        split
        · have hset : ∀ o, z.loop.slots.set (SlotNo.feeder (i / 8)) o = z.loop.slots := fun o =>
            List.set_eq_of_length_le (by simp only [SlotNo.feeder, hslots]; omega)
          simp [writeSlot, modifyCircuit, hset]
        · simp [modifyCircuit]
    refine .of_same (by simp) ?_ ⟨_, _, hloop⟩
    exact slotOrder_congr (by simp) (by simp) hentries

/-- The restore step after steps that shed nothing. -/
structure RestoreMade (p : Nat) (base v y : State) : Prop where
  follow : v.loop.slots.length = 8 → Follow v y
  none : v.restorable = none → y.shed.list = v.shed.list ∧ y.shed.restoreTimer = none ∧ y.hamlet = v.hamlet ∧
    RecordAgree base y
  due : ∀ c, v.restorable = some c →
    seconds (v.setting Setting.RESTORE_DELAY) ≤ restoreElapsed c p v.shed.restoreTimer →
    c.circuit < 48 → (v.circuit c.circuit).state = .shed → Restored c base v y
  early : ∀ c, v.restorable = some c →
    ¬seconds (v.setting Setting.RESTORE_DELAY) ≤ restoreElapsed c p v.shed.restoreTimer →
    y.shed.list = v.shed.list ∧
      y.shed.restoreTimer = some ⟨c.circuit, restoreElapsed c p v.shed.restoreTimer⟩ ∧ y.hamlet = v.hamlet ∧
      RecordAgree base y

theorem restoreStep_of_unshed {raised : Bool} {p : Nat} {v z : State} (h : Unshed raised v z) (hsaw : z.saw = v.saw)
    (hgov : z.gov = v.gov) (htables : z.tables = v.tables) (hlen : v.hamlet.entries.length = 48) :
    RestoreMade p (if raised then raise .nothingToShed none v else v) v (restoreStep p z) := by
  have hrestorable := restorable_congr hsaw h.list hgov htables
  have hset := setting_congr htables
  have hsurplus : z.surplus = v.surplus := by rw [State.surplus, State.surplus, hgov, hset]
  refine ⟨fun hslots => ?follow, fun hnone => ?none, fun c hc hdue hi hstate => ?due, fun c hc hearly => ?early⟩
  case follow =>
    have hback : ∀ {u : State}, Follow z u → Follow v u := fun hu => h.follow.trans hu fun k _ =>
      congrFun (slotOrder_congr h.gate h.saw h.hamlet) k
    have hzslots : z.loop.slots.length = 8 := by
      have hz := congrArg (fun l : LoopPort => l.slots.length) h.follow.slots
      simpa [hslots] using hz
    refine hback ?_
    unfold restoreStep
    dsimp only
    repeat' split
    · exact restoreCircuit_follow _ (by rw [h.hamlet, hlen]) hzslots
    · exact .of_same rfl rfl ⟨_, _, rfl⟩
    · exact .of_same rfl rfl ⟨_, _, rfl⟩
  case none =>
    rw [restoreStep, hrestorable, hnone]
    exact ⟨h.list, rfl, h.hamlet, h.record.trans (.of_loop rfl rfl rfl rfl rfl)⟩
  case due =>
    have hmade : restoreStep p z = restoreCircuit c.circuit z := by
      rw [restoreStep, hrestorable, hc, h.timer, hset]
      exact if_pos hdue
    rw [hmade]
    exact restoreCircuit_restored hlen hi hstate h.hamlet h.list hsurplus h.record
  case early =>
    have hmade : restoreStep p z = z.mapShed fun l => { l with
        restoreTimer := some ⟨c.circuit, restoreElapsed c p v.shed.restoreTimer⟩ } := by
      rw [restoreStep, hrestorable, hc, h.timer, hset]
      exact if_neg hearly
    rw [hmade]
    exact ⟨h.list, rfl, h.hamlet, h.record.trans (.of_loop rfl rfl rfl rfl rfl)⟩

/-- The new entry of a frequency shed is the restore candidate, in every saw state (R122). -/
theorem restoreCandidate_of_shedOne {i : Nat} {v z : State} (h : ShedOne i v z) :
    z.restoreCandidate = some ⟨i, .frequency, (v.circuit i).reading, v.secondOfDay⟩ := by
  rw [State.restoreCandidate, h.list]
  split
  · simp
  · simp [List.filter_append]

/-- The restore step after a shed: the new entry begins to be timed where the surplus suffices. -/
structure ShedMade (i : Nat) (v y : State) : Prop where
  list : y.shed.list = v.shed.list ++ [⟨i, .frequency, (v.circuit i).reading, v.secondOfDay⟩]
  circuit : y.circuit i = (v.circuit i).move .shed
  one : OneCircuit i v y
  record : RecordAgree (appended i .frequency v) y
  timed : v.saw.state ≠ .engaging → (v.circuit i).reading + v.setting Setting.RESTORE_MARGIN ≤ v.surplus →
    y.shed.restoreTimer = some ⟨i, 0⟩
  notTimed : ¬(v.saw.state ≠ .engaging ∧ (v.circuit i).reading + v.setting Setting.RESTORE_MARGIN ≤ v.surplus) →
    y.shed.restoreTimer = none

theorem restoreStep_of_shedOne {i p : Nat} {v z : State} (h : ShedOne i v z) (hsaw : z.saw = v.saw)
    (hgov : z.gov = v.gov) (htables : z.tables = v.tables) (hdelay : 1 ≤ v.setting Setting.RESTORE_DELAY) :
    ShedMade i v (restoreStep p z) := by
  have hset := setting_congr htables
  have hsurplus : z.surplus = v.surplus := by rw [State.surplus, State.surplus, hgov, hset]
  have hrestorable : z.restorable = if v.saw.state ≠ .engaging ∧
      (v.circuit i).reading + v.setting Setting.RESTORE_MARGIN ≤ v.surplus then
        some ⟨i, .frequency, (v.circuit i).reading, v.secondOfDay⟩ else none := by
    rw [State.restorable, restoreCandidate_of_shedOne h, hsaw, hsurplus, hset]
  obtain ⟨g, hlist, hmade, htimed⟩ : ∃ g : Shedding → Shedding, (∀ l, (g l).list = l.list) ∧
      restoreStep p z = z.mapShed g ∧ (g z.shed).restoreTimer =
        if v.saw.state ≠ .engaging ∧ (v.circuit i).reading + v.setting Setting.RESTORE_MARGIN ≤ v.surplus then
          some ⟨i, 0⟩ else none := by
    have hnotdue : ¬seconds (v.setting Setting.RESTORE_DELAY) ≤ 0 := by rw [seconds]; omega
    by_cases hroom : v.saw.state ≠ .engaging ∧
        (v.circuit i).reading + v.setting Setting.RESTORE_MARGIN ≤ v.surplus
    · rw [if_pos hroom] at hrestorable
      rw [restoreStep, hrestorable, h.timer, hset, if_pos hroom]
      exact ⟨fun l => { l with restoreTimer := some ⟨i, 0⟩ }, fun _ => rfl, if_neg hnotdue, rfl⟩
    · rw [if_neg hroom] at hrestorable
      rw [restoreStep, hrestorable, if_neg hroom]
      exact ⟨fun l => { l with restoreTimer := none }, fun _ => rfl, rfl, rfl⟩
  rw [hmade]
  exact ⟨(hlist _).trans h.list, h.circuit, h.one.mapShed g, h.record.trans (.of_loop rfl rfl rfl rfl rfl),
    fun hstate hroom => htimed.trans (if_pos ⟨hstate, hroom⟩), fun hnot => htimed.trans (if_neg hnot)⟩

/-! ## The whole update -/

/-- What the Load Shedding Unit makes of a demand update in RUN (R117). -/
structure ShedPassed (f : Nat) (e : Int) (p : Nat) (v y : State) : Prop where
  lockout : y.shed.lockout = if emergencyTaken f v then 10 else v.shed.lockout - 1
  timer : y.shed.shedTimer = if v.shedCondition e then
    some (if shedTimerDue f p v then 0 else shedTimerAfter p (timerHeld (emergencyTaken f v) v)) else none
  follow : v.loop.slots.length = 8 → Follow v y
  shed : ∀ i, v.frequencyCandidate = some i → updateSheds f e p v = true → v.listed i = false → ShedMade i v y
  restore : updateSheds f e p v = false ∨ v.frequencyCandidate = none →
    RestoreMade p (if updateSheds f e p v then raise .nothingToShed none v else v) v y

theorem sheddingUpdate_passed {f : Nat} {e : Int} {p : Nat} {v : State} (hrun : v.plant.state = .run)
    (hlen : v.hamlet.entries.length = 48) (hp : p < 2000000) (hdelay : 1 ≤ v.setting Setting.SHED_DELAY)
    (hrestore : 1 ≤ v.setting Setting.RESTORE_DELAY) : ShedPassed f e p v (sheddingUpdate f e p v) := by
  obtain ⟨hquiet, hsheds⟩ := shedSteps_spec (f := f) (e := e) hrun hlen hp hdelay
  obtain ⟨hlockout, htimer⟩ := shedSteps_timers f e p v
  obtain ⟨hsaw, hgov, htables⟩ := shedSteps_frame f e p v
  obtain ⟨hlockout', htimer'⟩ := restoreStep_timers p (shedSteps f e p v)
  have hupdate : sheddingUpdate f e p v = restoreStep p (shedSteps f e p v) := if_pos ((inPlant_iff v _).mpr hrun)
  have hunshed : ∀ {raised}, Unshed raised v (shedSteps f e p v) →
      RestoreMade p (if raised then raise .nothingToShed none v else v) v (restoreStep p (shedSteps f e p v)) :=
    fun h => restoreStep_of_unshed h hsaw hgov htables hlen
  rw [hupdate]
  refine ⟨hlockout'.trans hlockout, htimer'.trans htimer, fun hslots => ?follow,
    fun i hc hs hl => restoreStep_of_shedOne ((hsheds hs).taken i hc hl) hsaw hgov htables hrestore, fun h => ?restore⟩
  case follow =>
    cases hs : updateSheds f e p v with
    | false => exact (hunshed (hquiet hs)).follow hslots
    | true =>
      cases hc : v.frequencyCandidate with
      | none => exact (hunshed ((hsheds hs).nothing hc)).follow hslots
      | some i =>
        cases hl : v.listed i with
        | false =>
          exact (restoreStep_of_shedOne ((hsheds hs).taken i hc hl) hsaw hgov htables hrestore).one.follow
        | true => exact (hunshed ((hsheds hs).listed i hc hl)).follow hslots
  case restore =>
    cases hs : updateSheds f e p v with
    | false => exact hunshed (hquiet hs)
    | true => exact hunshed ((hsheds hs).nothing (h.resolve_left (by simp [hs])))

end Sys2Proof.Proofs
end

section
namespace Sys2Proof.Proofs
open Sys2Proof.Machine Sys2Proof.Safety

/-! ## The shedding and the saw at one update, in either order (R121) -/

/-- The lockout and the shed timer after a demand update in RUN. -/
theorem sheddingUpdate_timers {f : Nat} {e : Int} {p : Nat} {v : State} (hrun : v.plant.state = .run) :
    (sheddingUpdate f e p v).shed.lockout = (if emergencyTaken f v then 10 else v.shed.lockout - 1) ∧
      (sheddingUpdate f e p v).shed.shedTimer = if v.shedCondition e then
        some (if shedTimerDue f p v then 0 else shedTimerAfter p (timerHeld (emergencyTaken f v) v)) else none := by
  obtain ⟨hlockout, htimer⟩ := shedSteps_timers f e p v
  obtain ⟨hlockout', htimer'⟩ := restoreStep_timers p (shedSteps f e p v)
  have hupdate : sheddingUpdate f e p v = restoreStep p (shedSteps f e p v) := if_pos ((inPlant_iff v _).mpr hrun)
  rw [hupdate]
  exact ⟨hlockout'.trans hlockout, htimer'.trans htimer⟩

/-- The saw's part leaves the lockout and the shed timer. -/
theorem sawUpdate_timers (f : Nat) (s : State) : (sawUpdate f s).shed.lockout = s.shed.lockout ∧
    (sawUpdate f s).shed.shedTimer = s.shed.shedTimer := by
  have happend : ∀ i, (appendRequest i .saw s).shed.lockout = s.shed.lockout ∧
      (appendRequest i .saw s).shed.shedTimer = s.shed.shedTimer := by
    intro i
    rcases appendRequest_cases i .saw s with ⟨-, -, -, h⟩ | h <;> rw [h] <;> simp
  unfold sawUpdate reserveUpdate feedUpdate
  dsimp only
  repeat' split
  all_goals simp [happend]

/-- A saw shed request takes no circuit where there is no frequency candidate: the saw's floor may be 0, but a
circuit of tier 0 is never listed. -/
theorem sawUpdate_hamlet_of_none (f : Nat) {s : State} (h : s.frequencyCandidate = none) :
    (sawUpdate f s).hamlet = s.hamlet := by
  have hnone := (shedCandidate s.hamlet.entries 1).1.mp h
  have happend : ∀ i, s.sawShedAnswer = some i → appendRequest i .saw s = s := by
    intro i hi
    have hcandidate : s.sawCandidate = some i := by
      unfold State.sawShedAnswer at hi
      split at hi
      · exact hi
      · cases hi
    obtain ⟨c, hc, hstate, -, -⟩ := (shedCandidate s.hamlet.entries _).2 i hcandidate
    have hcircuit : s.circuit i = c := by rw [State.circuit, List.getD_eq_getElem?_getD, hc]; rfl
    rcases appendRequest_cases i .saw s with ⟨-, htier, -, -⟩ | h
    · rw [hcircuit] at htier
      exact absurd ⟨hstate, htier⟩ (hnone c (List.mem_of_getElem? hc))
    · exact h
  have hreserve : (reserveUpdate s).hamlet = s.hamlet := by
    unfold reserveUpdate
    split
    · simp
    · split
      · rfl
      · cases hi : s.sawShedAnswer with
        | none => rfl
        | some i => simp [happend i hi]
  unfold sawUpdate feedUpdate
  dsimp only
  repeat' split
  · exact hreserve
  all_goals simp

/-- Two operations of which one changes the saw's order alone and the other leaves it follow the orders. -/
theorem Follow.trans_saw {s t u : State} (hst : Follow s t) (htu : Follow t u)
    (h : (∀ k, k ≠ 1 → slotOrder u k = slotOrder t k) ∧ slotOrder t 1 = slotOrder s 1 ∨
      (∀ k, k ≠ 1 → slotOrder t k = slotOrder s k) ∧ slotOrder u 1 = slotOrder t 1) : Follow s u := by
  refine hst.trans htu fun k hk => ?_
  rcases h with ⟨hothers, hsaw⟩ | ⟨hothers, hsaw⟩
  · by_cases h1 : k = 1
    · rw [h1, hsaw]
    · rw [← hothers k h1, hk]
  · by_cases h1 : k = 1
    · rw [h1, ← hsaw, ← h1, hk]
    · exact hothers k h1

theorem SawOnly.orders {noted : Bool} {s t : State} (h : SawOnly noted s t) (k : Nat) (hk : k ≠ 1) :
    slotOrder t k = slotOrder s k := by
  match k with
  | 0 => simp [slotOrder, h.water]
  | k + 2 => simp [slotOrder, positions, State.circuit, h.hamlet]

/-- What the shedding takes and what the update leaves, where the saw makes no shed request of its own: `v` is
the state that the shedding takes, `y` the one it leaves, and `close` the entry that the saw may make after it. -/
structure ShedTaken (start : State) (close : State → State) (s v y u : State) : Prop where
  hamlet : v.hamlet = s.hamlet
  shed : v.shed = s.shed
  tables : v.tables = s.tables
  clock : v.time.clock = s.time.clock
  run : v.plant.state = s.plant.state
  record : RecordAgree start v
  hamletAfter : u.hamlet = y.hamlet
  shedAfter : u.shed = y.shed
  demand : u.gov.d = v.gov.d
  closed : ∀ X, RecordAgree X y → RecordAgree (close X) u
  follow : (v.loop.slots.length = 8 → Follow v y) → s.loop.slots.length = 8 → Follow s u

theorem periodRecord_clock (s : State) : (periodRecord s).time.clock = s.time.clock := by
  unfold periodRecord timeErrorRecord
  cases s.gov.pendingSet <;> dsimp only <;> (repeat' split) <;> simp

theorem periodRecord_conds_length (s : State) : (periodRecord s).conds.length = s.conds.length := by
  rw [periodRecord_conds, takenRecord, timeErrorRecord]
  repeat' split
  all_goals simp

theorem PeriodSeen.clock {s w : State} (h : PeriodSeen s w) : w.time.clock = s.time.clock :=
  h.record.clock.trans (periodRecord_clock s)

theorem PeriodSeen.orders {s w : State} (h : PeriodSeen s w) : slotOrder w = slotOrder s :=
  slotOrder_congr h.gate (by rw [h.saw]) h.hamlet

theorem PeriodSeen.slots {s w : State} (h : PeriodSeen s w) : w.loop.slots = s.loop.slots := by
  obtain ⟨a, b, hloop⟩ := h.loop
  rw [hloop]

theorem Follow.slots_length {s t : State} (h : Follow s t) : t.loop.slots.length = s.loop.slots.length := by
  have hslots := congrArg (fun l : LoopPort => l.slots.length) h.slots
  simpa using hslots

/-- The shedding first: the saw takes what it leaves. -/
theorem shedTaken_first {f : Nat} {e : Int} {p : Nat} {s w : State} {g : Plant → Plant} (hseen : PeriodSeen s w)
    (hquiet : SawQuiet w) :
    ShedTaken (periodRecord s)
      (fun r => if w.saw.state = .reserving ∧ w.setting Setting.SAW_RESERVE_W ≤ w.surplus then sawNoted 2 r else r)
      s w (sheddingUpdate f e p w) ((observersInOrder true f e p w).mapPlant g) := by
  set y := sheddingUpdate f e p w with hy
  have hset : ∀ i, y.setting i = w.setting i := setting_congr (by simp [hy])
  have hsurplus : y.surplus = w.surplus := by
    rw [State.surplus, State.surplus, hset]; simp [hy]
  have hsaw : y.saw = w.saw := by simp [hy]
  have hplant : y.plant = w.plant := by simp [hy]
  have honly := sawUpdate_sawOnly f (s := y) (by
    rw [SawQuiet, hsaw, hplant, hset, hsurplus]; exact hquiet)
  have hrecord := honly.record
  simp only [decide_eq_true_eq, hsaw, hset, hsurplus] at hrecord
  refine ⟨hseen.hamlet, hseen.shed, hseen.tables, hseen.clock, hseen.state, hseen.record, honly.hamlet, honly.shed, ?_,
    fun X hX => ?_, fun hfollow hslots => ?_⟩
  · exact honly.demand.trans (by simp [hy])
  · refine RecordAgree.trans ?_ (hrecord.trans (.of_loop rfl rfl rfl rfl rfl))
    split
    · exact hX.journalAppend .saw none 2
    · exact hX
  · have hy' := hseen.follow.trans (hfollow (by rw [hseen.slots, hslots])) fun k _ => congrFun hseen.orders k
    have hu : Follow s (sawUpdate f y) := hy'.trans_saw honly.follow (.inl ⟨honly.orders, by
      simp [slotOrder, hsaw, hseen.saw]⟩)
    exact hu.trans (.of_same rfl rfl ⟨_, _, rfl⟩) fun _ hk => hk

/-- The saw first: the shedding reads the saw state that it leaves. -/
theorem shedTaken_second {f : Nat} {e : Int} {p : Nat} {s w : State} {g : Plant → Plant} (hseen : PeriodSeen s w)
    (hquiet : SawQuiet w) :
    ShedTaken (if w.saw.state = .reserving ∧ w.setting Setting.SAW_RESERVE_W ≤ w.surplus then
        sawNoted 2 (periodRecord s) else periodRecord s) id
      s (sawUpdate f w) (sheddingUpdate f e p (sawUpdate f w)) ((observersInOrder false f e p w).mapPlant g) := by
  have honly := sawUpdate_sawOnly f hquiet
  have hrecord := honly.record
  simp only [decide_eq_true_eq] at hrecord
  refine ⟨honly.hamlet.trans hseen.hamlet, honly.shed.trans hseen.shed, honly.tables.trans hseen.tables,
    (congrArg MillTime.clock honly.clock).trans hseen.clock, (congrArg Plant.state honly.plant).trans hseen.state,
    RecordAgree.trans ?_ hrecord, rfl, rfl, ?_, fun X hX => hX.trans (.of_loop rfl rfl rfl rfl rfl),
    fun hfollow hslots => ?_⟩
  · split
    · exact hseen.record.journalAppend .saw none 2
    · exact hseen.record
  · simp [observersInOrder]
  · have hv := hseen.follow.trans honly.follow fun k _ => congrFun hseen.orders k
    have hy := hv.trans_saw (hfollow (by rw [honly.follow.slots_length, hseen.slots, hslots])) (.inr
      ⟨fun k hk => (honly.orders k hk).trans (congrFun hseen.orders k), by simp [slotOrder]⟩)
    exact hy.trans (.of_same rfl rfl ⟨_, _, rfl⟩) fun _ hk => hk

end Sys2Proof.Proofs
end

section
namespace Sys2Proof.Proofs
open Sys2Proof.Machine Sys2Proof.Safety

/-! ## O50: the shed timer, and the shedding at a demand update -/

/-- The expiry of the running shed timer in RUN sheds the candidate (R119). -/
theorem shedTimerExpires_of_taken {s : State} {i : Nat} (hrun : s.plant.state = .run)
    (htimer : s.shed.shedTimer.isSome = true) (hc : s.frequencyCandidate = some i) (hl : s.listed i = false) :
    shedTimerExpires s = appendTaken i .frequency (s.mapShed fun l => { l with shedTimer := some 0 }) := by
  have hrunning : (s.inPlant .run && s.shed.shedTimer.isSome) = true := by
    rw [(inPlant_iff s _).mpr hrun, htimer]; rfl
  rw [shedTimerExpires, if_pos hrunning, shedDue]
  exact frequencyShed_taken (v := s.mapShed _) hrun hc hl

/-- What the update reads of the state that the shedding takes, in the words of the statement. -/
structure UpdateWords (f : Nat) (e : Int) (p : Nat) (s v : State) (d : Nat) : Prop where
  emergency : emergencyTaken f v = decide ((f : Int) < s.nominal - s.setting Setting.EMERGENCY_DROP ∧
    s.shed.lockout ≤ 1)
  held : v.shed.shedTimer = s.shed.shedTimer
  delay : seconds (v.setting Setting.SHED_DELAY) = s.setting Setting.SHED_DELAY * 2000000
  short : v.shedCondition e = decide (d = 0 ∧ e ≤ -(s.setting Setting.SHED_BAND : Int))

theorem updateWords {f : Nat} {e : Int} {p : Nat} {s v : State} (htables : v.tables = s.tables)
    (hlockout : v.shed.lockout = s.shed.lockout) (htimer : v.shed.shedTimer = s.shed.shedTimer) :
    UpdateWords f e p s v v.gov.d := by
  have hset := setting_congr htables
  refine ⟨?_, htimer, by rw [hset]; rfl, ?_⟩
  · have hlow : s.shed.lockout - 1 = 0 ↔ s.shed.lockout ≤ 1 := by omega
    rw [emergencyTaken, State.emergency, State.nominal, hset, hset, hlockout, Bool.eq_iff_iff, Bool.and_eq_true,
      decide_eq_true_eq, decide_eq_true_eq, beq_iff_eq, hlow]
    rfl
  · rw [State.shedCondition, hset, Bool.eq_iff_iff]
    simp

/-- The timing of the update, from what it reads (R118, R119). -/
theorem UpdateWords.timing {f : Nat} {e : Int} {p : Nat} {s v : State} {d : Nat} (h : UpdateWords f e p s v d) :
    let emergency := (f : Int) < s.nominal - s.setting Setting.EMERGENCY_DROP ∧ s.shed.lockout ≤ 1
    let x := shedTimerAfter p (if emergency then s.shed.shedTimer.map (fun _ => 0) else s.shed.shedTimer)
    let due := s.setting Setting.SHED_DELAY * 2000000 ≤ x
    shedTimerAfter p (timerHeld (emergencyTaken f v) v) = x ∧ shedTimerDue f p v = decide due ∧
      (updateSheds f e p v = true ↔ emergency ∨ (d = 0 ∧ e ≤ -(s.setting Setting.SHED_BAND : Int)) ∧ due) := by
  intro emergency x due
  have hx : shedTimerAfter p (timerHeld (emergencyTaken f v) v) = x := by
    rw [h.emergency, timerHeld, h.held]
    simp only [decide_eq_true_eq]
    rfl
  have hdue : shedTimerDue f p v = decide due := by rw [shedTimerDue, hx, h.delay]
  refine ⟨hx, hdue, ?_⟩
  rw [updateSheds, hdue, h.short, h.emergency, Bool.or_eq_true, Bool.and_eq_true, decide_eq_true_eq, decide_eq_true_eq,
    decide_eq_true_eq]

/-- The state `v` that the shedding takes at a demand update, whatever the saw does, and the state `u` after the
update. -/
structure UpdateSeen (f : Nat) (e : Int) (p : Nat) (s v u : State) : Prop where
  tables : v.tables = s.tables
  run : v.plant.state = s.plant.state
  lockout : v.shed.lockout = s.shed.lockout
  timer : v.shed.shedTimer = s.shed.shedTimer
  demand : v.gov.d = u.gov.d
  length : v.hamlet.entries.length = s.hamlet.entries.length
  candidate : s.frequencyCandidate = none → v.frequencyCandidate = none
  conds : s.conds.length = 25 → v.conds.length = 25
  lockoutAfter : u.shed.lockout = (sheddingUpdate f e p v).shed.lockout
  timerAfter : u.shed.shedTimer = (sheddingUpdate f e p v).shed.shedTimer
  grow : CondsGrow (sheddingUpdate f e p v) u

theorem updateSeen {f : Nat} {e : Int} {p : Nat} {s w : State} {g : Plant → Plant} (hseen : PeriodSeen s w)
    (shedFirst : Bool) : ∃ v, UpdateSeen f e p s v ((observersInOrder shedFirst f e p w).mapPlant g) := by
  have hconds : s.conds.length = 25 → w.conds.length = 25 := fun h => by
    rw [hseen.record.conds, periodRecord_conds_length, h]
  have hcandidate : s.frequencyCandidate = none → w.frequencyCandidate = none := fun h => by
    rwa [State.frequencyCandidate, hseen.hamlet]
  cases shedFirst with
  | true =>
    obtain ⟨hlockout, htimer⟩ := sawUpdate_timers f (sheddingUpdate f e p w)
    refine ⟨w, hseen.tables, hseen.state, by rw [hseen.shed], by rw [hseen.shed], ?_, by rw [hseen.hamlet],
      hcandidate, hconds, hlockout, htimer, (CondsGrow.sawUpdate f _).trans (.of_conds rfl)⟩
    obtain ⟨g', hg'⟩ := sawUpdate_gov f (sheddingUpdate f e p w)
    simp [observersInOrder, hg']
  | false =>
    obtain ⟨hlockout, htimer⟩ := sawUpdate_timers f w
    refine ⟨sawUpdate f w, by simp [hseen.tables], by simp [hseen.state], by rw [hlockout, hseen.shed],
      by rw [htimer, hseen.shed], by simp [observersInOrder], ?_, fun h => ?_,
      fun h => ((CondsGrow.sawUpdate f w).flags (hconds h)).1, rfl, rfl, .of_conds rfl⟩
    · have hlen : (sawUpdate f w).hamlet.entries.length = w.hamlet.entries.length := by
        have happend : ∀ i, (appendRequest i .saw w).hamlet.entries.length = w.hamlet.entries.length := by
          intro i
          rcases appendRequest_cases i .saw w with ⟨-, -, -, h⟩ | h <;> rw [h]
          simp
        unfold sawUpdate reserveUpdate feedUpdate
        dsimp only
        repeat' split
        all_goals simp [happend]
      rw [hlen, hseen.hamlet]
    · rw [State.frequencyCandidate, sawUpdate_hamlet_of_none f (hcandidate h)]
      exact hcandidate h

/-- A shed that is due without a candidate raises NOTHING_TO_SHED (R120). -/
theorem UpdateSeen.nothingToShed {f : Nat} {e : Int} {p : Nat} {s v u : State} (h : UpdateSeen f e p s v u)
    (hrun : s.plant.state = .run) (hlen : s.hamlet.entries.length = 48) (hp : p < 2000000)
    (hdelay : 1 ≤ s.setting Setting.SHED_DELAY) (hnone : s.frequencyCandidate = none)
    (hsheds : updateSheds f e p v = true) (hconds : s.conds.length = 25) : (u.cond .nothingToShed).flag = true := by
  have hrunv : v.plant.state = .run := h.run.trans hrun
  obtain ⟨-, hspec⟩ := shedSteps_spec (f := f) (e := e) hrunv (h.length.trans hlen) hp
    (by rw [setting_congr h.tables]; exact hdelay)
  have hraised := ((hspec hsheds).nothing (h.candidate hnone)).record
  have hflag : ((shedSteps f e p v).cond .nothingToShed).flag = true := by
    rw [hraised.cond]
    exact (raise_cond_self .nothingToShed none v (h.conds hconds)).1
  have hlength : (shedSteps f e p v).conds.length = 25 := by
    rw [hraised.conds]
    exact (raise_conds_length _ _ _).trans (h.conds hconds)
  have hupdate : sheddingUpdate f e p v = restoreStep p (shedSteps f e p v) := if_pos ((inPlant_iff v _).mpr hrunv)
  have hsame : (restoreStep p (shedSteps f e p v)).conds = (shedSteps f e p v).conds := by
    unfold restoreStep
    dsimp only
    repeat' split
    all_goals simp
  have hgrow := (CondsGrow.of_conds hsame).trans (hupdate ▸ h.grow)
  exact (hgrow.flags hlength).2 _ hflag

end Sys2Proof.Proofs
end

section
namespace Sys2Proof.Proofs
open Sys2Proof.Machine Sys2Proof.Safety

/-- Where the saw makes no shed request of its own, the shedding reads the saw state before or after the saw's
part, and the entry to ENGAGING stands after or before the record of the shedding. -/
theorem shedTaken_of_quiet {f : Nat} {e : Int} {p : Nat} {s w : State} {g : Plant → Plant} (hseen : PeriodSeen s w)
    (hquiet : SawQuiet w) (shedFirst : Bool) :
    ∃ v, v.saw.state ∈ (if s.saw.state = .reserving ∧ s.setting Setting.SAW_RESERVE_W ≤ w.surplus then
        [.reserving, .engaging] else [s.saw.state]) ∧
      ShedTaken (if s.saw.state = .reserving ∧ v.saw.state = .engaging then sawNoted 2 (periodRecord s)
          else periodRecord s)
        (fun r => if v.saw.state = .reserving ∧ s.setting Setting.SAW_RESERVE_W ≤ w.surplus then sawNoted 2 r else r)
        s v (sheddingUpdate f e p v) ((observersInOrder shedFirst f e p w).mapPlant g) := by
  have hset := setting_congr hseen.tables
  cases shedFirst with
  | true =>
    have hfirst := shedTaken_first (f := f) (e := e) (p := p) (g := g) hseen hquiet
    simp only [hset] at hfirst
    have hnot : ¬(s.saw.state = .reserving ∧ w.saw.state = .engaging) := by
      rw [hseen.saw]
      rintro ⟨h, h'⟩
      rw [h] at h'
      cases h'
    refine ⟨w, ?_, by rw [if_neg hnot]; exact hfirst⟩
    rw [hseen.saw]
    split
    · next h => simp [h.1]
    · simp
  | false =>
    have hsecond := shedTaken_second (f := f) (e := e) (p := p) (g := g) hseen hquiet
    have hstate := (sawUpdate_sawOnly f hquiet).state
    simp only [hset, decide_eq_true_eq, hseen.saw] at hsecond hstate
    refine ⟨sawUpdate f w, ?_, ?_⟩
    · rw [hstate]
      split <;> simp
    · by_cases h : s.saw.state = .reserving ∧ s.setting Setting.SAW_RESERVE_W ≤ w.surplus
      · rw [if_pos h] at hsecond hstate
        rw [hstate, if_pos ⟨h.1, rfl⟩]
        have hclose : (fun r => if SawState.engaging = .reserving ∧ s.setting Setting.SAW_RESERVE_W ≤ w.surplus then
            sawNoted 2 r else r) = id := by
          funext r
          exact if_neg fun h => by cases h.1
        rw [hclose]
        exact hsecond
      · rw [if_neg h] at hsecond hstate
        have hnot : ¬(s.saw.state = .reserving ∧ s.saw.state = .engaging) := by
          rintro ⟨h, h'⟩
          rw [h] at h'
          cases h'
        have hclose : (fun r => if s.saw.state = .reserving ∧ s.setting Setting.SAW_RESERVE_W ≤ w.surplus then
            sawNoted 2 r else r) = id := by
          funext r
          exact if_neg h
        rw [hstate, hclose, if_neg hnot]
        exact hsecond

/-- The record of a shed at the update (R118 to R120). -/
theorem ShedTaken.shed_record {start : State} {close : State → State} {s v y u : State}
    (h : ShedTaken start close s v y u) (hstart : start.shed = s.shed) {i : Nat} (hmade : ShedMade i v y) :
    u.circuit i = (s.circuit i).move .shed ∧ (∀ j < 48, j ≠ i → u.circuit j = s.circuit j) ∧
      u.shed.list = (appended i .frequency s).shed.list ∧
      SameRecord (close (appended i .frequency start)) u := by
  have hcircuit : ∀ j, v.circuit j = s.circuit j := fun j => by rw [State.circuit, State.circuit, h.hamlet]
  have hu : ∀ j, u.circuit j = y.circuit j := fun j => by rw [State.circuit, State.circuit, h.hamletAfter]
  refine ⟨by rw [hu, hmade.circuit, hcircuit], fun j _ hj => by rw [hu, hmade.one.others j hj, hcircuit], ?_, ?_⟩
  · rw [h.shedAfter, hmade.list, hcircuit, h.shed, appended_shed, State.secondOfDay, h.clock]
    rfl
  · exact (h.closed _ ((appended_agree h.record (by rw [h.shed, hstart]) i .frequency).trans hmade.record)).sameRecord

theorem ShedTaken.listed {start : State} {close : State → State} {s v y u : State}
    (h : ShedTaken start close s v y u) (i : Nat) : v.listed i = s.listed i := by
  rw [State.listed, State.listed, h.shed]

/-- The base record of an update that has no candidate or does not shed. -/
theorem ShedTaken.base {start : State} {close : State → State} {s v y u : State}
    (h : ShedTaken start close s v y u) {b : Bool} {sheds : Prop} [Decidable sheds] (hb : b = true ↔ sheds) :
    RecordAgree (if sheds then raise .nothingToShed none start else start)
      (if b then raise .nothingToShed none v else v) := by
  by_cases hs : sheds
  · rw [if_pos hs, if_pos (hb.mpr hs)]
    exact h.record.raise .nothingToShed none
  · rw [if_neg hs, if_neg (mt hb.mp hs)]
    exact h.record

theorem periodRecord_shed (s : State) : (periodRecord s).shed = s.shed := by
  unfold periodRecord timeErrorRecord
  cases s.gov.pendingSet <;> dsimp only <;> (repeat' split) <;> simp

/-- The restore candidate in the saw state that is read (R122, R123). -/
theorem restorable_eq {v : State} {w : SawState} {x : Option ShedEntry} {surplus : Nat} (hw : v.saw.state = w)
    (hsurplus : v.surplus = surplus) (hx : v.restoreCandidate = x) :
    (x = none → v.restorable = none) ∧
      (∀ c, x = some c → w ≠ .engaging ∧ c.load + v.setting Setting.RESTORE_MARGIN ≤ surplus → v.restorable = some c) ∧
      ∀ c, x = some c → ¬(w ≠ .engaging ∧ c.load + v.setting Setting.RESTORE_MARGIN ≤ surplus) →
        v.restorable = none := by
  subst hw hsurplus hx
  refine ⟨fun h => by rw [State.restorable, h], fun c h hroom => ?_, fun c h hroom => ?_⟩
  · rw [State.restorable, h]; exact if_pos hroom
  · rw [State.restorable, h]; exact if_neg hroom

end Sys2Proof.Proofs
end

section
namespace Sys2Proof.Proofs
open Sys2Proof.Machine Sys2Proof.Safety

/-- The expiry of the running shed timer in RUN with a candidate that is not listed. -/
theorem exec_shedTimerExpiry_of_taken {s : State} {i : Nat} (hlen : s.hamlet.entries.length = 48)
    (hrun : s.plant.state = .run) (htimer : s.shed.shedTimer.isSome = true) (hc : s.frequencyCandidate = some i)
    (hl : s.listed i = false) :
    ∃ t, exec .shedTimerExpiry s = .next t ∧ (t.circuit i = (s.circuit i).move .shed ∧
        ∀ j < 48, j ≠ i → t.circuit j = s.circuit j) ∧
      t.shed = { (appended i .frequency s).shed with shedTimer := some 0 } ∧
      SameRecord (appended i .frequency s) t ∧ SlotsFollow [] s t ∧
      KeptBut [.hamlet, .shed, .conds, .journal, .loop] s t := by
  obtain ⟨hi, -, -⟩ := frequencyCandidate_tier hc
  set x := s.mapShed fun l => { l with shedTimer := some 0 } with hx
  have hmap : RecordAgree s x := .of_loop rfl rfl rfl rfl rfl
  have hone : OneCircuit i s (appendTaken i .frequency x) :=
    ((OneCircuit.refl i s).mapShed _).trans (appendTaken_oneCircuit (s := x) (by omega) hi .frequency) fun _ => rfl
  refine ⟨_, congrArg Host.Outcome.next (shedTimerExpires_of_taken hrun htimer hc hl),
    ⟨circuit_appendTaken_self (s := x) hi .frequency, fun j _ hj => hone.others j hj⟩, ?_,
    ((appended_agree hmap rfl i .frequency).trans (appendTaken_agree i .frequency x)).sameRecord, hone.follow.slots, ?_⟩
  · rw [appendTaken_shed, appended_shed]
    rfl
  · intro b hb
    cases b <;> simp_all [Block.same]

/-- The circuit that a shed candidate becomes. -/
theorem move_shed_of_candidate {s : State} {i : Nat} (hc : s.frequencyCandidate = some i) :
    (s.circuit i).move .shed = { s.circuit i with state := .shed, overCount := 0, disagree := 0, reclose := none } := by
  obtain ⟨-, hclosed, -⟩ := frequencyCandidate_tier hc
  rw [move_of_closed hclosed (by decide), if_neg (by decide)]

/-- Settles O50: the expiry sheds the candidate as the update does, and the update is the four steps of the Load
Shedding Unit on the state that the saw leaves or takes. -/
theorem shedTimerExpiry : Obligations.ShedTimerExpiry := by
  intro s hlen candidate shedAt
  refine ⟨fun hrun htimer => ⟨fun hc => ?nothing, fun i hc hl => ?taken⟩, fun hidle => ?idle, ?update⟩
  case nothing =>
    have hrunning : (s.inPlant .run && s.shed.shedTimer.isSome) = true := by
      rw [(inPlant_iff s _).mpr hrun, htimer]; rfl
    have hnone : (s.mapShed fun l => { l with shedTimer := some 0 }).frequencyCandidate = none := hc
    refine congrArg Host.Outcome.next ?_
    rw [shedTimerExpires, if_pos hrunning, shedDue, frequencyShed, hnone]
    rfl
  case taken =>
    obtain ⟨t, hexec, hat, hrest⟩ := exec_shedTimerExpiry_of_taken hlen hrun htimer hc hl
    rw [move_shed_of_candidate hc] at hat
    exact ⟨t, hexec, hat, hrest⟩
  case idle =>
    refine congrArg Host.Outcome.next (if_neg ?_)
    rw [Bool.and_eq_true, inPlant_iff]
    rintro ⟨hrun, htimer⟩
    rcases hidle with h | h
    · exact h hrun
    · simp [h] at htimer
  case update =>
    intro t lag p hedge hrun hdelay hrestore f e emergency held x delay restore
    obtain ⟨plantFirst, shedFirst, hexec⟩ := exec_validEdge lag hedge
    have hp : p < 2000000 := by
      obtain ⟨-, -, -, -, -, hhigh⟩ := hedge
      omega
    have hlast : ¬acceptsLast (frequencyOf p) (periodTaken t p lag s) := by
      rintro ⟨hrunup, -⟩
      rw [periodTaken_state, hrun] at hrunup
      cases hrunup
    obtain ⟨w, g, hseen, hu⟩ := takersInOrder_seen plantFirst shedFirst t p lag hlast
    rw [hu] at hexec
    obtain ⟨v, hv⟩ := updateSeen (f := frequencyOf p) (e := s.freqError (frequencyOf p)) (p := p) (g := g) hseen shedFirst
    have hquietTaken := shedTaken_of_quiet (f := frequencyOf p) (e := s.freqError (frequencyOf p)) (p := p)
      (g := g) hseen (shedFirst := shedFirst)
    obtain ⟨g', hgov⟩ := observersInOrder_gov shedFirst (frequencyOf p) (s.freqError (frequencyOf p)) p w
    have hdemand : ((observersInOrder shedFirst (frequencyOf p) (s.freqError (frequencyOf p)) p w).mapPlant g).gov.d =
        w.gov.d := by rw [State.mapPlant_gov, hgov]
    generalize (observersInOrder shedFirst (frequencyOf p) (s.freqError (frequencyOf p)) p w).mapPlant g = u at *
    refine ⟨u, hexec, ?_⟩
    intro surplus short sheds enough sawRead quiet
    have hsurplus : w.surplus = surplus := by
      simp only [surplus]
      rw [hdemand, State.surplus, setting_congr hseen.tables]
      rfl
    have hquietSaw : quiet → SawQuiet w := by
      intro h hreserve
      rw [hseen.saw] at hreserve ⊢
      rw [setting_congr hseen.tables, hsurplus]
      exact .inr (h.resolve_left fun hnot => hnot hreserve)
    have hwords := updateWords (f := frequencyOf p) (e := s.freqError (frequencyOf p)) (p := p) hv.tables hv.lockout hv.timer
    rw [hv.demand] at hwords
    obtain ⟨hx, hdue, hsheds⟩ := hwords.timing
    obtain ⟨hlockoutAfter, htimerAfter⟩ := sheddingUpdate_timers (f := frequencyOf p)
      (e := s.freqError (frequencyOf p)) (p := p) (hv.run.trans hrun)
    refine ⟨?lockout, ?timer, fun hc hs hconds => ?flag, fun hslots hq => ?slots, fun hq => ?clauses⟩
    case lockout =>
      rw [hv.lockoutAfter, hlockoutAfter, hwords.emergency, hv.lockout]
      simp only [decide_eq_true_eq]
      rfl
    case timer =>
      rw [hv.timerAfter, htimerAfter, hwords.short, hdue, hx]
      simp only [decide_eq_true_eq]
      rfl
    case flag => exact hv.nothingToShed hrun hlen hp hdelay hc (hsheds.mpr hs) hconds
    case slots =>
      obtain ⟨v, -, htaken⟩ := hquietTaken (hquietSaw hq)
      have hset := setting_congr htaken.tables
      exact (htaken.follow (sheddingUpdate_passed (htaken.run.trans hrun) (by rw [htaken.hamlet, hlen]) hp
        (by rw [hset]; exact hdelay) (by rw [hset]; exact hrestore)).follow hslots).slots
    case clauses =>
      obtain ⟨v, hread, htaken⟩ := hquietTaken (hquietSaw hq)
      have hset := setting_congr htaken.tables
      have hpassed := sheddingUpdate_passed (f := frequencyOf p) (e := s.freqError (frequencyOf p))
        (htaken.run.trans hrun) (by rw [htaken.hamlet, hlen]) hp (by rw [hset]; exact hdelay)
        (by rw [hset]; exact hrestore)
      have hwords := updateWords (f := frequencyOf p) (e := s.freqError (frequencyOf p)) (p := p) htaken.tables
        (congrArg Shedding.lockout htaken.shed) (congrArg Shedding.shedTimer htaken.shed)
      rw [← htaken.demand] at hwords
      obtain ⟨-, -, hsheds⟩ := hwords.timing
      have hsurplusv : v.surplus = surplus := by
        simp only [surplus]
        rw [State.surplus, hset, htaken.demand]
        rfl
      rw [hsurplus] at hread htaken
      refine ⟨v.saw.state, hread, ?_⟩
      intro room start close base
      have hcandidatev : v.frequencyCandidate = candidate := by
        rw [State.frequencyCandidate, htaken.hamlet]
      have hstart : start.shed = s.shed := by
        simp only [start]
        split
        · exact periodRecord_shed s
        · exact periodRecord_shed s
      have hcircuit : ∀ j, v.circuit j = s.circuit j := fun j => by rw [State.circuit, State.circuit, htaken.hamlet]
      have hbase := htaken.base (b := updateSheds (frequencyOf p) (s.freqError (frequencyOf p)) p v) (sheds := sheds) hsheds
      have hmade : ¬sheds ∨ candidate = none → _ := fun h => hpassed.restore
        (h.imp (fun hnot => by rw [← Bool.not_eq_true, hsheds]; exact hnot) hcandidatev.trans)
      have hidle : v.saw.state = .idle ↔ s.saw.state = .idle := by
        split at hread
        · next hboth =>
          rw [hboth.1]
          rcases List.mem_pair.mp hread with h | h <;> simp [h]
        · rw [List.mem_singleton.mp hread]
      have hrestore' : v.restoreCandidate = restore := by
        simp only [State.restoreCandidate, hidle, htaken.shed, restore]
      obtain ⟨hnone, hroomy, hroomless⟩ := restorable_eq rfl hsurplusv hrestore'
      rw [hset] at hroomy hroomless
      refine ⟨fun i hc hs hl => ?shed, fun hc h => ?without, fun c hc h => ?candidate⟩
      case shed =>
        have hone := hpassed.shed i (hcandidatev.trans hc) (hsheds.mpr hs) ((htaken.listed i).trans hl)
        obtain ⟨hself, hothers, hlist, hrecord⟩ := htaken.shed_record hstart hone
        rw [move_shed_of_candidate hc] at hself
        have htimed := hone.timed
        have hnotTimed := hone.notTimed
        rw [hcircuit, hset, hsurplusv, ← htaken.shedAfter] at htimed hnotTimed
        exact ⟨⟨hself, hothers⟩, hlist, hrecord, fun hroom => htimed hroom.1 hroom.2, hnotTimed⟩
      case without =>
        obtain ⟨hlist, htimer, hhamlet, hrecord⟩ := (hmade h).none (hnone hc)
        rw [htaken.shedAfter, htaken.hamletAfter]
        exact ⟨by rw [hlist, htaken.shed], htimer, by rw [hhamlet, htaken.hamlet],
          (htaken.closed _ (hbase.trans hrecord)).sameRecord⟩
      case candidate =>
        intro passed due
        have hpassedTime : restoreElapsed c p v.shed.restoreTimer = passed := by rw [htaken.shed]; rfl
        have hdue : seconds (v.setting Setting.RESTORE_DELAY) = s.setting Setting.RESTORE_DELAY * 2000000 := by
          rw [hset]; rfl
        have hdueTime := (hmade h).due c
        have hearly := (hmade h).early c
        rw [hpassedTime, hdue] at hdueTime hearly
        refine ⟨fun hroom hlong hi hstate => ?_, fun hroom hshort => ?_, fun hroom => ?_⟩
        · have hrestored := hdueTime (hroomy c hc hroom) hlong hi (by rw [hcircuit, hstate])
          have hrecord := hrestored.record
          rw [hsurplusv] at hrecord
          rw [htaken.shedAfter, State.circuit, htaken.hamletAfter]
          refine ⟨by rw [hrestored.list, htaken.shed], hrestored.timer, by rw [← hcircuit]; exact hrestored.circuit,
            fun j hj hne => ?_, ?_⟩
          · rw [State.circuit, htaken.hamletAfter, ← hcircuit]
            exact hrestored.others j hj hne
          · refine (htaken.closed _ (RecordAgree.trans ?_ hrecord)).sameRecord
            exact hbase.journalAppend .restore (some c.circuit) surplus
        · obtain ⟨hlist, htimer, hhamlet, hrecord⟩ := hearly (hroomy c hc hroom) hshort
          rw [htaken.shedAfter, htaken.hamletAfter]
          exact ⟨by rw [hlist, htaken.shed], htimer, by rw [hhamlet, htaken.hamlet],
            (htaken.closed _ (hbase.trans hrecord)).sameRecord⟩
        · obtain ⟨hlist, htimer, hhamlet, hrecord⟩ := (hmade h).none (hroomless c hc hroom)
          rw [htaken.shedAfter, htaken.hamletAfter]
          exact ⟨by rw [hlist, htaken.shed], htimer, by rw [hhamlet, htaken.hamlet],
            (htaken.closed _ (hbase.trans hrecord)).sameRecord⟩

end Sys2Proof.Proofs
end

section
namespace Sys2Proof.Proofs
open Sys2Proof.Machine Sys2Proof.Safety

/-! ## O51: the restore of the candidate being timed -/

theorem restoreCircuit_oneCircuit {i : Nat} (hi : i < 48) {z : State} (hlen : z.hamlet.entries.length = 48) :
    OneCircuit i z (restoreCircuit i z) := by
  have hremove : OneCircuit i z (removeShed i z) := (OneCircuit.refl i z).mapShed _
  have hmove : OneCircuit i (removeShed i z) (moveCircuit i .closed (removeShed i z)) :=
    .moveCircuit hi (by simp [hlen, hi]) .closed
  exact (hremove.trans hmove fun _ => rfl).journalAppend .restore (some i) z.surplus

/-- A restore changes hamlet, list, journal and slots alone. -/
theorem restoreCircuit_keptBut (i : Nat) (s : State) :
    KeptBut [.shed, .hamlet, .journal, .loop] s (restoreCircuit i s) := by
  intro b hb
  cases b <;> simp_all [Block.same]

theorem restoreExpires_of_timed {s : State} {x : ShedEntry} {e : Nat} (hrun : s.plant.state = .run)
    (hx : s.restorable = some x) (htimer : s.shed.restoreTimer = some ⟨x.circuit, e⟩) :
    restoreExpires s = restoreCircuit x.circuit s := by
  rw [restoreExpires, hx, htimer]
  refine if_pos ?_
  rw [Bool.and_eq_true, inPlant_iff]
  exact ⟨hrun, beq_self_eq_true _⟩

theorem restoreExpires_of_none {s : State} (h : s.plant.state ≠ .run ∨ s.restorable = none ∨
    s.shed.restoreTimer = none) : restoreExpires s = s := by
  unfold restoreExpires
  split
  · next c r hc hr =>
    have hrun : s.plant.state ≠ .run := h.resolve_right (by rw [hc, hr]; simp)
    rw [if_neg (by rw [Bool.and_eq_true, inPlant_iff]; exact fun h => hrun h.1)]
  · rfl

theorem restoreExpires_of_other {s : State} {x : ShedEntry} (hx : s.restorable = some x)
    (h : (s.shed.restoreTimer.map fun r => r.circuit) ≠ some x.circuit) : restoreExpires s = s := by
  cases htimer : s.shed.restoreTimer with
  | none => exact restoreExpires_of_none (.inr (.inr htimer))
  | some r =>
    rw [htimer] at h
    rw [restoreExpires, hx, htimer]
    refine if_neg ?_
    rw [Bool.and_eq_true, beq_iff_eq]
    exact fun heq => h (by rw [heq.2]; rfl)

/-- Settles O51. -/
theorem restore : Obligations.Restore := by
  intro s e candidate surplus room
  obtain ⟨hnone, hroomy, hroomless⟩ := restorable_eq (v := s) (x := candidate) (surplus := surplus) rfl rfl rfl
  refine ⟨fun x hx hrun htimer hroom hlen hi hstate => ?taken, fun h => ?nothing, fun x hx h => ?other⟩
  case taken =>
    have hrestored : Restored x s s (restoreCircuit x.circuit s) :=
      restoreCircuit_restored hlen hi hstate rfl rfl rfl (.refl s)
    refine ⟨_, congrArg Host.Outcome.next (restoreExpires_of_timed hrun (hroomy x hx hroom) htimer), ?_,
      hrestored.circuit, hrestored.others, hrestored.record.sameRecord,
      (restoreCircuit_oneCircuit hi hlen).follow.slots, restoreCircuit_keptBut _ _⟩
    simp [restoreCircuit, removeShed]
  case nothing =>
    exact congrArg Host.Outcome.next (restoreExpires_of_none (h.imp_right (Or.imp_left hnone)))
  case other =>
    refine congrArg Host.Outcome.next ?_
    by_cases hroom : room x
    · exact restoreExpires_of_other (hroomy x hx hroom) (h.resolve_left (not_not.mpr hroom))
    · exact restoreExpires_of_none (.inr (.inl (hroomless x hx hroom)))

end Sys2Proof.Proofs
end

section
namespace Sys2Proof.Proofs
open Sys2Proof.Machine Sys2Proof.Safety

/-! ## O48: CIRCUIT ADMIN

A taken request is journalled by the holding state; what follows is a move or an append of one circuit. -/

/-- The state of a taken request after its CIRCUIT_ADMIN entry. -/
def adminNoted (i action : Nat) (s : State) : State := journalAdmin i action (holding s)

/-- The state of a taken RELEASE LOCKOUT before the circuit is placed. -/
def strikesCleared (i : Nat) (s : State) : State := clearStrikes i (adminNoted i 2 s)

/-- A request on a present circuit comes to its action. -/
theorem circuitAdmin_of_present {i : Nat} {s : State} (hi : i ≤ 47) (hpresent : (s.circuit i).state ≠ .absent) :
    circuitAdmin i 0 (holding s) = adminOff i (holding s) ∧ circuitAdmin i 1 (holding s) = adminOn i (holding s) ∧
      circuitAdmin i 2 (holding s) = adminRelease i (holding s) ∧
      circuitAdmin i 3 (holding s) = adminClear i (holding s) := by
  have hnot : ¬(47 < i ∨ ((holding s).circuit i).state = .absent) := not_or.mpr ⟨by omega, hpresent⟩
  simp [circuitAdmin, hnot]

theorem circuitAdmin_of_refused {i action : Nat} {s : State} (h : 47 < i ∨ (s.circuit i).state = .absent) :
    circuitAdmin i action (holding s) = ⟨holding s, .outOfRange, []⟩ := if_pos h

/-- A taken request stands at `x`, with the record `record`, before its circuit is placed. -/
structure AdminBase (i : Nat) (record s x : State) : Prop where
  index : i < 48
  length : x.hamlet.entries.length = 48
  one : OneCircuit i s x
  wanted : (x.circuit i).wanted = (s.circuit i).wanted
  reading : (record.circuit i).reading = (x.circuit i).reading
  list : record.shed = x.shed
  shed : x.shed = s.shed
  kept : KeptBut [.hamlet, .journal, .loop] s x
  agree : RecordAgree record x

theorem adminBase_noted {i : Nat} (action : Nat) {s : State} (hi : i < 48) (hlen : s.hamlet.entries.length = 48) :
    AdminBase i (adminNoted i action s) s (adminNoted i action s) := by
  refine ⟨hi, hlen, .of_same rfl rfl rfl rfl ⟨_, _, rfl⟩, rfl, rfl, rfl, rfl, fun b hb => ?_, .refl _⟩
  cases b <;> first | rfl | simp at hb

theorem circuit_strikesCleared {i : Nat} {s : State} (hlen : i < s.hamlet.entries.length) :
    (strikesCleared i s).circuit i = { s.circuit i with strikes := 0, windowStart := none } :=
  circuit_modifyCircuit_self (s := adminNoted i 2 s) hlen _

theorem adminBase_cleared {i : Nat} {s : State} (hi : i < 48) (hlen : s.hamlet.entries.length = 48) :
    AdminBase i (adminNoted i 2 s) s (strikesCleared i s) := by
  have hbase := adminBase_noted 2 hi hlen
  have hlt : i < s.hamlet.entries.length := by omega
  have hmodify : OneCircuit i (adminNoted i 2 s) (strikesCleared i s) := .modifyCircuit rfl
  refine ⟨hi, hmodify.length.trans hlen, hbase.one.trans hmodify fun _ => rfl, by rw [circuit_strikesCleared hlt]; rfl,
    by rw [circuit_strikesCleared hlt]; rfl, rfl, rfl, fun b hb => ?_, modifyCircuit_agree i _ _⟩
  cases b <;> first | rfl | simp at hb

/-- What placing circuit `i` leaves, with the frame that the statement gives it. -/
structure AdminTaken (i : Nat) (touched : List Block) (record s m : State) : Prop where
  others : ∀ j < 48, j ≠ i → m.circuit j = s.circuit j
  record : SameRecord record m
  slots : SlotsFollow [] s m
  kept : KeptBut touched s m

/-- A move of the circuit. -/
theorem AdminBase.move {i : Nat} {record s x : State} (h : AdminBase i record s x) (st : CircuitState) :
    AdminTaken i [.hamlet, .journal, .loop] record s (moveCircuit i st x) := by
  have hlt : i < x.hamlet.entries.length := h.length ▸ h.index
  have hone := h.one.trans (.moveCircuit h.index hlt st) fun _ => h.wanted
  refine ⟨fun j _ hj => hone.others j hj, (h.agree.trans (moveCircuit_agree i st x)).sameRecord, hone.follow.slots,
    fun b hb => ?_⟩
  have hx := h.kept b hb
  cases b <;> simp_all only [Block.same, moveCircuit_frame] <;> simp at hb

/-- An append of the circuit. -/
theorem AdminBase.append {i : Nat} {record s x : State} (h : AdminBase i record s x) :
    AdminTaken i [.hamlet, .shed, .conds, .journal, .loop] (appended i .frequency record) s
      (appendTaken i .frequency x) := by
  have hlt : i < x.hamlet.entries.length := h.length ▸ h.index
  have hone := h.one.trans (appendTaken_oneCircuit h.index hlt .frequency) fun _ => h.wanted
  refine ⟨fun j _ hj => hone.others j hj, ((appended_agree h.agree (by rw [h.list]) i .frequency).trans
    (appendTaken_agree i .frequency x)).sameRecord, hone.follow.slots, fun b hb => ?_⟩
  have hx := h.kept b fun hmem => hb (by simp at hmem ⊢; rcases hmem with h | h | h <;> simp [h])
  cases b <;> simp_all only [Block.same, appendTaken_frame] <;> simp at hb

/-- To a list that holds others the append raises nothing. -/
theorem AdminBase.append_listed {i : Nat} {record s x : State} (h : AdminBase i record s x) (hlist : s.shed.list ≠ []) :
    AdminTaken i [.hamlet, .shed, .journal, .loop] (appended i .frequency record) s (appendTaken i .frequency x) := by
  have hconds : (appendTaken i .frequency x).conds = x.conds := by
    rw [(appendTaken_agree i .frequency x).conds, appended, if_neg (by rw [h.shed]; exact hlist)]
  obtain ⟨hothers, hrecord, hslots, hkept⟩ := h.append
  refine ⟨hothers, hrecord, hslots, fun b hb => ?_⟩
  by_cases hb' : b = .conds
  · subst hb'
    exact hconds.trans (h.kept .conds (by simp))
  · exact hkept b (by simp at hb ⊢; exact ⟨hb.1, hb.2.1, hb', hb.2.2⟩)

theorem AdminBase.append_shed {i : Nat} {record s x : State} (h : AdminBase i record s x) :
    (appendTaken i .frequency x).shed = (appended i .frequency record).shed := by
  rw [appendTaken_shed, appended_shed, h.reading, h.list, State.secondOfDay, State.secondOfDay, h.agree.clock]

/-- The answer to a taken request carries the circuit's new state (R105). -/
theorem serve_adminDone {i action : Nat} {s m : State} {c : Circuit} (src : Byte) (tag : Word16)
    (hroom : s.answerRoom = true) (h : circuitAdmin i action (holding s) = adminDone i m) (hc : m.circuit i = c) :
    serve src tag Code.CIRCUIT_ADMIN (circuitAdmin i action) s =
      answered src tag 10 .done [byteOf c.state.code] m :=
  serve_eq_answered src tag 10 hroom (by rw [h, adminDone, hc])

/-- A move between positions other than CLOSED writes the entry alone. -/
theorem moveCircuit_eq_set {i : Nat} {st : CircuitState} {x : State} (hlen : i < x.hamlet.entries.length)
    (hopen : (x.circuit i).state ≠ .closed) (hst : st ≠ .closed) (hlimit : st ≠ .limitOpen) :
    moveCircuit i st x = { x with hamlet := { x.hamlet with
      entries := x.hamlet.entries.set i { x.circuit i with state := st, reclose := none } } } := by
  have hsame : ((x.circuit i).state == .closed) = (st == .closed) := by simp [hopen, hst]
  rw [moveCircuit, if_pos hsame, modifyCircuit_eq_set hlen, move_of_open hopen hst hlimit]

/-! ### OFF (R106) -/

theorem circuitAdmin_off {i : Nat} {s : State} (hi : i < 48) (hlen : s.hamlet.entries.length = 48)
    (hpresent : (s.circuit i).state ≠ .absent) :
    ∃ m, circuitAdmin i 0 (holding s) = adminDone i m ∧ m.circuit i = (s.circuit i).move .off ∧
      AdminTaken i [.hamlet, .shed, .journal, .loop] (adminNoted i 0 s) s m ∧
      m.shed = if (s.circuit i).state = .shed then { s.shed with
        list := s.shed.list.filter fun e => e.circuit != i, restoreTimer := none } else s.shed := by
  obtain ⟨hoff, -⟩ := circuitAdmin_of_present (Nat.le_of_lt_succ hi) hpresent
  have hlt : i < s.hamlet.entries.length := by omega
  have hbase := adminBase_noted 0 hi hlen
  by_cases hshed : (s.circuit i).state = .shed
  · have hone : OneCircuit i s (moveCircuit i .off (removeShed i (adminNoted i 0 s))) :=
      (hbase.one.mapShed _).trans (.moveCircuit (s := removeShed i (adminNoted i 0 s)) hi hlt .off) fun _ => rfl
    have hrecord : RecordAgree (adminNoted i 0 s) (moveCircuit i .off (removeShed i (adminNoted i 0 s))) :=
      RecordAgree.trans (t := removeShed i (adminNoted i 0 s)) (.of_loop rfl rfl rfl rfl rfl) (moveCircuit_agree i .off _)
    refine ⟨moveCircuit i .off (removeShed i (adminNoted i 0 s)), ?_,
      circuit_moveCircuit_self (s := removeShed i (adminNoted i 0 s)) hlt .off,
      ⟨fun j _ hj => hone.others j hj, hrecord.sameRecord, hone.follow.slots, fun b hb => ?_⟩, ?_⟩
    · rw [hoff, adminOff, if_pos (by exact hshed)]; rfl
    · cases b <;> simp_all [Block.same, adminNoted, journalAdmin, holding]
    · rw [if_pos hshed]
      simp [removeShed, adminNoted, journalAdmin, holding]
  · obtain ⟨hothers, hrecord, hslots, hkept⟩ := hbase.move .off
    refine ⟨moveCircuit i .off (adminNoted i 0 s), ?_, circuit_moveCircuit_self (s := adminNoted i 0 s) hlt .off,
      ⟨hothers, hrecord, hslots, fun b hb => hkept b fun hmem => hb (by simp at hmem ⊢; tauto)⟩, ?_⟩
    · rw [hoff, adminOff, if_neg (by exact hshed)]; rfl
    · rw [if_neg hshed]
      simp [adminNoted, journalAdmin, holding]

/-! ### ON (R107) and RELEASE LOCKOUT (R108) -/

theorem circuitAdmin_on {i : Nat} {s : State} (hi : i < 48) (hstate : (s.circuit i).state = .off) :
    circuitAdmin i 1 (holding s) = adminDone i (placeOn i (adminNoted i 1 s)) := by
  obtain ⟨-, hon, -⟩ := circuitAdmin_of_present (s := s) (Nat.le_of_lt_succ hi) (by rw [hstate]; decide)
  rw [hon]
  exact if_pos hstate

theorem circuitAdmin_release {i : Nat} {s : State} (hi : i < 48) (hstate : (s.circuit i).state = .locked) :
    circuitAdmin i 2 (holding s) = adminDone i (placeReleased i (strikesCleared i s)) := by
  obtain ⟨-, -, hrelease, -⟩ := circuitAdmin_of_present (s := s) (Nat.le_of_lt_succ hi) (by rw [hstate]; decide)
  rw [hrelease]
  exact if_pos hstate

theorem appendRequest_of_free {i : Nat} {x : State} (hrun : x.plant.state = .run) (htier : 1 ≤ (x.circuit i).tier)
    (hl : x.listed i = false) : appendRequest i .frequency x = appendTaken i .frequency x := by
  refine if_pos ?_
  rw [Bool.and_eq_true, Bool.and_eq_true, inPlant_iff, decide_eq_true_eq, hl]
  exact ⟨⟨hrun, htier⟩, rfl⟩

theorem placeOn_cases {i : Nat} {x : State} :
    (x.plant.state ≠ .run → placeOn i x = moveCircuit i .dark x) ∧
      (x.plant.state = .run → (x.circuit i).tier = 0 → placeOn i x = moveCircuit i .closed x) ∧
      (x.plant.state = .run → 1 ≤ (x.circuit i).tier → x.listed i = false →
        placeOn i x = appendTaken i .frequency x) := by
  refine ⟨fun hrun => if_neg (by rwa [inPlant_iff]), fun hrun htier => ?_, fun hrun htier hl => ?_⟩
  · rw [placeOn, if_pos ((inPlant_iff x _).mpr hrun), if_pos htier]
  · rw [placeOn, if_pos ((inPlant_iff x _).mpr hrun), if_neg (Nat.ne_of_gt htier), appendRequest_of_free hrun htier hl]

theorem placeReleased_cases {i : Nat} {x : State} :
    (x.plant.state ≠ .run → placeReleased i x = moveCircuit i .dark x) ∧
      (x.plant.state = .run → (x.circuit i).tier = 0 ∨ x.shed.list = [] →
        placeReleased i x = moveCircuit i .closed x) ∧
      (x.plant.state = .run → 1 ≤ (x.circuit i).tier → x.shed.list ≠ [] → x.listed i = false →
        placeReleased i x = appendTaken i .frequency x) := by
  refine ⟨fun hrun => if_neg (by rwa [inPlant_iff]), fun hrun hcloses => ?_, fun hrun htier hlist hl => ?_⟩
  · rw [placeReleased, if_pos ((inPlant_iff x _).mpr hrun)]
    exact if_pos hcloses
  · rw [placeReleased, if_pos ((inPlant_iff x _).mpr hrun), ← appendRequest_of_free hrun htier hl]
    exact if_neg (not_or.mpr ⟨Nat.ne_of_gt htier, hlist⟩)

end Sys2Proof.Proofs
end

section
namespace Sys2Proof.Proofs
open Sys2Proof.Machine Sys2Proof.Safety

/-- ON of an OFF circuit, by the plant state and the tier (R107). -/
theorem adminOn_taken {src : Byte} {tag : Word16} {i : Nat} {s : State} (hroom : s.answerRoom = true) (hi : i < 48)
    (hlen : s.hamlet.entries.length = 48) (hstate : (s.circuit i).state = .off) :
    let answer (c : Circuit) (m : State) : Prop := m.circuit i = c ∧
      serve src tag 10 (circuitAdmin i 1) s = answered src tag 10 .done [byteOf c.state.code] m
    (s.plant.state ≠ .run → serve src tag 10 (circuitAdmin i 1) s =
      answered src tag 10 .done [1] (moveCircuit i .dark (adminNoted i 1 s))) ∧
    (s.plant.state = .run → (s.circuit i).tier = 0 →
      answer { s.circuit i with state := .closed, disagree := 0, reclose := none }
        (moveCircuit i .closed (adminNoted i 1 s))) ∧
    (s.plant.state = .run → 1 ≤ (s.circuit i).tier → s.listed i = false →
      answer { s.circuit i with state := .shed, reclose := none } (appendTaken i .frequency (adminNoted i 1 s))) := by
  have hlt : i < (adminNoted i 1 s).hamlet.entries.length := hlen ▸ hi
  have hon := circuitAdmin_on hi hstate
  obtain ⟨hdark, hclosed, hshed⟩ := placeOn_cases (i := i) (x := adminNoted i 1 s)
  have hself : ∀ st, (moveCircuit i st (adminNoted i 1 s)).circuit i = (s.circuit i).move st :=
    fun st => circuit_moveCircuit_self hlt st
  refine ⟨fun hrun => serve_adminDone src tag hroom (hon.trans (by rw [hdark hrun])) (hself .dark),
    fun hrun htier => ?_, fun hrun htier hl => ?_⟩
  · have hc := (hself .closed).trans (move_closed (by rw [hstate]; decide))
    exact ⟨hc, serve_adminDone src tag hroom (hon.trans (by rw [hclosed hrun htier])) hc⟩
  · have hc : (appendTaken i .frequency (adminNoted i 1 s)).circuit i =
        { s.circuit i with state := .shed, reclose := none } :=
      (circuit_appendTaken_self hlt .frequency).trans
        (move_of_open (c := s.circuit i) (by rw [hstate]; decide) (by decide) (by decide))
    exact ⟨hc, serve_adminDone src tag hroom (hon.trans (by rw [hshed hrun htier hl])) hc⟩

/-- RELEASE LOCKOUT of a LOCKED circuit, by the plant state, the tier and the list (R108). -/
theorem adminRelease_taken {src : Byte} {tag : Word16} {i : Nat} {s : State} (hroom : s.answerRoom = true)
    (hi : i < 48) (hlen : s.hamlet.entries.length = 48) (hstate : (s.circuit i).state = .locked) :
    let freed : Circuit := { s.circuit i with strikes := 0, windowStart := none, reclose := none }
    let answer (c : Circuit) (m : State) : Prop := m.circuit i = c ∧
      serve src tag 10 (circuitAdmin i 2) s = answered src tag 10 .done [byteOf c.state.code] m
    (s.plant.state ≠ .run → serve src tag 10 (circuitAdmin i 2) s =
      answered src tag 10 .done [1] (moveCircuit i .dark (strikesCleared i s))) ∧
    (s.plant.state = .run → (s.circuit i).tier = 0 ∨ s.shed.list = [] →
      answer { freed with state := .closed, disagree := 0 } (moveCircuit i .closed (strikesCleared i s))) ∧
    (s.plant.state = .run → 1 ≤ (s.circuit i).tier → s.shed.list ≠ [] → s.listed i = false →
      answer { freed with state := .shed } (appendTaken i .frequency (strikesCleared i s))) := by
  have hbase := adminBase_cleared hi hlen
  have hlt : i < (strikesCleared i s).hamlet.entries.length := hbase.length ▸ hi
  have hcircuit := circuit_strikesCleared (i := i) (s := s) (hlen ▸ hi)
  have hrelease := circuitAdmin_release hi hstate
  obtain ⟨hdark, hclosed, hshed⟩ := placeReleased_cases (i := i) (x := strikesCleared i s)
  rw [hcircuit] at hclosed hshed
  have hself : ∀ st, (moveCircuit i st (strikesCleared i s)).circuit i =
      Circuit.move st { s.circuit i with strikes := 0, windowStart := none } :=
    fun st => by rw [circuit_moveCircuit_self hlt st, hcircuit]
  refine ⟨fun hrun => serve_adminDone src tag hroom (hrelease.trans (by rw [hdark hrun])) (hself .dark),
    fun hrun hcloses => ?_, fun hrun htier hlist hl => ?_⟩
  · have hc := (hself .closed).trans (move_closed (by simp [hstate]))
    exact ⟨hc, serve_adminDone src tag hroom (hrelease.trans (by rw [hclosed hrun hcloses])) hc⟩
  · have hc : (appendTaken i .frequency (strikesCleared i s)).circuit i =
        Circuit.move .shed { s.circuit i with strikes := 0, windowStart := none } := by
      rw [circuit_appendTaken_self hlt .frequency, hcircuit]
    rw [move_of_open (by simp [hstate]) (by decide) (by decide)] at hc
    exact ⟨hc, serve_adminDone src tag hroom (hrelease.trans (by rw [hshed hrun htier hlist hl])) hc⟩

/-- Settles O48. -/
theorem circuitAdmin : Obligations.CircuitAdmin := by
  intro src tag i s hroom hlen c put others admin listed freed
  refine ⟨fun h => ?refused, fun hi hpresent => ?_⟩
  case refused =>
    have hrefused : ∀ action, serve src tag 10 (Machine.circuitAdmin i.toNat action) s =
        answered src tag 10 .outOfRange [] s := fun action =>
      serve_eq_answered_of_holding src tag 10 hroom (circuitAdmin_of_refused h)
    exact ⟨congrArg Host.Outcome.next (hrefused 0), congrArg Host.Outcome.next (hrefused 1),
      congrArg Host.Outcome.next (hrefused 2), congrArg Host.Outcome.next (hrefused 3)⟩
  obtain ⟨-, hon, hrelease, hclear⟩ := circuitAdmin_of_present hi hpresent
  have hi48 : i.toNat < 48 := by omega
  have hlt : i.toNat < s.hamlet.entries.length := by omega
  have hnoted := adminBase_noted 1 hi48 hlen
  have hcleared := adminBase_cleared hi48 hlen
  refine ⟨?off, fun hnot => ?onWrong, fun hstate hrun => ?onDark, fun hstate hrun htier => ?onClosed,
    fun hstate hrun htier hl => ?onShed, fun hnot => ?releaseWrong, fun hstate hrun => ?releaseDark,
    fun hstate hrun hcloses => ?releaseClosed, fun hstate hrun htier hlist hl => ?releaseShed, ?clear⟩
  case off =>
    obtain ⟨m, hm, hcircuit, ⟨hothers, hrecord, hslots, hkept⟩, hshed⟩ := circuitAdmin_off hi48 hlen hpresent
    refine ⟨m, congrArg Host.Outcome.next (serve_adminDone src tag hroom hm hcircuit), ?_, hshed, hothers, hrecord,
      hslots, hkept⟩
    rw [hcircuit]
    by_cases hclosed : c.state = .closed
    · rw [if_pos hclosed, if_pos hclosed]
      exact move_of_closed hclosed (by decide)
    · rw [if_neg hclosed, if_neg hclosed]
      exact move_of_open hclosed (by decide) (by decide)
  case onWrong =>
    exact congrArg Host.Outcome.next (serve_eq_answered_of_holding src tag 10 hroom (hon.trans (if_neg hnot)))
  case onDark =>
    obtain ⟨hdark, -⟩ := adminOn_taken (src := src) (tag := tag) hroom hi48 hlen hstate
    refine congrArg Host.Outcome.next ((hdark hrun).trans ?_)
    rw [moveCircuit_eq_set (x := adminNoted i.toNat 1 s) hlt
      (show (s.circuit i.toNat).state ≠ _ by rw [hstate]; decide) (by decide) (by decide)]
    rfl
  case onClosed =>
    obtain ⟨-, hclosed, -⟩ := adminOn_taken (src := src) (tag := tag) hroom hi48 hlen hstate
    obtain ⟨hcircuit, hserve⟩ := hclosed hrun htier
    obtain ⟨hothers, hrecord, hslots, hkept⟩ := hnoted.move .closed
    exact ⟨_, congrArg Host.Outcome.next hserve, hcircuit, hothers, hrecord, hslots, hkept⟩
  case onShed =>
    obtain ⟨-, -, hshed⟩ := adminOn_taken (src := src) (tag := tag) hroom hi48 hlen hstate
    obtain ⟨hcircuit, hserve⟩ := hshed hrun htier hl
    obtain ⟨hothers, hrecord, hslots, hkept⟩ := hnoted.append
    exact ⟨_, congrArg Host.Outcome.next hserve, hcircuit, hnoted.append_shed, hothers, hrecord, hslots, hkept⟩
  case releaseWrong =>
    exact congrArg Host.Outcome.next (serve_eq_answered_of_holding src tag 10 hroom (hrelease.trans (if_neg hnot)))
  case releaseDark =>
    obtain ⟨hdark, -⟩ := adminRelease_taken (src := src) (tag := tag) hroom hi48 hlen hstate
    have hcircuit := circuit_strikesCleared hlt
    refine congrArg Host.Outcome.next ((hdark hrun).trans ?_)
    rw [moveCircuit_eq_set (x := strikesCleared i.toNat s) (hcleared.length ▸ hi48)
      (by rw [hcircuit]; exact fun h => by rw [show (s.circuit i.toNat).state = _ from hstate] at h; cases h)
      (by decide) (by decide), hcircuit, strikesCleared, clearStrikes,
      modifyCircuit_eq_set (s := adminNoted i.toNat 2 s) hlt]
    simp only [List.set_set]
    rfl
  case releaseClosed =>
    obtain ⟨-, hclosed, -⟩ := adminRelease_taken (src := src) (tag := tag) hroom hi48 hlen hstate
    obtain ⟨hcircuit, hserve⟩ := hclosed hrun hcloses
    obtain ⟨hothers, hrecord, hslots, hkept⟩ := hcleared.move .closed
    exact ⟨_, congrArg Host.Outcome.next hserve, hcircuit, hothers, hrecord, hslots, hkept⟩
  case releaseShed =>
    obtain ⟨-, -, hshed⟩ := adminRelease_taken (src := src) (tag := tag) hroom hi48 hlen hstate
    obtain ⟨hcircuit, hserve⟩ := hshed hrun htier hlist hl
    obtain ⟨hothers, hrecord, hslots, hkept⟩ := hcleared.append_listed hlist
    exact ⟨_, congrArg Host.Outcome.next hserve, hcircuit, hcleared.append_shed, hothers, hrecord, hslots, hkept⟩
  case clear =>
    refine congrArg Host.Outcome.next ((serve_adminDone src tag hroom hclear
      (circuit_modifyCircuit_self (s := adminNoted i.toNat 3 s) hlt _)).trans ?_)
    rw [show journalAdmin i.toNat 3 (holding s) = adminNoted i.toNat 3 s from rfl,
      modifyCircuit_eq_set (s := adminNoted i.toNat 3 s) hlt]
    rfl

end Sys2Proof.Proofs
end

section
namespace Sys2Proof.Proofs
open Sys2Proof.Machine Sys2Proof.Safety

/-! ## The saw comes to rest or stops (R139, R149) -/

/-- The saw has come to rest, with its SAW entry: the record, the slots, the gain request and the relabelled list. -/
theorem enterSawIdle_spec (lamp : Lamp) (s : State) : SawAtRest lamp s (enterSawIdle lamp s) ∧
    RecordAgree (sawNoted 0 s) (enterSawIdle lamp s) ∧ Follow s (enterSawIdle lamp s) ∧
    KeptBut [.saw, .gov, .shed, .journal, .loop] s (enterSawIdle lamp s) := by
  have hreq : ∀ a : GainSet, (if GainSet.normal = a then none else some GainSet.normal) =
      if a = .normal then none else some .normal := by
    intro a
    cases a <;> rfl
  refine ⟨⟨by simp [Saw.rest], ?_, ?_⟩, ?_, .of_ordersFollow (.of_saw (by simp) (by simp) (by simp) ?_), fun b hb => ?_⟩
  · simp [enterSawIdle, hreq]
  · simp [enterSawIdle, relabel]
  · have horder : RecordAgree s (setSawOrder { s.saw.order with clutch := .release, feed := 0, lamp := lamp }
        (s.mapSaw Saw.rest)) :=
      RecordAgree.trans (t := s.mapSaw Saw.rest) (.of_loop rfl rfl rfl rfl rfl) (setSawOrder_agree _ _)
    have hrest := horder.trans (RecordAgree.of_loop (t := relabel (requestGain .normal _)) rfl rfl rfl rfl rfl)
    exact hrest.journalAppend .saw none 0
  · simp [enterSawIdle, setSawOrder_mapSaw_loop _ Saw.rest s rfl, Saw.rest]
  · cases b <;> simp_all [Block.same]

/-- The saw has begun to stop, with its SAW entry. -/
theorem enterSawStopping_spec (s : State) : SawStops s (enterSawStopping s) ∧
    RecordAgree (sawNoted 4 s) (enterSawStopping s) ∧ Follow s (enterSawStopping s) ∧
    KeptBut [.saw, .journal, .loop] s (enterSawStopping s) := by
  refine ⟨by rw [SawStops, enterSawStopping_saw]; rfl, ?_,
    .of_ordersFollow (.of_saw (by simp) (by simp) (by simp) ?_), fun b hb => ?_⟩
  · have horder := fun f : Saw → Saw => RecordAgree.trans (RecordAgree.of_loop (r := s) (t := s.mapSaw f) rfl rfl rfl rfl rfl)
      (setSawOrder_agree { s.saw.order with feed := 0, lamp := .stop } (s.mapSaw f))
    exact (horder _).journalAppend .saw none 4
  · simp [enterSawStopping, setSawOrder_mapSaw_loop]
  · cases b <;> simp_all [Block.same]

/-- A reservation is denied: the SAW_DENIED entry, and the saw at rest (R142). -/
theorem denyReservation_spec (reason : Nat) (s : State) : SawAtRest .stop s (denyReservation reason s) ∧
    RecordAgree (sawNoted 0 { s with journal := s.journal.push s.time.clock .sawDenied none reason })
      (denyReservation reason s) ∧ Follow s (denyReservation reason s) ∧
    KeptBut [.saw, .gov, .shed, .journal, .loop] s (denyReservation reason s) := by
  obtain ⟨hrest, hrecord, hfollow, hkept⟩ := enterSawIdle_spec .stop (journalAppend .sawDenied none reason s)
  refine ⟨hrest, hrecord, Follow.trans (t := journalAppend .sawDenied none reason s) (.of_same rfl rfl ⟨_, _, rfl⟩)
    hfollow fun _ _ => rfl, fun b hb => ?_⟩
  have h := hkept b hb
  cases b <;> first | exact h | simp at hb

/-- The saw where its window closes (R142, R145, R148). -/
theorem sawWindowCloses_cases (s : State) :
    (s.saw.state = .reserving ∧ sawWindowCloses s = denyReservation 1 s) ∨
      ((s.saw.state = .engaging ∨ s.saw.state = .running) ∧ sawWindowCloses s = enterSawStopping s) ∨
      ((s.saw.state = .idle ∨ s.saw.state = .stopping) ∧ sawWindowCloses s = s) := by
  cases h : s.saw.state <;> simp [sawWindowCloses, h]

/-- The record of an evaluation of the windows in which a SAW window has or has not closed. -/
def windowRecord (closes : Prop) [Decidable closes] (w : SawState) (s : State) : State :=
  if closes ∧ w = .reserving then
    sawNoted 0 { s with journal := s.journal.push s.time.clock .sawDenied none 1 }
  else if closes ∧ (w = .engaging ∨ w = .running) then sawNoted 4 s
  else s

/-- The windows have been evaluated in `s1`, and the saw has followed a closing. -/
theorem windowFollows {s s1 t : State} (hsaw : s1.saw = s.saw) (hgov : s1.gov = s.gov) (hshed : s1.shed = s.shed)
    (ht : t = if s.time.sawOpen = true ∧ s1.time.sawOpen = false then sawWindowCloses s1 else s1) :
    WindowFollows s s1 t t.journal ∧
      RecordAgree (windowRecord (s.time.sawOpen = true ∧ s1.time.sawOpen = false) s.saw.state s1) t ∧ Follow s1 t ∧
      KeptBut [.saw, .gov, .shed, .journal, .loop] s1 t := by
  subst ht
  by_cases hcloses : s.time.sawOpen = true ∧ s1.time.sawOpen = false
  · rw [if_pos hcloses, windowRecord]
    rcases sawWindowCloses_cases s1 with ⟨hstate, heq⟩ | ⟨hstate, heq⟩ | ⟨hstate, heq⟩ <;> rw [hsaw] at hstate <;> rw [heq]
    · obtain ⟨hrest, hrecord, hfollow, hkept⟩ := denyReservation_spec 1 s1
      rw [if_pos ⟨hcloses, hstate⟩]
      exact ⟨⟨fun _ _ => ⟨hrest, hrecord.journal⟩, fun _ h => by simp [hstate] at h,
        fun h => by simp [hstate, hcloses] at h⟩, hrecord, hfollow, hkept⟩
    · obtain ⟨hstops, hrecord, hfollow, hkept⟩ := enterSawStopping_spec s1
      have hne : s.saw.state ≠ .reserving := by rcases hstate with h | h <;> simp [h]
      rw [if_neg fun h => hne h.2, if_pos ⟨hcloses, hstate⟩]
      exact ⟨⟨fun _ h => absurd h hne, fun _ _ => ⟨hstops, (hkept .gov (by simp)).trans hgov,
        (hkept .shed (by simp)).trans hshed, hrecord.journal⟩, fun h => by
          rcases hstate with h' | h' <;> simp [h', hcloses] at h⟩, hrecord, hfollow,
        fun b hb => hkept b fun hmem => hb (by simp at hmem ⊢; tauto)⟩
    · have hne : s.saw.state ≠ .reserving := by rcases hstate with h | h <;> simp [h]
      have hne' : ¬(s.saw.state = .engaging ∨ s.saw.state = .running) := by rcases hstate with h | h <;> simp [h]
      rw [if_neg fun h => hne h.2, if_neg fun h => hne' h.2]
      exact ⟨⟨fun _ h => absurd h hne, fun _ h => absurd h hne', fun _ => ⟨hsaw, hgov, hshed, rfl⟩⟩, .refl s1,
        .refl s1, fun b _ => by cases b <;> rfl⟩
  · rw [if_neg hcloses, windowRecord, if_neg fun h => hcloses h.1, if_neg fun h => hcloses h.1]
    exact ⟨⟨fun h => absurd h hcloses, fun h => absurd h hcloses, fun _ => ⟨hsaw, hgov, hshed, rfl⟩⟩, .refl s1,
      .refl s1, fun b _ => by cases b <;> rfl⟩

/-- The evaluation of the windows (R14). -/
theorem evaluateWindows_eq (s : State) : evaluateWindows s =
    let s1 := s.mapTime fun t => { t with
      eveningOpen := s.windowNow 0, nightOpen := s.windowNow 1, sawOpen := s.windowNow 2 }
    if s.time.sawOpen = true ∧ s1.time.sawOpen = false then sawWindowCloses s1 else s1 := by
  unfold evaluateWindows
  dsimp only
  refine if_congr ?_ rfl rfl
  simp

/-! ## O30: SET CLOCK and SET TIME ERROR -/

/-- Settles O30. -/
theorem clockAndTimeError : Obligations.ClockAndTimeError := by
  intro src tag day te sec s hroom
  refine ⟨fun hlate => ?late, fun hsec => ?clock, fun hout => ?out, fun hlow hhigh => ?inside, fun hlimit => ?limit⟩
  case late =>
    exact congrArg Host.Outcome.next (serve_eq_answered_of_holding src tag 8 hroom (if_pos hlate))
  case clock =>
    intro now previous opens s1 closes j
    set x : State := (holding s).mapTime fun t => { t with clock := now } with hx
    set x1 : State := holding s1 with hx1
    have hwindow : evaluateWindows x =
        if s.time.sawOpen = true ∧ s1.time.sawOpen = false then sawWindowCloses x1 else x1 := evaluateWindows_eq x
    obtain ⟨hfollows, hrecord, hfollow, hkept⟩ := windowFollows (s := s) (s1 := x1) rfl rfl rfl hwindow
    set m := journalAppend .clockSet none previous (evaluateWindows x) with hm
    have hdone : Machine.setClock day sec.toNat (holding s) = ⟨m, .done, []⟩ := if_neg (by omega)
    have htime : m.time = s1.time := hkept .time (by simp)
    have hjournal : (evaluateWindows x).journal = j := by
      rw [hrecord.journal, windowRecord]
      by_cases hreserving : closes ∧ s.saw.state = .reserving
      · exact (congrArg State.journal (if_pos hreserving)).trans (if_pos hreserving).symm
      · by_cases hturning : closes ∧ (s.saw.state = .engaging ∨ s.saw.state = .running)
        · exact (congrArg State.journal ((if_neg hreserving).trans (if_pos hturning))).trans
            ((if_neg hreserving).trans (if_pos hturning)).symm
        · exact (congrArg State.journal ((if_neg hreserving).trans (if_neg hturning))).trans
            ((if_neg hreserving).trans (if_neg hturning)).symm
    rw [hjournal] at hfollows
    refine ⟨m, congrArg Host.Outcome.next (serve_eq_answered src tag 8 hroom hdone), htime, ?_, hfollows, ?_, ?_, ?_⟩
    · rw [hm, journalAppend_journal, hjournal, hkept .time (by simp)]
      rfl
    · have hqueue : ∀ (c : Prop) [Decidable c] (w : SawState), SameQueue x1 (windowRecord c w x1) := by
        intro c _ w
        unfold windowRecord
        repeat' split
        all_goals exact ⟨rfl, rfl⟩
      obtain ⟨hanswers, hheld⟩ := hqueue (s.time.sawOpen = true ∧ s1.time.sawOpen = false) s.saw.state
      exact ⟨hrecord.answers.trans hanswers, hrecord.held.trans hheld⟩
    · have hs : Follow s (evaluateWindows x) := Follow.trans (t := x1) (.of_same rfl rfl ⟨_, _, rfl⟩) hfollow fun _ _ => rfl
      exact hs.slots
    · intro b hb
      have h := hkept b fun hmem => hb (by simp at hmem ⊢; tauto)
      cases b <;> first | exact h | simp at hb
  case out =>
    exact congrArg Host.Outcome.next (serve_eq_answered_of_holding src tag 9 hroom (if_pos hout))
  case inside =>
    have hdone : Machine.setTimeError te.toInt (holding s) = ⟨holding (causeEnd .timeErrorLimit
        (journalAppend .timeErrorSet none s.time.te { s with time := { s.time with te := te.toInt } })), .done, []⟩ := by
      refine (if_neg (by omega)).trans ?_
      have hinside : atLimit te.toInt = false := by
        simp only [atLimit, Bool.or_eq_false_iff, beq_eq_false_iff_ne]
        omega
      have hjudge : ∀ u : State, u.time.te = te.toInt → judgeTimeError u = causeEnd .timeErrorLimit u :=
        fun u hu => if_neg (by rw [hu, hinside]; decide)
      rw [hjudge _ rfl]
      rfl
    exact congrArg Host.Outcome.next (serve_eq_answered_of_holding src tag 9 hroom hdone)
  case limit =>
    have hdone : Machine.setTimeError te.toInt (holding s) = ⟨raise .timeErrorLimit none
        (journalAppend .timeErrorSet none s.time.te (holding { s with time := { s.time with te := te.toInt } })),
        .done, []⟩ := by
      refine (if_neg (by omega)).trans ?_
      have hat : atLimit te.toInt = true := by
        rcases hlimit with h | h <;> rw [h] <;> rfl
      rw [judgeTimeError, if_pos (by exact hat)]
      rfl
    exact congrArg Host.Outcome.next (serve_eq_answered src tag 9 hroom hdone)

end Sys2Proof.Proofs
end

section
namespace Sys2Proof.Proofs
open Sys2Proof.Machine Sys2Proof.Safety

/-! ## The Mill Time Unit's part of a mill second (R10, R11, R14, R19) -/

/-- The window `k` after the clock has come to `clock`: evaluated at a whole minute, else as it was (R11). -/
def windowTicked (s : State) (clock : Option DayClock) (k : Nat) (held : Bool) : Bool :=
  match clock with
  | some c => if c.sec % 60 = 0 then inWindow (s.tables.windows.getD k (0, 0)) (c.sec / 60) else held
  | none => held

/-- The mill time after a mill second that finds no plant entry. -/
def timeAfterTick (s : State) : MillTime :=
  let clock := s.time.clock.map DayClock.next
  let te : Int := max (-30000) (min 30000 (s.time.te - s.setting Setting.NOMINAL_HZ))
  { divider := 0
    count := s.time.count + 1
    clock := clock
    te := te
    direction := if s.plant.state = .run then
      chooseDirection te (s.setting Setting.CORR_START) (s.setting Setting.CORR_STOP) s.time.direction else .zero
    eveningOpen := windowTicked s clock 0 s.time.eveningOpen
    nightOpen := windowTicked s clock 1 s.time.nightOpen
    sawOpen := windowTicked s clock 2 s.time.sawOpen }

/-- The state whose windows a mill second evaluates, or leaves. -/
def clockTicked (s : State) : State :=
  s.mapTime fun t => { t with divider := 0, count := t.count + 1, clock := t.clock.map DayClock.next }

/-- The state with the windows of a mill second, before the saw follows them. -/
def windowsTicked (s : State) : State := (clockTicked s).mapTime fun t => { t with
  eveningOpen := (timeAfterTick s).eveningOpen, nightOpen := (timeAfterTick s).nightOpen
  sawOpen := (timeAfterTick s).sawOpen }

theorem windowTicked_of_whole {s : State} (h : (clockTicked s).wholeMinute = true) (k : Nat) (held : Bool) :
    windowTicked s (s.time.clock.map DayClock.next) k held = (clockTicked s).windowNow k := by
  have hclock : (clockTicked s).time.clock = s.time.clock.map DayClock.next := rfl
  rw [State.wholeMinute, hclock] at h
  rw [State.windowNow, hclock, windowTicked.eq_def]
  cases hc : s.time.clock.map DayClock.next with
  | none => simp [hc] at h
  | some c =>
    rw [hc] at h
    exact if_pos (beq_iff_eq.mp h)

theorem windowTicked_of_not_whole {s : State} (h : (clockTicked s).wholeMinute = false) (k : Nat) (held : Bool) :
    windowTicked s (s.time.clock.map DayClock.next) k held = held := by
  have hclock : (clockTicked s).time.clock = s.time.clock.map DayClock.next := rfl
  rw [State.wholeMinute, hclock] at h
  rw [windowTicked.eq_def]
  cases hc : s.time.clock.map DayClock.next with
  | none => rfl
  | some c =>
    rw [hc] at h
    exact if_neg (by simpa using h)

/-- The windows after the advance, and the saw that follows a closing. -/
theorem advanceClock_eq (s : State) :
    advanceClock (s.mapTime fun t => { t with divider := 0, count := t.count + 1 }) =
      if s.time.sawOpen = true ∧ (windowsTicked s).time.sawOpen = false then sawWindowCloses (windowsTicked s)
      else windowsTicked s := by
  have hadvance : advanceClock (s.mapTime fun t => { t with divider := 0, count := t.count + 1 }) =
      if (clockTicked s).wholeMinute then evaluateWindows (clockTicked s) else clockTicked s := rfl
  rw [hadvance]
  cases hwhole : (clockTicked s).wholeMinute with
  | true =>
    have hsame : windowsTicked s = (clockTicked s).mapTime fun t => { t with
        eveningOpen := (clockTicked s).windowNow 0, nightOpen := (clockTicked s).windowNow 1
        sawOpen := (clockTicked s).windowNow 2 } := by
      simp only [windowsTicked, timeAfterTick, windowTicked_of_whole hwhole]
    rw [if_pos rfl, evaluateWindows_eq, hsame]
    rfl
  | false =>
    have hsame : windowsTicked s = clockTicked s := by
      simp only [windowsTicked, timeAfterTick, windowTicked_of_not_whole hwhole]
      rfl
    have hnot : ¬(s.time.sawOpen = true ∧ (windowsTicked s).time.sawOpen = false) := by
      rw [hsame]
      rintro ⟨h, h'⟩
      rw [show (clockTicked s).time.sawOpen = s.time.sawOpen from rfl, h] at h'
      cases h'
    rw [if_neg hnot, hsame]
    rfl

/-- The Mill Time Unit's part of a mill second: the mill time, and the record with the entries of a saw whose
window closes. -/
theorem timeTick_spec (s : State) :
    (timeTick s).time = timeAfterTick s ∧
      WindowFollows s (windowsTicked s) (advanceClock (s.mapTime fun t => { t with divider := 0, count := t.count + 1 }))
        (advanceClock (s.mapTime fun t => { t with divider := 0, count := t.count + 1 })).journal ∧
      RecordAgree (timeErrorRecord (timeAfterTick s).te (windowRecord
        (s.time.sawOpen = true ∧ (timeAfterTick s).sawOpen = false) s.saw.state (windowsTicked s))) (timeTick s) ∧
      Follow s (timeTick s) ∧
      (timeTick s).saw = (advanceClock (s.mapTime fun t => { t with divider := 0, count := t.count + 1 })).saw ∧
      (timeTick s).shed = (advanceClock (s.mapTime fun t => { t with divider := 0, count := t.count + 1 })).shed := by
  set x := advanceClock (s.mapTime fun t => { t with divider := 0, count := t.count + 1 }) with hx
  obtain ⟨hfollows, hrecord, hfollow, hkept⟩ := windowFollows (s := s) (s1 := windowsTicked s) rfl rfl rfl
    (hx.trans (advanceClock_eq s))
  have htime : x.time = (windowsTicked s).time := hkept .time (by simp)
  have htables : x.tables = s.tables := hkept .tables (by simp)
  have hplant : x.plant = s.plant := hkept .plant (by simp)
  have htick : timeTick s = chooseCorrection (addTimeError (-(s.setting Setting.NOMINAL_HZ : Int)) x) := rfl
  have hadd := addTimeError_agree hrecord (-(s.setting Setting.NOMINAL_HZ : Int))
  have hte : x.time.te = s.time.te := by rw [htime]; rfl
  rw [hte] at hadd
  have haddTime : (addTimeError (-(s.setting Setting.NOMINAL_HZ : Int)) x).time =
      { x.time with te := max (-30000) (min 30000 (x.time.te + -(s.setting Setting.NOMINAL_HZ : Int))) } := by
    unfold addTimeError judgeTimeError
    split <;> simp [clampInt]
  have haddLoop : ∃ a b, (addTimeError (-(s.setting Setting.NOMINAL_HZ : Int)) x).loop =
      { x.loop with answers := a, held := b } := by
    unfold addTimeError judgeTimeError
    split
    · exact ⟨_, _, raise_loop _ _ _⟩
    · exact ⟨_, _, rfl⟩
  refine ⟨?time, hfollows, hadd.trans (.of_loop rfl rfl rfl rfl rfl), ?follow, by rw [htick]; simp, by rw [htick]; simp⟩
  case time =>
    have hset : ∀ k, (addTimeError (-(s.setting Setting.NOMINAL_HZ : Int)) x).setting k = s.setting k :=
      setting_congr (by simp [htables])
    have hrun : (addTimeError (-(s.setting Setting.NOMINAL_HZ : Int)) x).inPlant .run = true ↔ s.plant.state = .run := by
      rw [inPlant_iff]; simp [hplant]
    rw [htick, chooseCorrection, State.mapTime_time, haddTime]
    simp only [hset, hrun, htime]
    rfl
  case follow =>
    have hwindows : Follow s x := Follow.trans (t := windowsTicked s) (.of_same rfl rfl ⟨_, _, rfl⟩) hfollow fun _ _ => rfl
    have hrest : Follow x (timeTick s) := by
      obtain ⟨a, b, hloop⟩ := haddLoop
      refine .of_same (by rw [htick]; simp) ?_ ⟨a, b, by rw [htick]; exact hloop⟩
      exact slotOrder_congr (by rw [htick]; simp) (by rw [htick]; simp) (by rw [htick]; simp)
    refine hwindows.trans hrest fun k hk => ?_
    rw [← hk]
    exact (congrFun (slotOrder_congr (by rw [htick]; simp) (by rw [htick]; simp) (by rw [htick]; simp)) k).symm

end Sys2Proof.Proofs
end

section
namespace Sys2Proof.Proofs
open Sys2Proof.Machine Sys2Proof.Safety

/-! ## What a mill second can do to the plant

Either the plant stays in its state, and the other blocks are as they were but for timers and the gate; or it
enters a state other than RUN, whose entry leaves the silence timers of the nodes. -/

/-- The plant has stayed in its state or left it for one other than RUN; of the other blocks these fields are as
an entry leaves them. -/
structure PlantMoved (s t : State) : Prop where
  time : t.time = if t.plant.state = s.plant.state then s.time else { s.time with direction := .zero }
  run : t.plant.state = .run → s.plant.state = .run
  saw : t.saw.silence = s.saw.silence ∧ t.saw.silent = s.saw.silent
  feeders : t.hamlet.feeders = s.hamlet.feeders
  tables : t.tables = s.tables
  cond : t.cond .timeErrorLimit = s.cond .timeErrorLimit
  same : t.plant.state = s.plant.state → t.saw = s.saw ∧ t.hamlet = s.hamlet ∧ t.shed = s.shed
  cut : t.plant.state ≠ s.plant.state → t.saw.state ≠ .running

/-- A move of the plant that leaves the silence timers of the water nodes. -/
structure PlantStep (s t : State) : Prop extends PlantMoved s t where
  pond : t.water.pondSilence = s.water.pondSilence ∧ t.water.pondSilent = s.water.pondSilent
  gate : t.water.gateSilence = s.water.gateSilence ∧ t.water.gateSilent = s.water.gateSilent

/-- A step before which the plant's state, the mill time, the saw, the hamlet and the list have not changed. -/
theorem PlantMoved.of_same {s t : State} (hstate : t.plant.state = s.plant.state) (htime : t.time = s.time)
    (hsaw : t.saw = s.saw) (hhamlet : t.hamlet = s.hamlet) (hshed : t.shed = s.shed) (htables : t.tables = s.tables)
    (hcond : t.cond .timeErrorLimit = s.cond .timeErrorLimit) : PlantMoved s t :=
  ⟨by rw [if_pos hstate, htime], fun h => hstate ▸ h, by rw [hsaw]; exact ⟨rfl, rfl⟩, by rw [hhamlet],
    htables, hcond, fun _ => ⟨hsaw, hhamlet, hshed⟩, fun h => absurd hstate h⟩

theorem PlantStep.of_same {s t : State} (hstate : t.plant.state = s.plant.state) (htime : t.time = s.time)
    (hpond : t.water.pondSilence = s.water.pondSilence ∧ t.water.pondSilent = s.water.pondSilent)
    (hgate : t.water.gateSilence = s.water.gateSilence ∧ t.water.gateSilent = s.water.gateSilent)
    (hsaw : t.saw = s.saw) (hhamlet : t.hamlet = s.hamlet) (hshed : t.shed = s.shed) (htables : t.tables = s.tables)
    (hcond : t.cond .timeErrorLimit = s.cond .timeErrorLimit) : PlantStep s t :=
  ⟨.of_same hstate htime hsaw hhamlet hshed htables hcond, hpond, hgate⟩

theorem PlantStep.refl (s : State) : PlantStep s s := .of_same rfl rfl ⟨rfl, rfl⟩ ⟨rfl, rfl⟩ rfl rfl rfl rfl rfl

/-- Steps in sequence, where the plant does not come back to the state that it has left. -/
theorem PlantMoved.trans {s t u : State} (hst : PlantMoved s t) (htu : PlantMoved t u)
    (hback : u.plant.state = s.plant.state → t.plant.state = s.plant.state) : PlantMoved s u := by
  refine ⟨?_, fun h => hst.run (htu.run h), ⟨htu.saw.1.trans hst.saw.1, htu.saw.2.trans hst.saw.2⟩,
    htu.feeders.trans hst.feeders, htu.tables.trans hst.tables, htu.cond.trans hst.cond, fun h => ?_, fun h => ?_⟩
  · have hu := htu.time
    have ht := hst.time
    by_cases h : u.plant.state = s.plant.state
    · have h' := hback h
      rw [if_pos (h.trans h'.symm)] at hu
      rw [if_pos h'] at ht
      rw [if_pos h, hu, ht]
    · rw [if_neg h, hu, ht]
      by_cases h' : t.plant.state = s.plant.state
      · rw [if_neg (by rw [h']; exact h), if_pos h']
      · rw [if_neg h']
        split <;> rfl
  · have h' := hback h
    obtain ⟨hsaw, hhamlet, hshed⟩ := hst.same h'
    obtain ⟨hsaw', hhamlet', hshed'⟩ := htu.same (h.trans h'.symm)
    exact ⟨hsaw'.trans hsaw, hhamlet'.trans hhamlet, hshed'.trans hshed⟩
  · by_cases h' : u.plant.state = t.plant.state
    · rw [(htu.same h').1]
      exact hst.cut (h' ▸ h)
    · exact htu.cut h'

theorem PlantStep.trans {s t u : State} (hst : PlantStep s t) (htu : PlantStep t u)
    (hback : u.plant.state = s.plant.state → t.plant.state = s.plant.state) : PlantStep s u :=
  ⟨hst.toPlantMoved.trans htu.toPlantMoved hback, ⟨htu.pond.1.trans hst.pond.1, htu.pond.2.trans hst.pond.2⟩,
    ⟨htu.gate.1.trans hst.gate.1, htu.gate.2.trans hst.gate.2⟩⟩

/-- Conditions of an entry are others than TIME_ERROR_LIMIT. -/
theorem recordEntry_timeErrorLimit (p : PlantState) (cause : Cause) (s : State) :
    (recordEntry p cause s).cond .timeErrorLimit = s.cond .timeErrorLimit := by
  have hchanged : (raise .plantChanged none (journalAppend .plant none (p.code * 256 + cause.code)
      (s.mapPlant (Plant.enter p cause)))).cond .timeErrorLimit = s.cond .timeErrorLimit :=
    raise_cond_ne _ _ _ _ (by decide)
  unfold recordEntry raiseCause
  cases hc : causeCondition p cause with
  | none => exact hchanged
  | some c =>
    have hne : c ≠ .timeErrorLimit := by
      rintro rfl
      cases cause <;> simp [causeCondition] at hc
    exact (raise_cond_ne c _ _ _ hne).trans hchanged

/-- The entry to a state other than RUNUP, RUN and the one that stands. -/
theorem enterPlant_plantStep {p : PlantState} (hp : p ≠ .run) (hp' : p ≠ .runup) (cause : Cause) {s : State} (hne : s.plant.state ≠ p) :
    PlantStep s (enterPlant p cause s) := by
  have hplant : (enterPlant p cause s).plant.state = p := by rw [enterPlant_plant]; rfl
  have hwater := enterPlant_water p cause s
  have hsaw : ∀ u, (sawEntry p u).saw.silence = u.saw.silence ∧ (sawEntry p u).saw.silent = u.saw.silent := by
    intro u
    rcases sawEntry_cases p u with ⟨he, -⟩ | ⟨he, -⟩ | ⟨he, -⟩ | ⟨he, -⟩ <;> rw [he] <;> simp [setLamp, Saw.rest]
  have hcut : ∀ u, (sawEntry p u).saw.state ≠ .running := by
    intro u
    cases p <;> cases hstate : u.saw.state <;>
      simp_all [sawEntry, setLamp, enterSawIdle, enterSawStopping, Saw.rest]
  have htime : ∀ u, (timeEntry p u).time = { u.time with direction := .zero } := by
    intro u
    cases p <;> first | rfl | exact absurd rfl hp
  have hfeeders : ∀ u, (hamletEntry p u).hamlet.feeders = u.hamlet.feeders := by
    intro u
    cases p <;> first | rfl | exact absurd rfl hp | simp [hamletEntry]
  have hconds : ∀ u, (hamletEntry p u).conds = u.conds := by
    intro u
    cases p <;> first | rfl | exact absurd rfl hp | simp [hamletEntry]
  have hsame : ¬(enterPlant p cause s).plant.state = s.plant.state := by rw [hplant]; exact hne.symm
  refine ⟨⟨?_, fun h => absurd (hplant ▸ h) hp, ?_, ?_, by simp, ?_, fun h => absurd h hsame, fun _ => ?_⟩,
    by rw [hwater]; exact ⟨rfl, rfl⟩, by rw [hwater]; exact ⟨rfl, rfl⟩⟩
  · rw [if_neg hsame]
    simp [enterPlant, htime]
  · rw [enterPlant]
    exact ⟨(hsaw _).1.trans (by simp), (hsaw _).2.trans (by simp)⟩
  · simp [enterPlant, hfeeders]
  · rw [← recordEntry_timeErrorLimit p cause s, State.cond, State.cond]
    simp [enterPlant, hconds]
  · rw [enterPlant]
    exact hcut _

theorem PlantStep.raise {s t : State} (h : PlantStep s t) {c : Condition} (hc : c ≠ .timeErrorLimit) (x : Option Nat) :
    PlantStep s (raise c x t) :=
  h.trans (.of_same (by simp) (by simp) (by simp) (by simp) (by simp) (by simp) (by simp) (by simp)
    (raise_cond_ne c _ x t hc)) fun h' => by simpa using h'

theorem completionTest_plantStep {s : State} : PlantStep s (completionTest s) := by
  unfold completionTest
  split
  · next h =>
    obtain ⟨hstopping, -⟩ := stopComplete_iff.mp h
    exact enterPlant_plantStep (by decide) (by decide) _ (by rw [hstopping]; decide)
  · exact .refl s

/-- A stop from RUN, complete at once or later. -/
theorem enterStopping_plantStep (cause : Cause) {s : State} (hrun : s.plant.state = .run) :
    PlantStep s (enterStopping cause s) := by
  have hentry : PlantStep s (enterPlant .stopping cause s) := 
    enterPlant_plantStep (by decide) (by decide) cause (by rw [hrun]; decide)
  refine hentry.trans completionTest_plantStep fun h => ?_
  have hstate : (enterPlant .stopping cause s).plant.state = .stopping := by rw [enterPlant_plant]; rfl
  have hafter := completionTest_plantStep.run (h.trans hrun)
  rw [hstate] at hafter
  cases hafter

theorem shortageEvent_plantStep (s : State) : PlantStep s (shortageEvent s) := by
  unfold shortageEvent shortageToPlant
  split
  · next h => exact (enterStopping_plantStep _ ((inPlant_iff s _).mp h)).raise (by decide) none
  · exact (PlantStep.refl s).raise (by decide) none

end Sys2Proof.Proofs
end

section
namespace Sys2Proof.Proofs
open Sys2Proof.Machine Sys2Proof.Safety

/-! ## A gate evaluation that is made (R80 to R82) -/

/-- The state after a settlement on `gate`, with the shortage timer at `shortage`. -/
def settledOn (gate shortage : Nat) (s : State) : State :=
  let base := raiseResidual s
  { base with
    water := { s.water with gate := gate, shortage := shortage, evalTimer := some 0,
                            demandSum := 0, demandCount := 0 }
    loop := { base.loop with slots := base.loop.slots.set 0 ⟨some (.gate gate), true⟩ } }

theorem settleGate_shortage (gate shortage : Nat) (s : State) :
    ((settleGate gate (restartInterval (raiseResidual s))).mapWater fun w => { w with shortage := shortage }) =
      settledOn gate shortage s := by
  have hwater : (raiseResidual s).water = s.water := by simp
  rw [settledOn, ← hwater]
  rfl

theorem madeEvaluation_of_enough {l n : Nat} {s : State} (h : s.setting Setting.GATE_RUN_MIN ≤ s.wantedGate l) :
    madeEvaluation l n s = settledOn (s.wantedGate l) 0 s := by
  rw [madeEvaluation, if_neg (by omega), settleGate_shortage]

theorem madeEvaluation_of_short {l n : Nat} {s : State} (h : s.wantedGate l < s.setting Setting.GATE_RUN_MIN) :
    madeEvaluation l n s =
      let short := settledOn (s.setting Setting.GATE_RUN_MIN) (s.water.shortage + n) s
      if s.setting Setting.SHORTAGE_GRACE * 60 ≤ s.water.shortage + n then shortageEvent short else short := by
  have hcharged : (settleGate (s.setting Setting.GATE_RUN_MIN) (restartInterval (raiseResidual s))).mapWater
      (fun w => { w with shortage := w.shortage + n }) =
      settledOn (s.setting Setting.GATE_RUN_MIN) (s.water.shortage + n) s := by
    rw [← settleGate_shortage]
    simp [State.mapWater, settleGate, restartInterval]
  have hsetting : ∀ k, (settleGate (s.setting Setting.GATE_RUN_MIN) (restartInterval (raiseResidual s))).setting k =
      s.setting k := setting_congr (by simp)
  rw [madeEvaluation, if_pos h, chargeShortage, hcharged]
  simp only [hsetting]
  rfl

theorem gateEvaluation_made {n l : Nat} {s : State} (hrun : s.plant.state = .run) (htimer : s.water.evalTimer = some n)
    (hlevel : s.water.level = some l) (hheard : s.water.pondSilent = false) :
    gateEvaluation s = madeEvaluation l n s := by
  simp [gateEvaluation, htimer, (inPlant_iff s _).mpr hrun, evaluate, hlevel, hheard]

/-! ### The move, as the statement writes it -/

theorem flowLow_eq (s : State) :
    (s.water.flow.map fun q => decide (q < s.setting Setting.RESIDUAL_MIN)).getD false = s.flowLow := by
  rw [State.flowLow]
  cases s.water.flow <;> rfl

theorem demandLow_iff {s : State} :
    s.demandLow = true ↔ ∃ a, s.demandAverage = some a ∧ a < s.setting Setting.DEMAND_LOW := by
  rw [State.demandLow]
  cases s.demandAverage <;> simp

theorem demandHigh_iff {s : State} :
    s.demandHigh = true ↔ ∃ a, s.demandAverage = some a ∧ s.setting Setting.DEMAND_HIGH < a := by
  rw [State.demandHigh]
  cases s.demandAverage <;> simp

open Classical in
theorem movedGate_eq (s : State) (l : Nat) : s.movedGate l =
    if s.flowLow = true ∨ l < s.setting Setting.LEVEL_LOW then s.water.gate - s.setting Setting.CLOSE_STEP
    else if (∃ a, s.demandAverage = some a ∧ a < s.setting Setting.DEMAND_LOW) ∧
        s.setting Setting.LEVEL_LOW + s.setting Setting.LEVEL_BAND ≤ l then
      min 1000 (s.water.gate + s.setting Setting.OPEN_STEP)
    else if (∃ a, s.demandAverage = some a ∧ s.setting Setting.DEMAND_HIGH < a) ∧
        l < s.setting Setting.LEVEL_HIGH then s.water.gate - s.setting Setting.CLOSE_STEP
    else s.water.gate := by
  simp only [← demandLow_iff, ← demandHigh_iff]
  simp [State.movedGate, closedGate, openedGate]

/-- Settles O43. -/
theorem gateEvaluationMade : Obligations.GateEvaluationMade := by
  intro s n l hrun htimer hlevel hheard flowLow avg g moved want base after
  have hflow : flowLow = s.flowLow := flowLow_eq s
  have hwant : want = s.wantedGate l := by
    have hmoved : moved = s.movedGate l := by
      rw [movedGate_eq, ← hflow]
      simp only [moved]
      congr
    exact congrArg (min · (s.pondLimit l)) hmoved
  have hafter : ∀ gate short, after gate short = settledOn gate short s := by
    intro gate short
    have hbase : base = raiseResidual s := by simp only [base, hflow]; rfl
    rw [settledOn, ← hbase]
  have hexec : exec .gateEvaluation s = .next (madeEvaluation l n s) :=
    congrArg Host.Outcome.next (gateEvaluation_made hrun htimer hlevel hheard)
  rw [hexec, hwant, hafter, hafter]
  refine ⟨fun h => congrArg _ (madeEvaluation_of_enough h), fun h hin => ?inside, fun h hgrace => ?grace⟩
  case inside =>
    rw [madeEvaluation_of_short h]
    exact congrArg _ (if_neg (by omega))
  case grace =>
    intro short
    have hshort : madeEvaluation l n s = shortageEvent short := by
      rw [madeEvaluation_of_short h]
      exact if_pos hgrace
    have hplant : short.inPlant .run = true := by
      rw [inPlant_iff, show short.plant = (raiseResidual s).plant from rfl]
      simpa using hrun
    have hedge : short.edge = s.edge := by
      rw [show short.edge = (raiseResidual s).edge from rfl]
      simp
    have hpos : short.water.gatePos = s.water.gatePos := rfl
    rw [hshort, shortageEvent, shortageToPlant, if_pos hplant]
    refine ⟨fun hopen => ?later, fun hready => ⟨_, enterStopping_of_ready rfl ?_, rfl⟩⟩
    case later =>
      rw [enterStopping_of_incomplete .waterShort (by simpa only [StopIncomplete, hedge, hpos] using hopen)]
      exact ⟨_, rfl, stopping_raise (by decide) none (enterPlant_stopping .waterShort short),
        ((enterPlant_agree (by decide) .waterShort short).raise .waterShort none).sameRecord⟩
    · simpa only [StopReady, hedge, hpos] using hready

end Sys2Proof.Proofs
end

section
namespace Sys2Proof.Proofs
open Sys2Proof.Machine Sys2Proof.Safety

/-! ## The plant's timers at a mill second (R56, R65) -/

theorem runupTimerExpires_of_running {s : State} (hstate : s.plant.state = .runup) (htimer : s.plant.runupTimer.isSome) :
    runupTimerExpires s = enterPlant .tripped .runupTimeout s := by
  have htripped : s.inPlant .tripped = false := by rw [State.inPlant, hstate]; rfl
  rw [runupTimerExpires, trip, if_pos (by simp [State.inPlant, hstate, htimer]), htripped]
  exact if_neg Bool.false_ne_true

theorem stopTimerExpires_of_running {s : State} (hstate : s.plant.state = .stopping) (htimer : s.plant.stopTimer.isSome) :
    stopTimerExpires s = enterPlant .stopped .stopTimeout s := by
  rw [stopTimerExpires, if_pos (by simp [State.inPlant, hstate, htimer])]

/-- The plant with a second on its run-up timer. -/
def runupCounted (n : Nat) (s : State) : State := s.mapPlant fun p => { p with runupTimer := some (n + 1) }

/-- The plant with a second on its stop timer. -/
def stopCounted (n : Nat) (s : State) : State := s.mapPlant fun p => { p with stopTimer := some (n + 1) }

theorem plantTick_of_runup {n : Nat} {s : State} (hstate : s.plant.state = .runup) (htimer : s.plant.runupTimer = some n) :
    plantTick s = if s.setting Setting.RUNUP_TIMEOUT ≤ n + 1 then
      enterPlant .tripped .runupTimeout (runupCounted n s) else runupCounted n s := by
  have hdue := runupTimerExpires_of_running (s := runupCounted n s) hstate rfl
  simp only [plantTick, hstate, htimer]
  rw [← hdue]
  rfl

theorem plantTick_of_stopping {n : Nat} {s : State} (hstate : s.plant.state = .stopping)
    (htimer : s.plant.stopTimer = some n) :
    plantTick s = if s.setting Setting.STOP_TIMEOUT ≤ n + 1 then
      enterPlant .stopped .stopTimeout (stopCounted n s) else stopCounted n s := by
  have hdue := stopTimerExpires_of_running (s := stopCounted n s) hstate rfl
  simp only [plantTick, hstate, htimer]
  rw [← hdue]
  rfl

/-- In the other plant states, and with the timer of its state stopped, the tick does nothing. -/
theorem plantTick_of_idle {s : State} (hrunup : s.plant.state = .runup → s.plant.runupTimer = none)
    (hstop : s.plant.state = .stopping → s.plant.stopTimer = none) : plantTick s = s := by
  cases h : s.plant.state with
  | runup => simp [plantTick, h, hrunup h]
  | stopping => simp [plantTick, h, hstop h]
  | _ => simp [plantTick, h]

theorem plantTick_of_run {s : State} (h : s.plant.state = .run) : plantTick s = s :=
  plantTick_of_idle (by simp [h]) (by simp [h])

/-- What a tick finds: a running timer of its state, or nothing to do. -/
theorem plantTick_cases (s : State) :
    (∃ n, s.plant.state = .runup ∧ s.plant.runupTimer = some n) ∨
      (∃ n, s.plant.state = .stopping ∧ s.plant.stopTimer = some n) ∨ plantTick s = s := by
  by_cases hidle : (s.plant.state = .runup → s.plant.runupTimer = none) ∧
      (s.plant.state = .stopping → s.plant.stopTimer = none)
  · exact .inr (.inr (plantTick_of_idle hidle.1 hidle.2))
  · simp only [not_and_or, Classical.not_imp, ← ne_eq, Option.ne_none_iff_exists'] at hidle
    rcases hidle with ⟨hstate, n, hn⟩ | ⟨hstate, n, hn⟩
    · exact .inl ⟨n, hstate, hn⟩
    · exact .inr (.inl ⟨n, hstate, hn⟩)

theorem plantTick_plantStep (s : State) : PlantStep s (plantTick s) := by
  have hcount : ∀ f : Plant → Plant, (f s.plant).state = s.plant.state → PlantStep s (s.mapPlant f) := fun f hf =>
    .of_same hf rfl ⟨rfl, rfl⟩ ⟨rfl, rfl⟩ rfl rfl rfl rfl rfl
  rcases plantTick_cases s with ⟨n, hstate, hn⟩ | ⟨n, hstate, hn⟩ | h
  · rw [plantTick_of_runup hstate hn]
    split
    · have hcounted : PlantStep s (runupCounted n s) := hcount _ rfl
      refine hcounted.trans (enterPlant_plantStep (by decide) (by decide) _ ?_) fun _ => rfl
      rw [show (runupCounted n s).plant.state = .runup from hstate]
      decide
    · exact hcount _ rfl
  · rw [plantTick_of_stopping hstate hn]
    split
    · have hcounted : PlantStep s (stopCounted n s) := hcount _ rfl
      refine hcounted.trans (enterPlant_plantStep (by decide) (by decide) _ ?_) fun _ => rfl
      rw [show (stopCounted n s).plant.state = .stopping from hstate]
      decide
    · exact hcount _ rfl
  · rw [h]
    exact .refl s

/-- With no timer of the plant at its end the tick counts at most. -/
theorem plantTick_of_before {s : State} (hrunup : ∀ n, s.plant.runupTimer = some n → n + 1 < s.setting Setting.RUNUP_TIMEOUT)
    (hstop : ∀ n, s.plant.stopTimer = some n → n + 1 < s.setting Setting.STOP_TIMEOUT) :
    ∃ f : Plant → Plant, plantTick s = s.mapPlant f ∧ (f s.plant).state = s.plant.state := by
  rcases plantTick_cases s with ⟨n, hstate, hn⟩ | ⟨n, hstate, hn⟩ | h
  · have := hrunup n hn
    exact ⟨_, (plantTick_of_runup hstate hn).trans (if_neg (by omega)), rfl⟩
  · have := hstop n hn
    exact ⟨_, (plantTick_of_stopping hstate hn).trans (if_neg (by omega)), rfl⟩
  · exact ⟨id, h, rfl⟩

/-! ## The evaluation timer at a mill second (R78) -/

/-- The water with a second on the evaluation timer. -/
def evaluationCounted (n : Nat) (s : State) : State := s.mapWater fun w => { w with evalTimer := some (n + 1) }

theorem evaluationTick_of_run {n : Nat} {s : State} (hrun : s.plant.state = .run) (htimer : s.water.evalTimer = some n) :
    evaluationTick s = if s.setting Setting.GATE_INTERVAL ≤ n + 1 then
      evaluate (n + 1) (evaluationCounted n s) else evaluationCounted n s := by
  have hdue : gateEvaluation (evaluationCounted n s) = evaluate (n + 1) (evaluationCounted n s) :=
    if_pos ((inPlant_iff s _).mpr hrun)
  rw [← hdue]
  simp only [evaluationTick, htimer, (inPlant_iff s _).mpr hrun]
  rfl

theorem evaluationTick_of_not_run {s : State} (hrun : s.plant.state ≠ .run) : evaluationTick s = s := by
  unfold evaluationTick
  split
  · exact if_neg (by rwa [inPlant_iff])
  · rfl

/-- What a tick finds: the running evaluation timer in RUN, or nothing to do. -/
theorem evaluationTick_cases (s : State) :
    (∃ n, s.plant.state = .run ∧ s.water.evalTimer = some n) ∨ evaluationTick s = s := by
  by_cases hrun : s.plant.state = .run
  · cases hn : s.water.evalTimer with
    | some n => exact .inl ⟨n, hrun, rfl⟩
    | none => right; simp [evaluationTick, hn]
  · exact .inr (evaluationTick_of_not_run hrun)

/-- A stop leaves the demand sum and its count. -/
theorem shortageEvent_demand (s : State) : (shortageEvent s).water.demandSum = s.water.demandSum ∧
    (shortageEvent s).water.demandCount = s.water.demandCount := by
  unfold shortageEvent shortageToPlant enterStopping completionTest
  split
  · split <;> simp [enterPlant_water, Water.enter]
  · simp

theorem shortageEvent_not_run (s : State) : (shortageEvent s).plant.state ≠ .run := by
  unfold shortageEvent shortageToPlant enterStopping completionTest
  split
  · split <;> simp [enterPlant_plant, Plant.enter]
  · next h => simpa [inPlant_iff] using h

/-- The evaluation has been made or skipped: the interval starts again where the plant still runs. -/
structure IntervalRestarted (s t : State) : Prop where
  plant : PlantStep s t
  demand : t.water.demandSum = 0 ∧ t.water.demandCount = 0
  timer : t.plant.state = .run → t.water.evalTimer = some 0

theorem settledOn_restarted {s u : State} (hplant : u.plant = s.plant) (htime : u.time = s.time)
    (hsaw : u.saw = s.saw) (hhamlet : u.hamlet = s.hamlet) (hshed : u.shed = s.shed) (htables : u.tables = s.tables)
    (hcond : u.cond .timeErrorLimit = s.cond .timeErrorLimit)
    (hpond : u.water.pondSilence = s.water.pondSilence ∧ u.water.pondSilent = s.water.pondSilent)
    (hgate : u.water.gateSilence = s.water.gateSilence ∧ u.water.gateSilent = s.water.gateSilent)
    (hdemand : u.water.demandSum = 0 ∧ u.water.demandCount = 0) (htimer : u.water.evalTimer = some 0) :
    IntervalRestarted s u :=
  ⟨.of_same (by rw [hplant]) htime hpond hgate hsaw hhamlet hshed htables hcond, hdemand, fun _ => htimer⟩

theorem restartInterval_restarted (s : State) : IntervalRestarted s (restartInterval s) :=
  settledOn_restarted rfl rfl rfl rfl rfl rfl rfl ⟨rfl, rfl⟩ ⟨rfl, rfl⟩ ⟨rfl, rfl⟩ rfl

theorem raiseResidual_cond (s : State) : (raiseResidual s).cond .timeErrorLimit = s.cond .timeErrorLimit := by
  unfold raiseResidual
  split
  · exact raise_cond_ne _ _ _ _ (by decide)
  · rfl

theorem settled_restarted (gate shortage : Nat) (s : State) : IntervalRestarted s (settledOn gate shortage s) := by
  refine settledOn_restarted ?_ ?_ ?_ ?_ ?_ ?_ (raiseResidual_cond s) ⟨rfl, rfl⟩ ⟨rfl, rfl⟩ ⟨rfl, rfl⟩ rfl
  all_goals simp [settledOn]

theorem IntervalRestarted.shortage {s t : State} (h : IntervalRestarted s t) (hsame : t.plant.state = s.plant.state) :
    IntervalRestarted s (shortageEvent t) := by
  obtain ⟨hsum, hcount⟩ := shortageEvent_demand t
  exact ⟨h.plant.trans (shortageEvent_plantStep t) fun _ => hsame,
    ⟨hsum.trans h.demand.1, hcount.trans h.demand.2⟩, fun hrun => absurd hrun (shortageEvent_not_run t)⟩

theorem evaluate_restarted (n : Nat) (s : State) : IntervalRestarted s (evaluate n s) := by
  unfold evaluate
  split
  · next l _ =>
    split
    · exact restartInterval_restarted s
    · by_cases henough : s.setting Setting.GATE_RUN_MIN ≤ s.wantedGate l
      · rw [madeEvaluation_of_enough henough]
        exact settled_restarted _ _ s
      · rw [madeEvaluation_of_short (Nat.lt_of_not_le henough)]
        dsimp only
        split
        · exact (settled_restarted _ _ s).shortage (by simp [settledOn])
        · exact settled_restarted _ _ s
  · exact restartInterval_restarted s

theorem evaluationTick_plantStep (s : State) : PlantStep s (evaluationTick s) := by
  rcases evaluationTick_cases s with ⟨n, hrun, hn⟩ | h
  · have hcount : PlantStep s (evaluationCounted n s) := .of_same rfl rfl ⟨rfl, rfl⟩ ⟨rfl, rfl⟩ rfl rfl rfl rfl rfl
    rw [evaluationTick_of_run hrun hn]
    split
    · exact hcount.trans (evaluate_restarted _ _).plant fun _ => rfl
    · exact hcount
  · rw [h]
    exact .refl s

/-- With the evaluation not due the tick counts at most. -/
theorem evaluationTick_of_before {s : State} (h : ∀ n, s.water.evalTimer = some n → n + 1 < s.setting Setting.GATE_INTERVAL) :
    ∃ f : Water → Water, evaluationTick s = s.mapWater f ∧ (f s.water).gate = s.water.gate := by
  rcases evaluationTick_cases s with ⟨n, hrun, hn⟩ | hsame
  · have := h n hn
    exact ⟨_, (evaluationTick_of_run hrun hn).trans (if_neg (by omega)), rfl⟩
  · exact ⟨id, hsame, rfl⟩

/-! ## Both ticks -/

/-- The evaluation finds a plant that the plant's own timers have left in RUN or that it does not concern. -/
theorem plantTicks_moved (f : State → State) (hf : ∀ u, PlantMoved u (f u))
    (hplant : ∀ u, (f u).plant = u.plant) (s : State) : PlantMoved s (evaluationTick (f (plantTick s))) := by
  refine ((plantTick_plantStep s).toPlantMoved.trans (hf _) fun h => ?_).trans
    (evaluationTick_plantStep _).toPlantMoved fun h => ?_
  · rwa [hplant] at h
  · by_cases hrun : s.plant.state = .run
    · rw [hplant, plantTick_of_run hrun]
    · rw [evaluationTick_of_not_run fun h' => hrun ((plantTick_plantStep s).run (by rwa [hplant] at h'))] at h
      exact h

end Sys2Proof.Proofs
end

section
namespace Sys2Proof.Proofs
open Sys2Proof.Machine Sys2Proof.Safety

/-! ## Operations that touch timers alone -/

/-- The record, the Loop Port, the tables, the mill time and every order are as they were. -/
structure TimersOnly (s t : State) : Prop where
  conds : t.conds = s.conds
  journal : t.journal = s.journal
  loop : t.loop = s.loop
  tables : t.tables = s.tables
  time : t.time = s.time
  orders : slotOrder t = slotOrder s

theorem TimersOnly.refl (s : State) : TimersOnly s s := ⟨rfl, rfl, rfl, rfl, rfl, rfl⟩

theorem TimersOnly.trans {s t u : State} (h : TimersOnly s t) (h' : TimersOnly t u) : TimersOnly s u :=
  ⟨h'.conds.trans h.conds, h'.journal.trans h.journal, h'.loop.trans h.loop, h'.tables.trans h.tables,
    h'.time.trans h.time, h'.orders.trans h.orders⟩

theorem TimersOnly.agree {s t : State} (h : TimersOnly s t) : RecordAgree s t :=
  .of_loop h.conds h.journal (by rw [h.loop]) h.tables (by rw [h.time])

theorem TimersOnly.follow {s t : State} (h : TimersOnly s t) : Follow s t :=
  .of_same h.tables h.orders ⟨_, _, by rw [h.loop]⟩

theorem timersOnly_mapPlant (f : Plant → Plant) (s : State) : TimersOnly s (s.mapPlant f) :=
  ⟨rfl, rfl, rfl, rfl, rfl, rfl⟩

theorem timersOnly_mapWater {f : Water → Water} {s : State} (h : (f s.water).gate = s.water.gate) :
    TimersOnly s (s.mapWater f) :=
  ⟨rfl, rfl, rfl, rfl, rfl, slotOrder_congr h rfl rfl⟩

theorem timersOnly_mapSaw {f : Saw → Saw} {s : State} (h : (f s.saw).order = s.saw.order) :
    TimersOnly s (s.mapSaw f) :=
  ⟨rfl, rfl, rfl, rfl, rfl, slotOrder_congr rfl h rfl⟩

/-! ## A silence timer at a mill second (R71, R95, R136) -/

/-- A silence timer and its mark after a second. -/
def silenceTicked (limit : Nat) (timer : Option Nat) (mark : Bool) : Option Nat × Bool :=
  match timer with
  | none => (none, mark)
  | some n => if limit ≤ n + 1 then (none, true) else (some (n + 1), mark)

/-- The timer is not at its end within the second. -/
def Before (timer : Option Nat) (limit : Nat) : Prop := ∀ n, timer = some n → n + 1 < limit

theorem pondSilenceTick_of_none {s : State} (h : s.water.pondSilence = none) : pondSilenceTick s = s := by
  simp [pondSilenceTick, h]

theorem pondSilenceTick_of_some {n : Nat} {s : State} (h : s.water.pondSilence = some n) :
    pondSilenceTick s = if s.setting Setting.NODE_SILENCE_S ≤ n + 1 then
      raise .pondSilent none (s.mapWater fun w => { w with pondSilence := none, pondSilent := true })
    else s.mapWater fun w => { w with pondSilence := some (n + 1) } := by
  simp only [pondSilenceTick, h]
  rfl

theorem gateSilenceTick_of_none {s : State} (h : s.water.gateSilence = none) : gateSilenceTick s = s := by
  simp [gateSilenceTick, h]

theorem gateSilenceTick_of_some {n : Nat} {s : State} (h : s.water.gateSilence = some n) :
    gateSilenceTick s = if s.setting Setting.NODE_SILENCE_S ≤ n + 1 then
      raise .gateSilent none (s.mapWater fun w => { w with gateSilence := none, gateSilent := true })
    else s.mapWater fun w => { w with gateSilence := some (n + 1) } := by
  simp only [gateSilenceTick, h]
  rfl

theorem pondSilenceTick_water (s : State) : (pondSilenceTick s).water =
    let after := silenceTicked (s.setting Setting.NODE_SILENCE_S) s.water.pondSilence s.water.pondSilent
    { s.water with pondSilence := after.1, pondSilent := after.2 } := by
  cases h : s.water.pondSilence with
  | none => rw [pondSilenceTick_of_none h]; simp [silenceTicked, ← h]
  | some n => rw [pondSilenceTick_of_some h]; simp only [silenceTicked]; split <;> simp

theorem gateSilenceTick_water (s : State) : (gateSilenceTick s).water =
    let after := silenceTicked (s.setting Setting.NODE_SILENCE_S) s.water.gateSilence s.water.gateSilent
    { s.water with gateSilence := after.1, gateSilent := after.2 } := by
  cases h : s.water.gateSilence with
  | none => rw [gateSilenceTick_of_none h]; simp [silenceTicked, ← h]
  | some n => rw [gateSilenceTick_of_some h]; simp only [silenceTicked]; split <;> simp

theorem pondSilenceTick_moved (s : State) : PlantMoved s (pondSilenceTick s) := by
  refine .of_same (by simp) (by simp) (by simp) (by simp) (by simp) (by simp) ?_
  cases h : s.water.pondSilence with
  | none => rw [pondSilenceTick_of_none h]
  | some n =>
    rw [pondSilenceTick_of_some h]
    split
    · exact raise_cond_ne _ _ _ _ (by decide)
    · rfl

theorem gateSilenceTick_moved (s : State) : PlantMoved s (gateSilenceTick s) := by
  refine .of_same (by simp) (by simp) (by simp) (by simp) (by simp) (by simp) ?_
  cases h : s.water.gateSilence with
  | none => rw [gateSilenceTick_of_none h]
  | some n =>
    rw [gateSilenceTick_of_some h]
    split
    · exact raise_cond_ne _ _ _ _ (by decide)
    · rfl

theorem pondSilenceTick_timersOnly {s : State} (h : Before s.water.pondSilence (s.setting Setting.NODE_SILENCE_S)) :
    TimersOnly s (pondSilenceTick s) := by
  cases hn : s.water.pondSilence with
  | none => rw [pondSilenceTick_of_none hn]; exact .refl s
  | some n =>
    have := h n hn
    rw [pondSilenceTick_of_some hn, if_neg (by omega)]
    exact timersOnly_mapWater rfl

theorem gateSilenceTick_timersOnly {s : State} (h : Before s.water.gateSilence (s.setting Setting.NODE_SILENCE_S)) :
    TimersOnly s (gateSilenceTick s) := by
  cases hn : s.water.gateSilence with
  | none => rw [gateSilenceTick_of_none hn]; exact .refl s
  | some n =>
    have := h n hn
    rw [gateSilenceTick_of_some hn, if_neg (by omega)]
    exact timersOnly_mapWater rfl

/-! ## The saw's timers at a mill second (R136, R146) -/

theorem sawSilenceTick_of_none {s : State} (h : s.saw.silence = none) : sawSilenceTick s = s := by
  simp [sawSilenceTick, h]

theorem sawSilenceTick_of_some {n : Nat} {s : State} (h : s.saw.silence = some n) :
    sawSilenceTick s = if s.setting Setting.NODE_SILENCE_S ≤ n + 1 then
      sawFallsSilent (s.mapSaw fun w => { w with silence := none, silent := true })
    else s.mapSaw fun w => { w with silence := some (n + 1) } := by
  simp only [sawSilenceTick, h]
  rfl

/-- What follows a silence leaves the mark and the timer; a running saw stops, and no saw comes to run. -/
theorem sawFallsSilent_saw (s : State) :
    (sawFallsSilent s).saw.silence = s.saw.silence ∧ (sawFallsSilent s).saw.silent = s.saw.silent ∧
      (sawFallsSilent s).saw.state ≠ .running ∧
      (s.saw.state = .running → (sawFallsSilent s).saw.state = .stopping ∧ (sawFallsSilent s).saw.grant = none) ∧
      (s.saw.state = .stopping → (sawFallsSilent s).saw.state = .stopping ∧
        (sawFallsSilent s).saw.grant = s.saw.grant) := by
  cases h : s.saw.state <;> simp [sawFallsSilent, h, denyReservation, enterSawIdle, Saw.rest]

theorem sawSilenceTick_silence (s : State) :
    ((sawSilenceTick s).saw.silence, (sawSilenceTick s).saw.silent) =
      silenceTicked (s.setting Setting.NODE_SILENCE_S) s.saw.silence s.saw.silent := by
  cases h : s.saw.silence with
  | none => rw [sawSilenceTick_of_none h]; simp [silenceTicked, h]
  | some n =>
    rw [sawSilenceTick_of_some h]
    simp only [silenceTicked]
    split
    · obtain ⟨hsilence, hsilent, -⟩ := sawFallsSilent_saw (s.mapSaw fun w => { w with silence := none, silent := true })
      rw [hsilence, hsilent]
      rfl
    · rfl

/-- A saw that a second of silence leaves RUNNING keeps its grant; one that has run stops or runs on. -/
theorem sawSilenceTick_running (s : State) :
    ((sawSilenceTick s).saw.state = .running → s.saw.state = .running ∧ (sawSilenceTick s).saw.grant = s.saw.grant) ∧
      (s.saw.state = .running → (sawSilenceTick s).saw.state = .running ∨
        (sawSilenceTick s).saw.state = .stopping ∧ (sawSilenceTick s).saw.grant = none) ∧
      (s.saw.state = .stopping → (sawSilenceTick s).saw.state = .stopping ∧ (sawSilenceTick s).saw.grant = s.saw.grant) := by
  cases h : s.saw.silence with
  | none => rw [sawSilenceTick_of_none h]; exact ⟨fun h => ⟨h, rfl⟩, .inl, fun h => ⟨h, rfl⟩⟩
  | some n =>
    rw [sawSilenceTick_of_some h]
    split
    · obtain ⟨-, -, hnot, hrun, hstop⟩ := sawFallsSilent_saw (s.mapSaw fun w => { w with silence := none, silent := true })
      exact ⟨fun h' => absurd h' hnot, fun h' => .inr (hrun h'), hstop⟩
    · exact ⟨fun h => ⟨h, rfl⟩, .inl, fun h => ⟨h, rfl⟩⟩

theorem sawSilenceTick_cond (s : State) : (sawSilenceTick s).cond .timeErrorLimit = s.cond .timeErrorLimit := by
  have hfalls : ∀ u : State, (sawFallsSilent u).cond .timeErrorLimit = u.cond .timeErrorLimit := by
    intro u
    have hraise : ∀ t : State, (raise .sawSilent none t).cond .timeErrorLimit = t.cond .timeErrorLimit := fun t =>
      raise_cond_ne _ _ _ _ (by decide)
    have hstop : ∀ t : State, (enterSawStopping t).cond .timeErrorLimit = t.cond .timeErrorLimit := fun t => by
      simp [State.cond]
    unfold sawFallsSilent
    split
    · rw [hraise]; simp [State.cond]
    · rw [hstop, hraise]
    · rw [hstop, hraise]
    · exact hraise u
    · exact hraise u
  cases h : s.saw.silence with
  | none => rw [sawSilenceTick_of_none h]
  | some n =>
    rw [sawSilenceTick_of_some h]
    split
    · rw [hfalls]; rfl
    · rfl

theorem sawSilenceTick_timersOnly {s : State} (h : Before s.saw.silence (s.setting Setting.NODE_SILENCE_S)) :
    TimersOnly s (sawSilenceTick s) := by
  cases hn : s.saw.silence with
  | none => rw [sawSilenceTick_of_none hn]; exact .refl s
  | some n =>
    have := h n hn
    rw [sawSilenceTick_of_some hn, if_neg (by omega)]
    exact timersOnly_mapSaw rfl

theorem grantTick_of_running {g : Nat} {s : State} (hstate : s.saw.state = .running) (hgrant : s.saw.grant = some g) :
    grantTick s = if g ≤ 1 then enterSawStopping (s.mapSaw fun w => { w with grant := some 0 })
      else s.mapSaw fun w => { w with grant := some (g - 1) } := by
  have hdue : grantExpires (s.mapSaw fun w => { w with grant := some 0 }) =
      enterSawStopping (s.mapSaw fun w => { w with grant := some 0 }) := if_pos hstate
  simp only [grantTick, hstate, hgrant]
  rw [← hdue]

theorem grantTick_of_idle {s : State} (h : s.saw.state ≠ .running ∨ s.saw.grant = none) : grantTick s = s := by
  unfold grantTick
  split
  · next hstate hgrant => simp [hstate, hgrant] at h
  · rfl

theorem grantTick_cases (s : State) : (∃ g, s.saw.state = .running ∧ s.saw.grant = some g) ∨ grantTick s = s := by
  by_cases h : s.saw.state ≠ .running ∨ s.saw.grant = none
  · exact .inr (grantTick_of_idle h)
  · simp only [not_or, not_not, ← ne_eq, Option.ne_none_iff_exists'] at h
    obtain ⟨hstate, g, hg⟩ := h
    exact .inl ⟨g, hstate, hg⟩

theorem grantTick_silence (s : State) :
    (grantTick s).saw.silence = s.saw.silence ∧ (grantTick s).saw.silent = s.saw.silent := by
  rcases grantTick_cases s with ⟨g, hstate, hg⟩ | h
  · rw [grantTick_of_running hstate hg]
    split
    · simp
    · exact ⟨rfl, rfl⟩
  · rw [h]
    exact ⟨rfl, rfl⟩

theorem grantTick_timersOnly {s : State} (h : ∀ g, s.saw.grant = some g → s.saw.state = .running → 2 ≤ g) :
    TimersOnly s (grantTick s) := by
  rcases grantTick_cases s with ⟨g, hstate, hg⟩ | hsame
  · have := h g hg hstate
    rw [grantTick_of_running hstate hg, if_neg (by omega)]
    exact timersOnly_mapSaw rfl
  · rw [hsame]
    exact .refl s

end Sys2Proof.Proofs
end

section
namespace Sys2Proof.Proofs
open Sys2Proof.Machine Sys2Proof.Safety

/-! ## A fold over indices, seen from one of them -/

/-- Where every step but the one at `i` keeps the relation `R`, the fold is that step between two states that
`R` joins to the first and to the last. -/
theorem foldl_range_at {R : State → State → Prop} (hrefl : ∀ s, R s s) (htrans : ∀ s t u, R s t → R t u → R s u)
    {f : Nat → State → State} {i n : Nat} (hi : i < n) (hothers : ∀ j s, j ≠ i → R s (f j s)) (s : State) :
    ∃ u, R s u ∧ R (f i u) ((List.range n).foldl (fun t j => f j t) s) := by
  have hfold : ∀ (l : List Nat) (s : State), i ∉ l → R s (l.foldl (fun t j => f j t) s) := by
    intro l
    induction l with
    | nil => exact fun s _ => hrefl s
    | cons j l ih =>
      intro s hmem
      rw [List.mem_cons, not_or] at hmem
      exact htrans _ _ _ (hothers j s (Ne.symm hmem.1)) (ih _ hmem.2)
  obtain ⟨before, after, hsplit⟩ := List.append_of_mem (List.mem_range.mpr hi)
  have hnodup := hsplit ▸ List.nodup_range (n := n)
  rw [List.nodup_append] at hnodup
  obtain ⟨-, hafter, hbefore⟩ := hnodup
  rw [hsplit, List.foldl_append, List.foldl_cons]
  exact ⟨_, hfold before s fun h => hbefore i h i (by simp) rfl, hfold after _ (List.nodup_cons.mp hafter).1⟩

/-- A relation that every step of a fold keeps. -/
theorem foldl_relates {R : State → State → Prop} (hrefl : ∀ s, R s s) (htrans : ∀ s t u, R s t → R t u → R s u)
    {f : Nat → State → State} (hstep : ∀ j s, R s (f j s)) (l : List Nat) (s : State) :
    R s (l.foldl (fun t j => f j t) s) := by
  induction l generalizing s with
  | nil => exact hrefl s
  | cons j l ih => exact htrans _ _ _ (hstep j s) (ih _)

/-! ## The feeders' silence timers (R95) -/

theorem feederSilenceTick_of_none {k : Nat} {s : State} (h : (s.feeder k).silence = none) :
    feederSilenceTick k s = s := by
  simp [feederSilenceTick, h]

theorem feeder_modifyFeeder (k j : Nat) (f : Feeder → Feeder) (s : State) : (modifyFeeder k f s).feeder j =
    if k = j ∧ j < s.hamlet.feeders.length then f (s.feeder j) else s.feeder j := getD_modify _ _ _ _ _

/-- A feeder whose silence timer runs is one of the hamlet. -/
theorem feeder_lt_of_some {k n : Nat} {s : State} (h : (s.feeder k).silence = some n) :
    k < s.hamlet.feeders.length := by
  by_contra hk
  rw [State.feeder, List.getD_eq_default _ _ (by omega)] at h
  cases h

theorem feederSilenceTick_of_some {k n : Nat} {s : State} (h : (s.feeder k).silence = some n) :
    feederSilenceTick k s = if s.setting Setting.NODE_SILENCE_S ≤ n + 1 then
      raise .feederSilent none (modifyFeeder k (fun _ => ⟨none, true, none⟩) s)
    else modifyFeeder k (fun f => { f with silence := some (n + 1) }) s := by
  have hrunning : ((modifyFeeder k (fun f => { f with silence := some (n + 1) }) s).feeder k).silence.isSome = true := by
    rw [feeder_modifyFeeder, if_pos ⟨rfl, feeder_lt_of_some h⟩]
    rfl
  have hagain : modifyFeeder k (fun _ => ⟨none, true, none⟩)
      (modifyFeeder k (fun f => { f with silence := some (n + 1) }) s) =
      modifyFeeder k (fun _ => ⟨none, true, none⟩) s := by
    simp [modifyFeeder, State.mapHamlet, List.modify_modify_eq, Function.comp_def]
  simp only [feederSilenceTick, h, feederSilenceExpires, hrunning, if_true, hagain]

/-- Feeder `k` is as it was, and the settings and the number of feeders too. -/
structure FeederAside (k : Nat) (s t : State) : Prop where
  feeder : t.feeder k = s.feeder k
  length : t.hamlet.feeders.length = s.hamlet.feeders.length
  tables : t.tables = s.tables

theorem feederSilenceTick_feeder (k : Nat) (s : State) : (feederSilenceTick k s).feeder k =
    match (s.feeder k).silence with
    | none => s.feeder k
    | some n => if s.setting Setting.NODE_SILENCE_S ≤ n + 1 then ⟨none, true, none⟩
      else { s.feeder k with silence := some (n + 1) } := by
  cases h : (s.feeder k).silence with
  | none => rw [feederSilenceTick_of_none h]
  | some n =>
    rw [feederSilenceTick_of_some h]
    have hlt := feeder_lt_of_some h
    by_cases hdue : s.setting Setting.NODE_SILENCE_S ≤ n + 1
    · simp only [if_pos hdue]
      have := feeder_modifyFeeder k k (fun _ => ⟨none, true, none⟩) s
      rw [if_pos ⟨rfl, hlt⟩] at this
      simp_all [State.feeder]
    · simp only [if_neg hdue]
      rw [feeder_modifyFeeder, if_pos ⟨rfl, hlt⟩]

theorem feederSilenceTick_aside {j k : Nat} (hj : j ≠ k) (s : State) : FeederAside k s (feederSilenceTick j s) := by
  have hfeeders : ∀ f, FeederAside k s (modifyFeeder j f s) := fun f =>
    ⟨by rw [feeder_modifyFeeder, if_neg (by simp [hj])], by simp [modifyFeeder], rfl⟩
  cases h : (s.feeder j).silence with
  | none => rw [feederSilenceTick_of_none h]; exact ⟨rfl, rfl, rfl⟩
  | some n =>
    rw [feederSilenceTick_of_some h]
    split
    · obtain ⟨hfeeder, hlength, -⟩ := hfeeders fun _ => ⟨none, true, none⟩
      exact ⟨by simpa [State.feeder] using hfeeder, by simpa using hlength, by simp⟩
    · exact hfeeders _

/-- A feeder after a mill second. -/
theorem feedersTick_feeder {k : Nat} (hk : k < 6) (s : State) : (feedersTick s).feeder k =
    match (s.feeder k).silence with
    | none => s.feeder k
    | some n => if s.setting Setting.NODE_SILENCE_S ≤ n + 1 then ⟨none, true, none⟩
      else { s.feeder k with silence := some (n + 1) } := by
  obtain ⟨u, hbefore, hafter⟩ := foldl_range_at (R := FeederAside k) (fun s => ⟨rfl, rfl, rfl⟩)
    (fun _ _ _ h h' => ⟨h'.feeder.trans h.feeder, h'.length.trans h.length, h'.tables.trans h.tables⟩) hk
    (fun _ s hj => feederSilenceTick_aside hj s) s
  have hset : u.setting Setting.NODE_SILENCE_S = s.setting Setting.NODE_SILENCE_S := setting_congr hbefore.tables _
  rw [feedersTick, hafter.feeder, feederSilenceTick_feeder, hbefore.feeder, hset]

theorem feederSilenceTick_cond (k : Nat) (s : State) :
    (feederSilenceTick k s).cond .timeErrorLimit = s.cond .timeErrorLimit := by
  cases h : (s.feeder k).silence with
  | none => rw [feederSilenceTick_of_none h]
  | some n =>
    rw [feederSilenceTick_of_some h]
    split
    · exact raise_cond_ne _ _ _ _ (by decide)
    · rfl

theorem feedersTick_cond (s : State) : (feedersTick s).cond .timeErrorLimit = s.cond .timeErrorLimit :=
  foldl_relates (R := fun s t => t.cond .timeErrorLimit = s.cond .timeErrorLimit) (fun _ => rfl)
    (fun _ _ _ h h' => h'.trans h) (fun k s => feederSilenceTick_cond k s) _ s

/-- A second on the timer of a feeder. -/
theorem feederSilenceTick_timersOnly {k : Nat} {s : State}
    (h : Before (s.feeder k).silence (s.setting Setting.NODE_SILENCE_S)) : TimersOnly s (feederSilenceTick k s) := by
  cases hn : (s.feeder k).silence with
  | none => rw [feederSilenceTick_of_none hn]; exact .refl s
  | some n =>
    have := h n hn
    rw [feederSilenceTick_of_some hn, if_neg (by omega)]
    exact ⟨rfl, rfl, rfl, rfl, rfl, rfl⟩

/-- A fold of steps, each of which touches timers alone where its own index permits it. -/
theorem foldl_timersOnly {P : Nat → State → Prop} {f : Nat → State → State}
    (hstep : ∀ j s, P j s → TimersOnly s (f j s)) (hothers : ∀ j i s, j ≠ i → P i s → P i (f j s))
    {l : List Nat} (hl : l.Nodup) {s : State} (h : ∀ i ∈ l, P i s) :
    TimersOnly s (l.foldl (fun t j => f j t) s) := by
  induction l generalizing s with
  | nil => exact .refl s
  | cons j l ih =>
    obtain ⟨hj, hl'⟩ := List.nodup_cons.mp hl
    exact (hstep j s (h j (by simp))).trans
      (ih hl' fun i hi => hothers j i s (fun hji => hj (hji ▸ hi)) (h i (by simp [hi])))

theorem feedersTick_timersOnly {s : State}
    (h : ∀ x ∈ s.hamlet.feeders, Before x.silence (s.setting Setting.NODE_SILENCE_S)) : TimersOnly s (feedersTick s) := by
  refine foldl_timersOnly (P := fun k t => Before (t.feeder k).silence (t.setting Setting.NODE_SILENCE_S))
    (fun _ _ => feederSilenceTick_timersOnly) (fun j i t hji hi => ?_) List.nodup_range fun k _ => ?_
  · obtain ⟨hfeeder, -, htables⟩ := feederSilenceTick_aside hji t
    rw [hfeeder, setting_congr htables]
    exact hi
  · by_cases hk : k < s.hamlet.feeders.length
    · refine h _ ?_
      rw [State.feeder, List.getD_eq_getElem _ _ hk]
      exact List.getElem_mem hk
    · rw [State.feeder, List.getD_eq_default _ _ (by omega)]
      exact fun n hn => by cases hn

/-! ## The reclose times (R99) -/

/-- Circuit `i` is as it was, and is listed or not, and the list empty or not, as before. -/
structure RecloseAside (i : Nat) (s t : State) : Prop where
  circuit : t.circuit i = s.circuit i
  length : t.hamlet.entries.length = s.hamlet.entries.length
  list : t.shed.list = [] ↔ s.shed.list = []
  listed : t.listed i = s.listed i
  plant : t.plant = s.plant

theorem RecloseAside.refl (i : Nat) (s : State) : RecloseAside i s s := ⟨rfl, rfl, .rfl, rfl, rfl⟩

theorem RecloseAside.trans {i : Nat} {s t u : State} (h : RecloseAside i s t) (h' : RecloseAside i t u) :
    RecloseAside i s u :=
  ⟨h'.circuit.trans h.circuit, h'.length.trans h.length, h'.list.trans h.list, h'.listed.trans h.listed,
    h'.plant.trans h.plant⟩

theorem modifyCircuit_aside {i j : Nat} (hj : j ≠ i) (f : Circuit → Circuit) (s : State) :
    RecloseAside i s (modifyCircuit j f s) :=
  ⟨by rw [circuit_modifyCircuit, if_neg (by simp [hj])], by simp [modifyCircuit], .rfl, rfl, rfl⟩

theorem moveCircuit_aside {i j : Nat} (hj : j ≠ i) (st : CircuitState) (s : State) :
    RecloseAside i s (moveCircuit j st s) :=
  ⟨circuit_moveCircuit_ne hj st s, by simp, by simp, by simp [State.listed], by simp⟩

/-- A reclose is journalled only where the list stays empty or not: an append is made to one that holds others. -/
theorem placeReclosed_aside {i j : Nat} (hj : j ≠ i) (s : State) : RecloseAside i s (placeReclosed j s) := by
  unfold placeReclosed
  split
  · exact moveCircuit_aside hj _ s
  · next hlist =>
    rw [not_or] at hlist
    unfold appendRequest
    split
    · refine ⟨?_, by simp, ?_, ?_, by simp⟩
      · rw [circuit_appendTaken, if_neg (by simp [hj])]
      · simp [hlist.2]
      · simp [State.listed, hj]
    · exact .refl i s

theorem recloseExpires_aside {i j : Nat} (hj : j ≠ i) (s : State) : RecloseAside i s (recloseExpires j s) := by
  unfold recloseExpires
  dsimp only
  split
  · refine RecloseAside.trans ?_ (placeReclosed_aside hj _)
    obtain ⟨hcircuit, hlength, hlist, hlisted, hplant⟩ := modifyCircuit_aside hj (fun c => { c with reclose := none }) s
    exact ⟨hcircuit, hlength, hlist, hlisted, hplant⟩
  · exact .refl i s

theorem recloseTick_aside {i j : Nat} (hj : j ≠ i) (s : State) : RecloseAside i s (recloseTick j s) := by
  unfold recloseTick
  split
  · split
    · exact recloseExpires_aside hj s
    · exact modifyCircuit_aside hj _ s
  · exact .refl i s

theorem recloseTick_of_open {i n : Nat} {s : State} (hstate : (s.circuit i).state = .limitOpen)
    (hn : (s.circuit i).reclose = some n) : recloseTick i s = if n ≤ 1 then recloseExpires i s
      else modifyCircuit i (fun c => { c with reclose := some (n - 1) }) s := by
  simp only [recloseTick, hstate, hn]

theorem recloseTick_of_other {i : Nat} {s : State}
    (h : (s.circuit i).state ≠ .limitOpen ∨ (s.circuit i).reclose = none) : recloseTick i s = s := by
  unfold recloseTick
  split
  · next hstate hn => simp [hstate, hn] at h
  · rfl

/-- What a mill second makes of a LIMIT_OPEN circuit (R99). -/
theorem recloseTick_circuit {i n : Nat} {s : State} (hlt : i < s.hamlet.entries.length)
    (hstate : (s.circuit i).state = .limitOpen) (hn : (s.circuit i).reclose = some n) :
    (2 ≤ n → (recloseTick i s).circuit i = { s.circuit i with reclose := some (n - 1) }) ∧
    (n ≤ 1 → ((s.circuit i).tier = 0 ∨ s.shed.list = []) →
      (recloseTick i s).circuit i = { s.circuit i with state := .closed, reclose := none, disagree := 0 }) ∧
    (n ≤ 1 → 1 ≤ (s.circuit i).tier → s.shed.list ≠ [] → s.plant.state = .run → s.listed i = false →
      (recloseTick i s).circuit i = { s.circuit i with state := .shed, reclose := none }) := by
  have hlt' : ∀ st, i < (reclosing i st s).hamlet.entries.length := fun st =>
    (reclosing_oneCircuit i st s).length ▸ hlt
  rw [recloseTick_of_open hstate hn]
  refine ⟨fun h => ?_, fun h hcloses => ?_, fun h htier hlist hrun hfree => ?_⟩
  · rw [if_neg (by omega), circuit_modifyCircuit_self hlt]
  · rw [if_pos h, recloseExpires_of_closes hlt hstate hcloses, circuit_moveCircuit_self (hlt' _),
      circuit_reclosing hlt, move_closed (by simp [hstate])]
  · rw [if_pos h, recloseExpires_of_sheds hlt hstate htier hlist hrun hfree, circuit_appendTaken_self (hlt' _),
      circuit_reclosing hlt, move_of_open (by simp [hstate]) (by decide) (by decide)]

/-- The same of the whole mill second. -/
theorem reclosesTick_circuit {i n : Nat} (hi : i < 48) {s : State} (hlt : i < s.hamlet.entries.length)
    (hstate : (s.circuit i).state = .limitOpen) (hn : (s.circuit i).reclose = some n) :
    (2 ≤ n → (reclosesTick s).circuit i = { s.circuit i with reclose := some (n - 1) }) ∧
    (n ≤ 1 → ((s.circuit i).tier = 0 ∨ s.shed.list = []) →
      (reclosesTick s).circuit i = { s.circuit i with state := .closed, reclose := none, disagree := 0 }) ∧
    (n ≤ 1 → 1 ≤ (s.circuit i).tier → s.shed.list ≠ [] → s.plant.state = .run → s.listed i = false →
      (reclosesTick s).circuit i = { s.circuit i with state := .shed, reclose := none }) := by
  obtain ⟨u, hbefore, hafter⟩ := foldl_range_at (R := RecloseAside i) (.refl i) (fun _ _ _ => .trans) hi
    (fun _ s hj => recloseTick_aside hj s) s
  rw [reclosesTick, hafter.circuit, ← hbefore.circuit, ← hbefore.listed, ← hbefore.plant, ne_eq, ← hbefore.list]
  exact recloseTick_circuit (hbefore.length ▸ hlt) (hbefore.circuit ▸ hstate) (hbefore.circuit ▸ hn)

theorem placeReclosed_cond (i : Nat) (s : State) :
    (placeReclosed i s).cond .timeErrorLimit = s.cond .timeErrorLimit := by
  have hmove : ∀ (st : CircuitState) (t : State), (moveCircuit i st t).cond .timeErrorLimit = t.cond .timeErrorLimit :=
    fun st t => by simp [State.cond]
  unfold placeReclosed
  split
  · exact hmove _ s
  · unfold appendRequest appendTaken
    dsimp only
    split
    · split
      · exact (raise_cond_ne _ _ _ _ (by decide)).trans (hmove _ _)
      · exact hmove _ _
    · rfl

theorem recloseExpires_cond (i : Nat) (s : State) :
    (recloseExpires i s).cond .timeErrorLimit = s.cond .timeErrorLimit := by
  unfold recloseExpires
  by_cases h : (s.circuit i).state = .limitOpen
  · rw [if_pos h]
    exact placeReclosed_cond i _
  · rw [if_neg h]

theorem recloseTick_cond (i : Nat) (s : State) :
    (recloseTick i s).cond .timeErrorLimit = s.cond .timeErrorLimit := by
  unfold recloseTick
  split
  · split
    · exact recloseExpires_cond i s
    · rfl
  · rfl

theorem reclosesTick_cond (s : State) : (reclosesTick s).cond .timeErrorLimit = s.cond .timeErrorLimit :=
  foldl_relates (R := fun s t => t.cond .timeErrorLimit = s.cond .timeErrorLimit) (fun _ => rfl)
    (fun _ _ _ h h' => h'.trans h) (fun i s => recloseTick_cond i s) _ s

/-- The reclose time of a circuit, if it runs, is not at its end. -/
def RecloseBefore (c : Circuit) : Prop := c.state = .limitOpen → ∀ n, c.reclose = some n → 2 ≤ n

theorem recloseTick_timersOnly {i : Nat} {s : State} (h : RecloseBefore (s.circuit i)) :
    TimersOnly s (recloseTick i s) := by
  unfold recloseTick
  split
  · next n hstate hn =>
    have := h hstate n hn
    rw [if_neg (by omega)]
    refine ⟨rfl, rfl, rfl, rfl, rfl, ?_⟩
    have hone : ∀ j, ((modifyCircuit i (fun c => { c with reclose := some (n - 1) }) s).circuit j).wanted =
        (s.circuit j).wanted := by
      intro j
      rw [circuit_modifyCircuit]
      split <;> rfl
    funext k
    match k with
    | 0 => rfl
    | 1 => rfl
    | k + 2 =>
      by_cases hk : k < 6
      · rw [slotOrder_feeder _ hk, slotOrder_feeder _ hk, positions_eq_iff.mpr fun m _ => hone _]
      · simp [slotOrder, hk]
  · exact .refl s

theorem reclosesTick_timersOnly {s : State} (h : ∀ c ∈ s.hamlet.entries, RecloseBefore c) :
    TimersOnly s (reclosesTick s) := by
  refine foldl_timersOnly (P := fun i t => RecloseBefore (t.circuit i)) (fun _ _ => recloseTick_timersOnly)
    (fun j i t hji hi => by rw [(recloseTick_aside hji t).circuit]; exact hi) List.nodup_range fun i _ => ?_
  by_cases hi : i < s.hamlet.entries.length
  · refine h _ ?_
    rw [State.circuit, List.getD_eq_getElem _ _ hi]
    exact List.getElem_mem hi
  · rw [State.circuit, List.getD_eq_default _ _ (by omega)]
    exact fun hstate => by cases hstate

end Sys2Proof.Proofs
end

section
namespace Sys2Proof.Proofs
open Sys2Proof.Machine Sys2Proof.Safety

/-! ## The mill second, part by part -/

/-- What the plant's timers and the evaluation make of the state after the Mill Time Unit. -/
def plantSecond (s : State) : State := evaluationTick (gateSilenceTick (pondSilenceTick (plantTick (timeTick s))))

/-- What the feeders' and the reclose timers make of it. -/
def hamletSecond (s : State) : State := reclosesTick (feedersTick (plantSecond s))

theorem millSecond_eq (s : State) : millSecond s = grantTick (sawSilenceTick (hamletSecond s)) := rfl

/-- The two water nodes' timers between the plant's and the evaluation. -/
theorem waterSilence_moved (s : State) : PlantMoved s (gateSilenceTick (pondSilenceTick s)) :=
  (pondSilenceTick_moved s).trans (gateSilenceTick_moved _) fun _ => by simp

theorem plantSecond_moved (s : State) : PlantMoved (timeTick s) (plantSecond s) :=
  plantTicks_moved (fun u => gateSilenceTick (pondSilenceTick u)) waterSilence_moved (fun u => by simp) _

theorem millSecond_plant (s : State) : (millSecond s).plant = (plantSecond s).plant := by
  simp [millSecond_eq, hamletSecond]

theorem millSecond_water (s : State) : (millSecond s).water = (plantSecond s).water := by
  simp [millSecond_eq, hamletSecond]

theorem millSecond_hamlet (s : State) : (millSecond s).hamlet = (hamletSecond s).hamlet := by
  simp [millSecond_eq]

theorem timeTick_setting (s : State) : ∀ k, (timeTick s).setting k = s.setting k := setting_congr (by simp)

/-! ### Mill time -/

theorem millSecond_time (s : State) : (millSecond s).time = if (millSecond s).plant.state = s.plant.state then
    timeAfterTick s else { timeAfterTick s with direction := .zero } := by
  have hmoved := (plantSecond_moved s).time
  rw [(timeTick_spec s).1] at hmoved
  rw [millSecond_plant]
  simpa [millSecond_eq, hamletSecond] using hmoved

/-- Of the time a plant entry changes the direction alone. -/
theorem millSecond_time_but_direction (s : State) :
    ∃ d, (millSecond s).time = { timeAfterTick s with direction := d } := by
  rw [millSecond_time]
  split
  · exact ⟨_, rfl⟩
  · exact ⟨_, rfl⟩

theorem millSecond_run {s : State} (h : (millSecond s).plant.state = .run) : s.plant.state = .run := by
  rw [millSecond_plant] at h
  simpa using (plantSecond_moved s).run h

theorem millSecond_direction (s : State) : (millSecond s).time.direction =
    if (millSecond s).plant.state = .run then chooseDirection (timeAfterTick s).te
      (s.setting Setting.CORR_START) (s.setting Setting.CORR_STOP) s.time.direction else .zero := by
  rw [millSecond_time]
  by_cases hrun : (millSecond s).plant.state = .run
  · have hs := millSecond_run hrun
    rw [if_pos hrun, if_pos (by rw [hrun, hs])]
    simp [timeAfterTick, hs]
  · rw [if_neg hrun]
    by_cases hsame : (millSecond s).plant.state = s.plant.state
    · rw [if_pos hsame]
      simp [timeAfterTick, ← hsame, hrun]
    · rw [if_neg hsame]

/-! ### The silence timers -/

theorem plantSecond_water (s : State) :
    ((plantSecond s).water.pondSilence, (plantSecond s).water.pondSilent) =
      silenceTicked (s.setting Setting.NODE_SILENCE_S) s.water.pondSilence s.water.pondSilent ∧
    ((plantSecond s).water.gateSilence, (plantSecond s).water.gateSilent) =
      silenceTicked (s.setting Setting.NODE_SILENCE_S) s.water.gateSilence s.water.gateSilent := by
  have hplant := plantTick_plantStep (timeTick s)
  have heval := evaluationTick_plantStep (gateSilenceTick (pondSilenceTick (plantTick (timeTick s))))
  have hset : (plantTick (timeTick s)).setting Setting.NODE_SILENCE_S = s.setting Setting.NODE_SILENCE_S :=
    setting_congr (by simp) _
  have hset' : (pondSilenceTick (plantTick (timeTick s))).setting Setting.NODE_SILENCE_S =
      s.setting Setting.NODE_SILENCE_S := setting_congr (by simp) _
  constructor
  · rw [plantSecond, heval.pond.1, heval.pond.2, gateSilenceTick_water]
    simp only [pondSilenceTick_water, hset, hplant.pond.1, hplant.pond.2, timeTick_frame]
  · rw [plantSecond, heval.gate.1, heval.gate.2, gateSilenceTick_water]
    simp only [pondSilenceTick_water, hset', hplant.gate.1, hplant.gate.2, timeTick_frame]

theorem timeTick_saw (s : State) :
    ((timeTick s).saw.silence = s.saw.silence ∧ (timeTick s).saw.silent = s.saw.silent) ∧
      ((timeTick s).saw.state = .running → (timeTick s).saw = s.saw) ∧
      (s.saw.state = .running → (timeTick s).saw = s.saw ∨
        (timeTick s).saw.state = .stopping ∧ (timeTick s).saw.grant = none) := by
  obtain ⟨-, ⟨hdenied, hstops, helse⟩, -, -, hsaw, -⟩ := timeTick_spec s
  rw [hsaw]
  have hbase : (windowsTicked s).saw = s.saw := rfl
  by_cases hcloses : s.time.sawOpen = true ∧ (windowsTicked s).time.sawOpen = false
  · cases hstate : s.saw.state with
    | reserving =>
      obtain ⟨⟨heq, -⟩, -⟩ := hdenied hcloses hstate
      rw [heq]
      simp [hbase]
    | engaging =>
      obtain ⟨heq, -⟩ := hstops hcloses (.inl hstate)
      rw [heq]
      simp [hbase]
    | running =>
      obtain ⟨heq, -⟩ := hstops hcloses (.inr hstate)
      rw [heq]
      simp [hbase]
    | idle =>
      obtain ⟨heq, -⟩ := helse (.inr (.inl hstate))
      rw [heq]
      simp [hstate]
    | stopping =>
      obtain ⟨heq, -⟩ := helse (.inr (.inr hstate))
      rw [heq]
      simp [hstate]
  · obtain ⟨heq, -⟩ := helse (.inl hcloses)
    rw [heq]
    exact ⟨⟨rfl, rfl⟩, fun _ => rfl, fun _ => .inl rfl⟩

theorem hamletSecond_saw (s : State) : (hamletSecond s).saw = (plantSecond s).saw := by simp [hamletSecond]

theorem hamletSecond_setting (s : State) (k : Nat) : (hamletSecond s).setting k = s.setting k :=
  setting_congr (by simp [hamletSecond, plantSecond]) k

theorem millSecond_sawSilence (s : State) : ((millSecond s).saw.silence, (millSecond s).saw.silent) =
    silenceTicked (s.setting Setting.NODE_SILENCE_S) s.saw.silence s.saw.silent := by
  obtain ⟨hgrant, hgrant'⟩ := grantTick_silence (sawSilenceTick (hamletSecond s))
  obtain ⟨⟨hsilence, hsilent⟩, -⟩ := timeTick_saw s
  obtain ⟨hmoved, hmoved'⟩ := (plantSecond_moved s).saw
  rw [millSecond_eq, hgrant, hgrant', sawSilenceTick_silence, hamletSecond_setting, hamletSecond_saw, hmoved, hmoved',
    hsilence, hsilent]

theorem placeReclosed_feeders (i : Nat) (s : State) : (placeReclosed i s).hamlet.feeders = s.hamlet.feeders := by
  unfold placeReclosed appendRequest
  split
  · simp
  · split <;> simp

theorem recloseExpires_feeders (i : Nat) (s : State) : (recloseExpires i s).hamlet.feeders = s.hamlet.feeders := by
  unfold recloseExpires
  by_cases h : (s.circuit i).state = .limitOpen
  · rw [if_pos h]
    exact placeReclosed_feeders i _
  · rw [if_neg h]

theorem recloseTick_feeders (i : Nat) (s : State) : (recloseTick i s).hamlet.feeders = s.hamlet.feeders := by
  unfold recloseTick
  split
  · split
    · exact recloseExpires_feeders i s
    · rfl
  · rfl

theorem reclosesTick_feeders (s : State) : (reclosesTick s).hamlet.feeders = s.hamlet.feeders := by
  rw [reclosesTick]
  generalize List.range 48 = indices
  exact foldl_relates (R := fun s t => t.hamlet.feeders = s.hamlet.feeders) (fun _ => rfl)
    (fun _ _ _ h h' => h'.trans h) recloseTick_feeders indices s

theorem millSecond_feeder {k : Nat} (hk : k < 6) (s : State) : (millSecond s).feeder k =
    match (s.feeder k).silence with
    | none => s.feeder k
    | some n => if s.setting Setting.NODE_SILENCE_S ≤ n + 1 then ⟨none, true, none⟩
      else { s.feeder k with silence := some (n + 1) } := by
  have hfeeder : (plantSecond s).feeder k = s.feeder k := by
    rw [State.feeder, (plantSecond_moved s).feeders]
    simp [State.feeder]
  have hset : (plantSecond s).setting Setting.NODE_SILENCE_S = s.setting Setting.NODE_SILENCE_S :=
    setting_congr (by simp [plantSecond]) _
  have hticked := feedersTick_feeder hk (plantSecond s)
  rw [hfeeder, hset] at hticked
  refine Eq.trans ?_ hticked
  rw [State.feeder, millSecond_hamlet, hamletSecond, reclosesTick_feeders]
  rfl

/-! ### The plant's own timers -/

theorem plantSecond_of_not_run {s : State} (h : (plantTick (timeTick s)).plant.state ≠ .run) :
    (plantSecond s).plant = (plantTick (timeTick s)).plant := by
  rw [plantSecond, evaluationTick_of_not_run (by simpa using h)]
  simp

theorem millSecond_runup {n : Nat} {s : State} (htimer : s.plant.runupTimer = some n) (hstate : s.plant.state = .runup) :
    (n + 1 < s.setting Setting.RUNUP_TIMEOUT → (millSecond s).plant = { s.plant with runupTimer := some (n + 1) }) ∧
    (s.setting Setting.RUNUP_TIMEOUT ≤ n + 1 →
      (millSecond s).plant = ⟨.tripped, .runupTimeout, 0, none, none, none, none, none⟩) := by
  have htick := plantTick_of_runup (s := timeTick s) (by simpa using hstate) (by simpa using htimer)
  rw [timeTick_setting] at htick
  have hplant : (runupCounted n (timeTick s)).plant = { s.plant with runupTimer := some (n + 1) } := by
    simp [runupCounted]
  rw [millSecond_plant]
  refine ⟨fun h => ?_, fun h => ?_⟩
  · rw [if_neg (by omega)] at htick
    rw [plantSecond_of_not_run (by rw [htick, hplant, hstate]; decide), htick, hplant]
  · rw [if_pos h] at htick
    rw [plantSecond_of_not_run (by rw [htick, enterPlant_plant]; simp [Plant.enter]), htick, enterPlant_plant]
    rfl

theorem millSecond_stopping {n : Nat} {s : State} (htimer : s.plant.stopTimer = some n)
    (hstate : s.plant.state = .stopping) :
    (n + 1 < s.setting Setting.STOP_TIMEOUT → (millSecond s).plant = { s.plant with stopTimer := some (n + 1) }) ∧
    (s.setting Setting.STOP_TIMEOUT ≤ n + 1 → (millSecond s).plant.state = .stopped ∧
      (millSecond s).plant.cause = .stopTimeout ∧ (millSecond s).plant.stopTimer = none) := by
  have htick := plantTick_of_stopping (s := timeTick s) (by simpa using hstate) (by simpa using htimer)
  rw [timeTick_setting] at htick
  have hplant : (stopCounted n (timeTick s)).plant = { s.plant with stopTimer := some (n + 1) } := by
    simp [stopCounted]
  rw [millSecond_plant]
  refine ⟨fun h => ?_, fun h => ?_⟩
  · rw [if_neg (by omega)] at htick
    rw [plantSecond_of_not_run (by rw [htick, hplant, hstate]; decide), htick, hplant]
  · rw [if_pos h] at htick
    rw [plantSecond_of_not_run (by rw [htick, enterPlant_plant]; simp [Plant.enter]), htick, enterPlant_plant]
    exact ⟨rfl, rfl, rfl⟩

/-! ### The evaluation -/

theorem millSecond_evaluation {n : Nat} {s : State} (htimer : s.water.evalTimer = some n) (hrun : s.plant.state = .run) :
    (n + 1 < s.setting Setting.GATE_INTERVAL → (millSecond s).plant = s.plant ∧
      (millSecond s).water.evalTimer = some (n + 1) ∧ (millSecond s).water.gate = s.water.gate ∧
      (millSecond s).water.shortage = s.water.shortage ∧ (millSecond s).water.demandSum = s.water.demandSum ∧
      (millSecond s).water.demandCount = s.water.demandCount) ∧
    (s.setting Setting.GATE_INTERVAL ≤ n + 1 → (millSecond s).water.demandSum = 0 ∧
      (millSecond s).water.demandCount = 0 ∧
      ((millSecond s).plant.state = .run → (millSecond s).water.evalTimer = some 0)) := by
  have hsecond : plantSecond s = evaluationTick (gateSilenceTick (pondSilenceTick (timeTick s))) := by
    rw [plantSecond, plantTick_of_run (by simpa using hrun)]
  have hset : (gateSilenceTick (pondSilenceTick (timeTick s))).setting Setting.GATE_INTERVAL =
      s.setting Setting.GATE_INTERVAL := setting_congr (by simp) _
  have hwater : (gateSilenceTick (pondSilenceTick (timeTick s))).water = { s.water with
      pondSilence := (gateSilenceTick (pondSilenceTick (timeTick s))).water.pondSilence
      pondSilent := (gateSilenceTick (pondSilenceTick (timeTick s))).water.pondSilent
      gateSilence := (gateSilenceTick (pondSilenceTick (timeTick s))).water.gateSilence
      gateSilent := (gateSilenceTick (pondSilenceTick (timeTick s))).water.gateSilent } := by
    simp [gateSilenceTick_water, pondSilenceTick_water]
  have hplant : (gateSilenceTick (pondSilenceTick (timeTick s))).plant = s.plant := by simp
  rw [millSecond_water, millSecond_plant, hsecond]
  generalize gateSilenceTick (pondSilenceTick (timeTick s)) = u at *
  rw [evaluationTick_of_run (by rw [hplant, hrun]) (by rw [hwater, htimer]), hset]
  refine ⟨fun h => ?_, fun h => ?_⟩
  · rw [if_neg (by omega)]
    refine ⟨hplant, rfl, ?_, ?_, ?_, ?_⟩ <;> simp only [evaluationCounted, State.mapWater_water] <;> rw [hwater]
  · rw [if_pos h]
    obtain ⟨-, hdemand, htimer'⟩ := evaluate_restarted (n + 1) (evaluationCounted n u)
    exact ⟨hdemand.1, hdemand.2, htimer'⟩

end Sys2Proof.Proofs
end

section
namespace Sys2Proof.Proofs
open Sys2Proof.Machine Sys2Proof.Safety

/-! ### The reclose times of the mill second -/

theorem feedersTick_entries (s : State) : (feedersTick s).hamlet.entries = s.hamlet.entries := by
  rw [feedersTick]
  generalize List.range 6 = indices
  refine foldl_relates (R := fun s t => t.hamlet.entries = s.hamlet.entries) (fun _ => rfl)
    (fun _ _ _ h h' => h'.trans h) (fun k s => ?_) indices s
  cases h : (s.feeder k).silence with
  | none => rw [feederSilenceTick_of_none h]
  | some n =>
    rw [feederSilenceTick_of_some h]
    split <;> simp [modifyFeeder]

/-- The list as the Mill Time Unit leaves it: a denied reservation renames causes in it. -/
theorem timeTick_list (s : State) : ((timeTick s).shed.list = [] ↔ s.shed.list = []) ∧
    ∀ i, (timeTick s).listed i = s.listed i := by
  obtain ⟨-, ⟨hdenied, hstops, helse⟩, -, -, -, hshed⟩ := timeTick_spec s
  have hsame : (timeTick s).shed = s.shed → ((timeTick s).shed.list = [] ↔ s.shed.list = []) ∧
      ∀ i, (timeTick s).listed i = s.listed i := fun h => by simp [State.listed, h]
  by_cases hcloses : s.time.sawOpen = true ∧ (windowsTicked s).time.sawOpen = false
  · cases hstate : s.saw.state with
    | reserving =>
      obtain ⟨⟨-, -, heq⟩, -⟩ := hdenied hcloses hstate
      rw [← hshed] at heq
      have hbase : (windowsTicked s).shed = s.shed := rfl
      have hname : ∀ (e : ShedEntry) (i : Nat),
          ((if e.cause = .saw then { e with cause := .frequency } else e).circuit == i) = (e.circuit == i) := by
        intro e i
        split <;> rfl
      simp [State.listed, heq, hbase, Function.comp_def, hname]
    | engaging => exact hsame (hshed.trans (hstops hcloses (.inl hstate)).2.2.1)
    | running => exact hsame (hshed.trans (hstops hcloses (.inr hstate)).2.2.1)
    | idle => exact hsame (hshed.trans (helse (.inr (.inl hstate))).2.2.1)
    | stopping => exact hsame (hshed.trans (helse (.inr (.inr hstate))).2.2.1)
  · exact hsame (hshed.trans (helse (.inl hcloses)).2.2.1)

theorem millSecond_reclose {i n : Nat} (hi : i < 48) {s : State} (hlength : s.hamlet.entries.length = 48)
    (hsame : (millSecond s).plant.state = s.plant.state) (hstate : (s.circuit i).state = .limitOpen)
    (hn : (s.circuit i).reclose = some n) :
    (2 ≤ n → (millSecond s).circuit i = { s.circuit i with reclose := some (n - 1) }) ∧
    (n ≤ 1 → ((s.circuit i).tier = 0 ∨ s.shed.list = []) →
      (millSecond s).circuit i = { s.circuit i with state := .closed, reclose := none, disagree := 0 }) ∧
    (n ≤ 1 → 1 ≤ (s.circuit i).tier → s.shed.list ≠ [] → s.plant.state = .run → s.listed i = false →
      (millSecond s).circuit i = { s.circuit i with state := .shed, reclose := none }) := by
  rw [millSecond_plant] at hsame
  obtain ⟨-, hhamlet, hshed⟩ := (plantSecond_moved s).same (by simpa using hsame)
  obtain ⟨hempty, hlisted⟩ := timeTick_list s
  have hentries : (feedersTick (plantSecond s)).hamlet.entries = s.hamlet.entries := by
    rw [feedersTick_entries, hhamlet]
    simp
  have hcircuit : (feedersTick (plantSecond s)).circuit i = s.circuit i := by rw [State.circuit, hentries]; rfl
  have hlist : (feedersTick (plantSecond s)).shed = (timeTick s).shed := by simpa using hshed
  have hlistedAt : (feedersTick (plantSecond s)).listed i = s.listed i := by
    rw [← hlisted i, State.listed, hlist]
    rfl
  have hplant : (feedersTick (plantSecond s)).plant.state = s.plant.state := by simpa using hsame
  have hresult := reclosesTick_circuit hi (s := feedersTick (plantSecond s)) (by rw [hentries]; omega)
    (by rw [hcircuit]; exact hstate) (by rw [hcircuit]; exact hn)
  rw [hcircuit, hlistedAt, hplant, hlist, ne_eq, hempty] at hresult
  have hfinal : (millSecond s).circuit i = (hamletSecond s).circuit i := by
    simp only [State.circuit, millSecond_hamlet]
  rw [hfinal]
  exact hresult

/-! ### The grant -/

theorem grantTick_of_over {g : Nat} {s : State} (hstate : s.saw.state = .running) (hg : s.saw.grant = some g)
    (h : g ≤ 1) : (grantTick s).saw.state = .stopping ∧ (grantTick s).saw.grant = none := by
  rw [grantTick_of_running hstate hg, if_pos h]
  simp

theorem millSecond_grant {g : Nat} {s : State} (hg : s.saw.grant = some g) (hrunning : s.saw.state = .running) :
    (2 ≤ g → (millSecond s).saw.state = .running → (millSecond s).saw.grant = some (g - 1)) ∧
    (g ≤ 1 → (millSecond s).plant.state = .run →
      (millSecond s).saw.state = .stopping ∧ (millSecond s).saw.grant = none) := by
  obtain ⟨-, hback, hforward⟩ := timeTick_saw s
  have hmoved := plantSecond_moved s
  obtain ⟨hstays, hleaves, hstopped⟩ := sawSilenceTick_running (hamletSecond s)
  rw [hamletSecond_saw] at hstays hleaves hstopped
  rw [millSecond_eq]
  refine ⟨fun h hafter => ?_, fun h hrun => ?_⟩
  · have hbefore : (sawSilenceTick (hamletSecond s)).saw.state = .running := by
      rcases grantTick_cases (sawSilenceTick (hamletSecond s)) with ⟨_, hstate, _⟩ | heq
      · exact hstate
      · rw [heq] at hafter
        exact hafter
    obtain ⟨hsecond, hgrant⟩ := hstays hbefore
    have hplant : (plantSecond s).plant.state = (timeTick s).plant.state := by
      by_contra hne
      exact hmoved.cut hne hsecond
    have hsaw := (hmoved.same hplant).1
    have hgrant' : (sawSilenceTick (hamletSecond s)).saw.grant = some g := by
      rw [hgrant, hsaw, hback (hsaw ▸ hsecond), hg]
    rw [grantTick_of_running hbefore hgrant', if_neg (by omega), State.mapSaw_saw]
  · rw [← millSecond_eq] at hrun
    have hs := millSecond_run hrun
    rw [millSecond_plant] at hrun
    have hsaw := (hmoved.same (by rw [hrun]; simpa using hs.symm)).1
    rw [hsaw] at hstays hleaves hstopped
    have hstopping : ∀ u : State, u.saw.state = .stopping ∧ u.saw.grant = none →
        (grantTick u).saw.state = .stopping ∧ (grantTick u).saw.grant = none := fun u hu => by
      rw [grantTick_of_idle (.inr hu.2)]
      exact hu
    rcases hforward hrunning with heq | ⟨hstop, hnone⟩
    · rw [heq] at hstays hleaves
      rcases hleaves hrunning with hrunning' | hstop
      · exact grantTick_of_over hrunning' ((hstays hrunning').2.trans hg) h
      · exact hstopping _ hstop
    · obtain ⟨hstop', hgrant⟩ := hstopped hstop
      exact hstopping _ ⟨hstop', hgrant.trans hnone⟩

/-! ### The conditions and the record -/

/-- A raise sees of the state its conditions. -/
theorem raise_conds_congr {r s : State} (h : r.conds = s.conds) (c : Condition) (x : Option Nat) :
    (raise c x r).conds = (raise c x s).conds := by
  unfold raise
  have hcond : r.cond c = s.cond c := by rw [State.cond, h]; rfl
  rw [hcond]
  split <;> simp [markCause, setFlag, h]

theorem timeErrorRecord_conds {r s : State} (h : r.conds = s.conds) (te : Int) :
    (timeErrorRecord te r).conds = (timeErrorRecord te s).conds := by
  unfold timeErrorRecord
  split
  · exact raise_conds_congr h _ _
  · simp [causeEnd, h]

theorem windowRecord_conds (closes : Prop) [Decidable closes] (w : SawState) (s : State) :
    (windowRecord closes w s).conds = s.conds := by
  unfold windowRecord
  (repeat' split) <;> rfl

theorem grantTick_cond (s : State) : (grantTick s).cond .timeErrorLimit = s.cond .timeErrorLimit := by
  simp [State.cond]

theorem millSecond_cond (s : State) : (millSecond s).cond .timeErrorLimit =
    (timeErrorRecord (timeAfterTick s).te s).cond .timeErrorLimit := by
  obtain ⟨-, -, hrecord, -⟩ := timeTick_spec s
  have hconds := hrecord.conds.trans (timeErrorRecord_conds (s := s) (windowRecord_conds _ _ (windowsTicked s)) _)
  rw [millSecond_eq, grantTick_cond, sawSilenceTick_cond, hamletSecond, reclosesTick_cond, feedersTick_cond,
    (plantSecond_moved s).cond, State.cond, hconds]
  rfl

/-- No second-based timer comes to its end within the second. -/
structure NothingDue (s : State) : Prop where
  runup : Before s.plant.runupTimer (s.setting Setting.RUNUP_TIMEOUT)
  stop : Before s.plant.stopTimer (s.setting Setting.STOP_TIMEOUT)
  evaluation : Before s.water.evalTimer (s.setting Setting.GATE_INTERVAL)
  pond : Before s.water.pondSilence (s.setting Setting.NODE_SILENCE_S)
  gate : Before s.water.gateSilence (s.setting Setting.NODE_SILENCE_S)
  saw : Before s.saw.silence (s.setting Setting.NODE_SILENCE_S)
  feeders : ∀ x ∈ s.hamlet.feeders, Before x.silence (s.setting Setting.NODE_SILENCE_S)
  recloses : ∀ c ∈ s.hamlet.entries, RecloseBefore c
  grant : ∀ g, s.saw.grant = some g → s.saw.state = .running → 2 ≤ g

/-- What the plant's and the water's part of a mill second leaves while nothing is due. -/
structure SecondPassed (s t : State) : Prop extends TimersOnly s t where
  plant : t.plant.state = s.plant.state
  hamlet : t.hamlet = s.hamlet
  saw : t.saw = s.saw

theorem SecondPassed.trans {s t u : State} (h : SecondPassed s t) (h' : SecondPassed t u) : SecondPassed s u :=
  ⟨h.toTimersOnly.trans h'.toTimersOnly, h'.plant.trans h.plant, h'.hamlet.trans h.hamlet, h'.saw.trans h.saw⟩

theorem plantTick_passed {s : State} (h : NothingDue s) :
    SecondPassed (timeTick s) (plantTick (timeTick s)) ∧ (plantTick (timeTick s)).water = s.water := by
  obtain ⟨f, heq, hstate⟩ := plantTick_of_before (s := timeTick s)
    (fun n hn => by rw [timeTick_setting]; exact h.runup n (by simpa using hn))
    (fun n hn => by rw [timeTick_setting]; exact h.stop n (by simpa using hn))
  rw [heq]
  exact ⟨⟨timersOnly_mapPlant f _, hstate, rfl, rfl⟩, by simp⟩

theorem plantSecond_passed {s : State} (h : NothingDue s) : SecondPassed (timeTick s) (plantSecond s) := by
  obtain ⟨hplant, hwater⟩ := plantTick_passed h
  have hset : ∀ k, (plantTick (timeTick s)).setting k = s.setting k := setting_congr (by simp)
  rw [plantSecond]
  generalize plantTick (timeTick s) = u at *
  have hset' : ∀ k, (pondSilenceTick u).setting k = s.setting k := fun k =>
    (setting_congr (by simp) k).trans (hset k)
  have hset'' : ∀ k, (gateSilenceTick (pondSilenceTick u)).setting k = s.setting k := fun k =>
    (setting_congr (by simp) k).trans (hset k)
  have hpond : SecondPassed u (pondSilenceTick u) :=
    ⟨pondSilenceTick_timersOnly (by rw [hwater, hset]; exact h.pond), by simp, by simp, by simp⟩
  have hgate : SecondPassed (pondSilenceTick u) (gateSilenceTick (pondSilenceTick u)) := by
    refine ⟨gateSilenceTick_timersOnly ?_, by simp, by simp, by simp⟩
    rw [pondSilenceTick_water, hset', hwater]
    exact h.gate
  have heval : SecondPassed (gateSilenceTick (pondSilenceTick u))
      (evaluationTick (gateSilenceTick (pondSilenceTick u))) := by
    obtain ⟨f, heq, hkept⟩ := evaluationTick_of_before (s := gateSilenceTick (pondSilenceTick u)) (by
      rw [hset'', gateSilenceTick_water, pondSilenceTick_water, hwater]
      exact h.evaluation)
    rw [heq]
    exact ⟨timersOnly_mapWater hkept, rfl, rfl, rfl⟩
  exact hplant.trans (hpond.trans (hgate.trans heval))

theorem millSecond_timersOnly {s : State} (h : NothingDue s) :
    TimersOnly (timeTick s) (millSecond s) ∧ (millSecond s).plant.state = s.plant.state := by
  have hsecond := plantSecond_passed h
  obtain ⟨⟨hsilence, -⟩, hrunning, -⟩ := timeTick_saw s
  have hset : ∀ k, (plantSecond s).setting k = s.setting k := setting_congr (by simp [plantSecond])
  have hfeeders : TimersOnly (plantSecond s) (feedersTick (plantSecond s)) := by
    refine feedersTick_timersOnly ?_
    rw [hsecond.hamlet, hset]
    simpa using h.feeders
  have hrecloses : TimersOnly (feedersTick (plantSecond s)) (hamletSecond s) := by
    refine reclosesTick_timersOnly ?_
    rw [feedersTick_entries, hsecond.hamlet]
    simpa using h.recloses
  have hsaw : (hamletSecond s).saw = (timeTick s).saw := by rw [hamletSecond_saw, hsecond.saw]
  have hsilenceTick : TimersOnly (hamletSecond s) (sawSilenceTick (hamletSecond s)) := by
    refine sawSilenceTick_timersOnly ?_
    rw [hsaw, hamletSecond_setting, hsilence]
    exact h.saw
  have hgrant : TimersOnly (sawSilenceTick (hamletSecond s)) (grantTick (sawSilenceTick (hamletSecond s))) := by
    refine grantTick_timersOnly fun g hg hstate => ?_
    obtain ⟨hstays, -⟩ := sawSilenceTick_running (hamletSecond s)
    obtain ⟨hstate', hgrant⟩ := hstays hstate
    rw [hsaw] at hstate' hgrant
    rw [hgrant, hrunning hstate'] at hg
    rw [hrunning hstate'] at hstate'
    exact h.grant g hg hstate'
  refine ⟨hsecond.toTimersOnly.trans (hfeeders.trans (hrecloses.trans (hsilenceTick.trans hgrant))), ?_⟩
  rw [millSecond_plant, hsecond.plant]
  simp

end Sys2Proof.Proofs
end

section
namespace Sys2Proof.Proofs
open Sys2Proof.Machine Sys2Proof.Safety

theorem windowRecord_agree {r t : State} (h : RecordAgree r t) (closes : Prop) [Decidable closes] (w : SawState) :
    RecordAgree (windowRecord closes w r) (windowRecord closes w t) := by
  unfold windowRecord
  split
  · exact (h.journalAppend .sawDenied none 1).journalAppend .saw none 0
  · split
    · exact h.journalAppend .saw none 4
    · exact h

theorem timeErrorRecord_agree {r t : State} (h : RecordAgree r t) (te : Int) :
    RecordAgree (timeErrorRecord te r) (timeErrorRecord te t) := by
  unfold timeErrorRecord
  split
  · exact h.raise .timeErrorLimit none
  · exact h.causeEnd .timeErrorLimit

/-- Where nothing is due the record of a mill second is that of the Mill Time Unit and of a closing window. -/
theorem millSecond_record {s : State} (h : NothingDue s) :
    SameRecord (timeErrorRecord (millSecond s).time.te (windowRecord
      (s.time.sawOpen = true ∧ (millSecond s).time.sawOpen = false) s.saw.state
      { s with time := (millSecond s).time })) (millSecond s) ∧ SlotsFollow [] s (millSecond s) := by
  obtain ⟨htimers, hplant⟩ := millSecond_timersOnly h
  obtain ⟨htime, -, hrecord, hfollow, -⟩ := timeTick_spec s
  have hsame : (millSecond s).time = timeAfterTick s := by rw [htimers.time, htime]
  have hbase : RecordAgree { s with time := timeAfterTick s } (windowsTicked s) := .of_loop rfl rfl rfl rfl rfl
  rw [hsame]
  refine ⟨((timeErrorRecord_agree (windowRecord_agree hbase _ _) _).trans
    (hrecord.trans htimers.agree)).sameRecord, ?_⟩
  refine (hfollow.trans htimers.follow fun k hk => ?_).slots
  rwa [htimers.orders] at hk

theorem windowTicked_whole {s : State} {c : DayClock} (h : c.sec % 60 = 0) (k : Nat) (held : Bool) :
    windowTicked s (some c) k held = inWindow (s.tables.windows.getD k (0, 0)) (c.sec / 60) := if_pos h

theorem windowTicked_held {s : State} {clock : Option DayClock} (h : (clock.map fun c => c.sec % 60) ≠ some 0) (k : Nat)
    (held : Bool) : windowTicked s clock k held = held := by
  cases clock with
  | none => rfl
  | some c => exact if_neg fun h' => h (congrArg some h')

/-- Settles O28. -/
theorem millSecond : Obligations.MillSecond := by
  intro s
  obtain ⟨d, htime⟩ := millSecond_time_but_direction s
  obtain ⟨hpond, hgate⟩ := plantSecond_water s
  rw [← millSecond_water] at hpond hgate
  have hdirection := millSecond_direction s
  have hcond := millSecond_cond s
  have hrecord : NothingDue s → _ := millSecond_record
  refine ⟨Machine.millSecond s, rfl, by rw [htime]; rfl, by rw [htime]; rfl, by rw [htime]; rfl, fun h => ?unset,
    fun d h => ?midnight, fun d x h hx => ?later, ?direction, fun c hc hwhole => ?whole, fun hnot => ?held,
    ⟨?pond, ?gate, ?saw, fun _ k hk => ?feeder⟩, fun n hn hstate => millSecond_runup hn hstate,
    fun n hn hstate => millSecond_stopping hn hstate, fun n hn hrun => millSecond_evaluation hn hrun,
    fun hlength hsame i hi hstate n hn => millSecond_reclose hi hlength hsame hstate hn,
    fun g hg hrunning => millSecond_grant hg hrunning, ?cond, ?record, by simp, by simp, by simp, by simp, by simp⟩
  case unset => rw [htime]; simp [timeAfterTick, h]
  case midnight => rw [htime]; simp [timeAfterTick, h, DayClock.next]
  case later => rw [htime]; simp [timeAfterTick, h, DayClock.next, Nat.ne_of_lt hx]
  case direction => rw [hdirection, htime]; rfl
  case whole =>
    rw [htime] at hc ⊢
    have hclock : s.time.clock.map DayClock.next = some c := hc
    simp only [timeAfterTick, hclock]
    exact ⟨windowTicked_whole hwhole _ _, windowTicked_whole hwhole _ _, windowTicked_whole hwhole _ _⟩
  case held =>
    rw [htime] at hnot ⊢
    exact ⟨windowTicked_held hnot _ _, windowTicked_held hnot _ _, windowTicked_held hnot _ _⟩
  case pond => exact hpond.trans (by cases s.water.pondSilence <;> rfl)
  case gate => exact hgate.trans (by cases s.water.gateSilence <;> rfl)
  case saw => exact (millSecond_sawSilence s).trans (by cases s.saw.silence <;> rfl)
  case feeder => exact millSecond_feeder hk s
  case cond => rw [hcond, htime]
  case record =>
    generalize Machine.millSecond s = t at hrecord
    intro limit before closes now base hrunup hstop heval hpond' hgate' hsaw hfeeders hrecloses hgrant
    exact hrecord ⟨hrunup, hstop, heval, hpond', hgate', hsaw, hfeeders, hrecloses, hgrant⟩

end Sys2Proof.Proofs
end

section
namespace Sys2Proof.Proofs
open Sys2Proof.Machine Sys2Proof.Safety

/-! ## The circuits that entry to RUN energises, in their order (R110, R127) -/

/-- The DARK circuits by index: those that entry to RUN closes. -/
theorem mem_darkTier0_iff {s : State} {i : Nat} : i ∈ darkTier0 s.hamlet.entries ↔
    i < s.hamlet.entries.length ∧ (s.circuit i).state = .dark ∧ (s.circuit i).tier = 0 := by
  constructor
  · intro h
    refine ⟨?_, mem_darkTier0 h⟩
    simp only [darkTier0, List.mem_map, List.mem_filter] at h
    obtain ⟨⟨c, j⟩, ⟨hmem, -⟩, rfl⟩ := h
    exact (List.getElem?_eq_some_iff.mp (List.mem_zipIdx_iff_getElem?.mp hmem)).1
  · rintro ⟨hlt, hdark, htier⟩
    simp only [darkTier0, List.mem_map, List.mem_filter]
    refine ⟨(s.circuit i, i), ⟨?_, by simp [hdark, htier]⟩, rfl⟩
    rw [List.mem_zipIdx_iff_getElem?, circuit_of_lt hlt]
    exact List.getElem?_eq_getElem hlt

theorem mem_darkOfTier_iff {s : State} {i tier : Nat} : i ∈ darkOfTier s.hamlet.entries tier ↔
    i < s.hamlet.entries.length ∧ (s.circuit i).state = .dark ∧ (s.circuit i).tier = tier := by
  simp only [darkOfTier, List.mem_map, List.mem_filter, List.mem_reverse, Bool.and_eq_true, beq_iff_eq]
  constructor
  · rintro ⟨⟨c, j⟩, ⟨hmem, hc⟩, rfl⟩
    have hget := List.mem_zipIdx_iff_getElem?.mp hmem
    obtain ⟨hlt, heq⟩ := List.getElem?_eq_some_iff.mp hget
    rw [circuit_of_lt hlt]
    exact ⟨hlt, heq ▸ hc⟩
  · rintro ⟨hlt, hc⟩
    refine ⟨(s.circuit i, i), ⟨?_, hc⟩, rfl⟩
    rw [List.mem_zipIdx_iff_getElem?, circuit_of_lt hlt]
    exact List.getElem?_eq_getElem hlt

theorem mem_runupOrder_iff {s : State} {i : Nat} (htiers : (s.circuit i).tier ≤ 3) :
    i ∈ runupOrder s.hamlet.entries ↔
      i < s.hamlet.entries.length ∧ (s.circuit i).state = .dark ∧ (s.circuit i).tier ≠ 0 := by
  simp only [runupOrder, List.mem_append, mem_darkOfTier_iff]
  constructor
  · rintro ((⟨h, h', h''⟩ | ⟨h, h', h''⟩) | ⟨h, h', h''⟩) <;> exact ⟨h, h', by omega⟩
  · rintro ⟨h, h', h''⟩
    simp only [h, h', true_and]
    omega

theorem darkTier0_nodup (cs : List Circuit) : (darkTier0 cs).Nodup := by
  refine List.Nodup.sublist (List.filter_sublist.map _) ?_
  rw [List.zipIdx_map_snd]
  exact List.nodup_range'

theorem darkOfTier_descending (cs : List Circuit) (tier : Nat) : (darkOfTier cs tier).Pairwise (· > ·) := by
  refine List.Pairwise.sublist (List.filter_sublist.map _) ?_
  rw [List.map_reverse, List.zipIdx_map_snd, List.pairwise_reverse]
  exact List.pairwise_lt_range'

/-- The order of R127: falling tiers, and falling indices in one tier. -/
theorem runupOrder_pairwise (s : State) : (runupOrder s.hamlet.entries).Pairwise fun a b =>
    (s.circuit b).tier < (s.circuit a).tier ∨ (s.circuit a).tier = (s.circuit b).tier ∧ b < a := by
  have hone : ∀ tier, (darkOfTier s.hamlet.entries tier).Pairwise fun a b =>
      (s.circuit b).tier < (s.circuit a).tier ∨ (s.circuit a).tier = (s.circuit b).tier ∧ b < a := by
    intro tier
    refine (darkOfTier_descending s.hamlet.entries tier).imp_of_mem fun ha hb h => .inr ⟨?_, h⟩
    rw [(mem_darkOfTier_iff.mp ha).2.2, (mem_darkOfTier_iff.mp hb).2.2]
  simp only [runupOrder, List.pairwise_append, List.mem_append]
  refine ⟨⟨hone 3, hone 2, fun a ha b hb => .inl ?_⟩, hone 1, fun a ha b hb => .inl ?_⟩
  · have := (mem_darkOfTier_iff.mp ha).2.2
    have := (mem_darkOfTier_iff.mp hb).2.2
    omega
  · have := (mem_darkOfTier_iff.mp hb).2.2
    rcases ha with ha | ha
    · have := (mem_darkOfTier_iff.mp ha).2.2
      omega
    · have := (mem_darkOfTier_iff.mp ha).2.2
      omega

theorem runupOrder_nodup (s : State) : (runupOrder s.hamlet.entries).Nodup :=
  (runupOrder_pairwise s).imp fun h => by
    rintro rfl
    omega

/-! ## Operations that open no circuit -/

/-- The slots follow, gate and saw keep their orders, and a circuit that was wanted CLOSED still is. -/
structure Supplied (s t : State) : Prop where
  follow : Follow s t
  gate : t.water.gate = s.water.gate
  saw : t.saw.order = s.saw.order
  closed : ∀ j, (s.circuit j).wanted = true → (t.circuit j).wanted = true

theorem Supplied.refl (s : State) : Supplied s s := ⟨.refl s, rfl, rfl, fun _ h => h⟩

/-- No position comes back to what it was: none is left. -/
theorem Supplied.trans {s t u : State} (h : Supplied s t) (h' : Supplied t u) : Supplied s u := by
  refine ⟨h.follow.trans h'.follow fun k => ?_, h'.gate.trans h.gate, h'.saw.trans h.saw,
    fun j hj => h'.closed j (h.closed j hj)⟩
  match k with
  | 0 => simp [slotOrder, h.gate]
  | 1 => simp [slotOrder, h.saw]
  | k + 2 =>
    by_cases hk : k < 6
    · simp only [slotOrder_feeder _ hk, Option.some.injEq, Order.feeder.injEq, positions_eq_iff]
      intro hback m hm
      cases hs : (s.circuit (k * 8 + m)).wanted with
      | true => exact h.closed _ hs
      | false =>
        by_contra ht
        rw [Bool.not_eq_false] at ht
        have := hback m hm
        rw [h'.closed _ ht, hs] at this
        cases this
    · simp [slotOrder, hk]

theorem Supplied.of_oneCircuit {i : Nat} {s t : State} (h : OneCircuit i s t)
    (hi : (s.circuit i).wanted = true → (t.circuit i).wanted = true) : Supplied s t := by
  refine ⟨h.follow, h.gate, h.saw, fun j hj => ?_⟩
  by_cases hji : j = i
  · rw [hji] at hj ⊢
    exact hi hj
  · rwa [h.others j hji]

/-! ## The circuits of tier 0 close -/

/-- The circuits named have closed; nothing else of circuits, list and record has changed. -/
structure ClosedAll (l : List Nat) (s t : State) : Prop where
  supplied : Supplied s t
  length : t.hamlet.entries.length = s.hamlet.entries.length
  circuit : ∀ j, t.circuit j = if j ∈ l then (s.circuit j).move .closed else s.circuit j
  agree : RecordAgree s t
  shed : t.shed = s.shed
  plant : t.plant = s.plant

theorem closeAll_spec {l : List Nat} (hl : l.Nodup) {s : State} (hlength : s.hamlet.entries.length = 48)
    (hin : ∀ i ∈ l, i < 48) : ClosedAll l s (l.foldl (fun t i => moveCircuit i .closed t) s) := by
  induction l generalizing s with
  | nil => exact ⟨.refl s, rfl, fun _ => rfl, .refl s, rfl, rfl⟩
  | cons i l ih =>
    obtain ⟨hi, hl'⟩ := List.nodup_cons.mp hl
    have hlt : i < s.hamlet.entries.length := hlength ▸ hin i (by simp)
    have hone := OneCircuit.moveCircuit (hin i (by simp)) hlt .closed
    have hself := circuit_moveCircuit_self hlt .closed
    obtain ⟨hsupplied, hlength', hcircuit, hagree, hshed, hplant⟩ :=
      ih (s := moveCircuit i .closed s) hl' (hone.length.trans hlength) fun j hj => hin j (by simp [hj])
    refine ⟨(Supplied.of_oneCircuit hone fun _ => by rw [hself]; rfl).trans hsupplied, hlength'.trans hone.length,
      fun j => ?_, (moveCircuit_agree i .closed s).trans hagree, hshed.trans (by simp), hplant.trans (by simp)⟩
    rw [List.foldl_cons, hcircuit]
    by_cases hji : j = i
    · rw [hji, if_neg hi, if_pos (by simp), hself]
    · rw [hone.others j hji]
      simp [hji]

/-! ## The others are shed -/

/-- A record and a state that agree in conditions, journal and queue, in the shed list and in every reading. -/
structure ListAgree (r t : State) : Prop where
  agree : RecordAgree r t
  shed : t.shed = r.shed
  reading : ∀ j, (t.circuit j).reading = (r.circuit j).reading

theorem circuit_appended (i : Nat) (cause : ShedCause) (r : State) (j : Nat) :
    (appended i cause r).circuit j = r.circuit j := by
  rw [appended]
  split <;> simp [State.circuit]

/-- A taken append keeps the agreement. -/
theorem ListAgree.appendTaken {r t : State} (h : ListAgree r t) (i : Nat) (cause : ShedCause) :
    ListAgree (appended i cause r) (appendTaken i cause t) := by
  have hsecond : t.secondOfDay = r.secondOfDay := by rw [State.secondOfDay, h.agree.clock]; rfl
  have hshed : (Machine.appendTaken i cause t).shed = { t.shed with
      list := t.shed.list ++ [⟨i, cause, (t.circuit i).reading, t.secondOfDay⟩], restoreTimer := none } := by
    rw [Machine.appendTaken]
    split <;> simp [pushShed]
  have hreading : ∀ j, ((Machine.appendTaken i cause t).circuit j).reading = (t.circuit j).reading := by
    intro j
    rw [circuit_appendTaken]
    split
    · simp [Circuit.move]
    · rfl
  refine ⟨(appended_agree h.agree (by rw [h.shed]) i cause).trans (appendTaken_agree i cause t), ?_, fun j => ?_⟩
  · rw [hshed, appended_shed, h.shed, h.reading, hsecond]
  · rw [hreading, circuit_appended, h.reading]

/-- The circuits named have been shed, in their order. -/
structure ShedAll (l : List Nat) (r s t : State) : Prop where
  supplied : Supplied s t
  circuit : ∀ j, t.circuit j = if j ∈ l then (s.circuit j).move .shed else s.circuit j
  list : t.shed.list = s.shed.list ++ l.map fun i => ⟨i, .runup, (s.circuit i).reading, s.secondOfDay⟩
  record : ListAgree (l.foldl (fun r i => appended i .runup r) r) t

/-- An append request that is taken. -/
theorem appendRequest_of_taken {i : Nat} {cause : ShedCause} {s : State} (hrun : s.plant.state = .run)
    (htier : 1 ≤ (s.circuit i).tier) (hfree : s.listed i = false) :
    appendRequest i cause s = appendTaken i cause s := by
  refine if_pos ?_
  simp [(inPlant_iff s _).mpr hrun, htier, hfree]

theorem shedAll_spec {l : List Nat} (hl : l.Nodup) {r s : State} (hlength : s.hamlet.entries.length = 48)
    (hrun : s.plant.state = .run)
    (hin : ∀ i ∈ l, i < 48 ∧ (s.circuit i).state = .dark ∧ 1 ≤ (s.circuit i).tier ∧ s.listed i = false)
    (hrecord : ListAgree r s) : ShedAll l r s (l.foldl (fun t i => appendRequest i .runup t) s) := by
  induction l generalizing r s with
  | nil => exact ⟨.refl s, fun _ => rfl, by simp, hrecord⟩
  | cons i l ih =>
    obtain ⟨hi, hl'⟩ := List.nodup_cons.mp hl
    obtain ⟨hi48, hdark, htier, hfree⟩ := hin i (by simp)
    have hlt : i < s.hamlet.entries.length := hlength ▸ hi48
    have hone := appendTaken_oneCircuit hi48 hlt .runup
    have hself := circuit_appendTaken_self hlt .runup
    have hother : ∀ j ∈ l, j ≠ i := fun j hj h => hi (h ▸ hj)
    have hlist : (appendTaken i .runup s).shed.list =
        s.shed.list ++ [⟨i, .runup, (s.circuit i).reading, s.secondOfDay⟩] := by
      rw [appendTaken]
      split <;> simp [pushShed]
    have hsecond : (appendTaken i .runup s).secondOfDay = s.secondOfDay := by
      rw [State.secondOfDay]
      simp [State.secondOfDay]
    rw [List.foldl_cons, appendRequest_of_taken hrun htier hfree]
    have hinside : ∀ j ∈ l, j < 48 ∧ ((appendTaken i .runup s).circuit j).state = .dark ∧
        1 ≤ ((appendTaken i .runup s).circuit j).tier ∧ (appendTaken i .runup s).listed j = false := by
      intro j hj
      obtain ⟨hj48, hdark', htier', hfree'⟩ := hin j (by simp [hj])
      rw [hone.others j (hother j hj)]
      refine ⟨hj48, hdark', htier', ?_⟩
      rw [State.listed] at hfree' ⊢
      rw [hlist]
      simp [hfree', (hother j hj).symm]
    obtain ⟨hsupplied, hcircuit, hlist', hrecord'⟩ := ih hl' (hone.length.trans hlength) (by simpa using hrun) hinside
      (hrecord.appendTaken i .runup)
    refine ⟨(Supplied.of_oneCircuit hone fun h => ?_).trans hsupplied, fun j => ?_, ?_, hrecord'⟩
    · simp [Circuit.wanted, hdark] at h
    · rw [hcircuit]
      by_cases hji : j = i
      · rw [hji, if_neg hi, if_pos (by simp), hself]
      · rw [hone.others j hji]
        simp [hji]
    · have hrest : (l.map fun j => (⟨j, .runup, ((appendTaken i .runup s).circuit j).reading, s.secondOfDay⟩ : ShedEntry)) =
          l.map fun j => ⟨j, .runup, (s.circuit j).reading, s.secondOfDay⟩ :=
        List.map_congr_left fun j hj => by rw [hone.others j (hother j hj)]
      rw [hlist', hlist, hsecond, hrest, List.map_cons, List.append_assoc]
      rfl

end Sys2Proof.Proofs
end

section
namespace Sys2Proof.Proofs
open Sys2Proof.Machine Sys2Proof.Safety

/-! ## Entry to RUN (R47, R55, R110, R127) -/

/-- The acceptance count has come to RUNUP_ACCEPT. -/
def acceptCounted (s : State) : State :=
  s.mapPlant fun p => { p with accept := max p.accept (s.setting Setting.RUNUP_ACCEPT) }

/-- The plant and the water have taken the entry to RUN, and the hamlet has not yet. -/
def runEntered (s : State) : State :=
  waterEntry .run (recordEntry .run .runupDone (acceptCounted s))

theorem runupAccepted_eq {s : State} (h : s.plant.state = .runup) : runupAccepted s = energise (runEntered s) := by
  have hsaw : ∀ u : State, sawEntry .run u = u := fun u => by simp [sawEntry]
  rw [runupAccepted, if_pos ((inPlant_iff s _).mpr h), enterPlant, hsaw]
  rfl

/-- Up to the hamlet's part the entry changes plant, gate, conditions and journal. -/
theorem runEntered_spec (s : State) :
    (runEntered s).plant = { s.plant with
      state := .run, cause := .runupDone, runupTimer := none, stopTimer := none, signalLoss := none
      collapse := none, accept := max s.plant.accept (s.setting Setting.RUNUP_ACCEPT) } ∧
    (runEntered s).water = { s.water with
      gate := max (s.setting Setting.GATE_START) (s.setting Setting.GATE_RUN_MIN)
      evalTimer := some 0, demandSum := 0, demandCount := 0, shortage := 0 } ∧
    RecordAgree (recorded .run .runupDone none s) (runEntered s) ∧ Follow s (runEntered s) := by
  have hwater : (runEntered s).water = { s.water with
      gate := max (s.setting Setting.GATE_START) (s.setting Setting.GATE_RUN_MIN)
      evalTimer := some 0, demandSum := 0, demandCount := 0, shortage := 0 } := by
    simp [runEntered, acceptCounted, waterEntry, Water.enter, State.entryGate, State.setting]
  refine ⟨by simp [runEntered, acceptCounted, recordEntry, raiseCause, causeCondition, Plant.enter], hwater, ?_, ?_⟩
  · have hbefore : RecordAgree (recorded .run .runupDone none s) (recorded .run .runupDone none (acceptCounted s)) :=
      (show RecordAgree s (acceptCounted s) from .of_loop rfl rfl rfl rfl rfl).recorded .run .runupDone none
    have hentry : RecordAgree (recorded .run .runupDone none (acceptCounted s))
        (recordEntry .run .runupDone (acceptCounted s)) := by
      rw [recordEntry_eq]
      exact .of_loop rfl rfl rfl rfl rfl
    have hgate : ∀ u, RecordAgree u (waterEntry .run u) := fun u =>
      .of_slots (by simp) (by simp) ⟨_, (waterEntry_ordersFollow .run u).loop⟩ (by simp) (by simp)
    exact hbefore.trans (hentry.trans (hgate _))
  · have hentry : Follow s (recordEntry .run .runupDone (acceptCounted s)) :=
      .of_same (by simp [acceptCounted]) (slotOrder_congr (by simp [acceptCounted]) (by simp [acceptCounted])
        (by simp [acceptCounted])) ⟨_, s.loop.held, (recordEntry_loop .run .runupDone _).trans rfl⟩
    refine hentry.trans (.of_ordersFollow (waterEntry_ordersFollow .run _)) fun k _ => ?_
    exact congrFun (slotOrder_congr (by simp [acceptCounted]) (by simp [acceptCounted]) (by simp [acceptCounted])) k

/-- Outside RUN the law leaves nothing listed and nothing supplied. -/
theorem shedLaw_empty {s : State} (hlaw : shedLaw s = true) (h : s.plant.state ≠ .run) : s.shed.list = [] := by
  obtain ⟨-, -, -, -, -, -, hquiet⟩ := shedLaw_iff.mp hlaw
  exact (hquiet.resolve_left h).1

/-- The hamlet at entry to RUN. -/
theorem energise_spec {r s : State} (hlength : s.hamlet.entries.length = 48) (hrun : s.plant.state = .run)
    (hlist : s.shed.list = []) (htiers : ∀ i < 48, (s.circuit i).tier ≤ 3) (hrecord : ListAgree r s) :
    Supplied s (energise s) ∧
    (∀ i < 48, (energise s).circuit i = if (s.circuit i).state ≠ .dark then s.circuit i
      else if (s.circuit i).tier = 0 then { s.circuit i with state := .closed, disagree := 0, reclose := none }
      else { s.circuit i with state := .shed, reclose := none }) ∧
    (energise s).shed.list = ((runupOrder s.hamlet.entries).map fun i =>
      ⟨i, .runup, (s.circuit i).reading, s.secondOfDay⟩) ∧
    ListAgree ((runupOrder s.hamlet.entries).foldl (fun r i => appended i .runup r) r) (energise s) := by
  have hdark0 : ∀ {i}, i ∈ darkTier0 s.hamlet.entries ↔ i < 48 ∧ (s.circuit i).state = .dark ∧ (s.circuit i).tier = 0 :=
    fun {i} => by rw [mem_darkTier0_iff, hlength]
  have horder : ∀ {i}, i ∈ runupOrder s.hamlet.entries ↔
      i < 48 ∧ (s.circuit i).state = .dark ∧ (s.circuit i).tier ≠ 0 := by
    intro i
    by_cases hi : i < 48
    · rw [mem_runupOrder_iff (htiers i hi), hlength]
    · have htier : (s.circuit i).tier ≤ 3 := by rw [circuit_of_le (by omega)]; decide
      rw [mem_runupOrder_iff htier, hlength]
  rw [energise]
  obtain ⟨hclosed, hlength', hcircuit, hagree, hshed, hplant⟩ :=
    closeAll_spec (darkTier0_nodup s.hamlet.entries) hlength fun i hi => (hdark0.mp hi).1
  generalize (darkTier0 s.hamlet.entries).foldl (fun t i => moveCircuit i .closed t) s = u at *
  have hkept : ∀ i ∈ runupOrder s.hamlet.entries, u.circuit i = s.circuit i := by
    intro i hi
    rw [hcircuit, if_neg fun h => (horder.mp hi).2.2 (hdark0.mp h).2.2]
  have hlistAgree : ListAgree r u := by
    refine ⟨hrecord.agree.trans hagree, hshed.trans hrecord.shed, fun j => ?_⟩
    rw [← hrecord.reading, hcircuit]
    split
    · simp [Circuit.move]
    · rfl
  obtain ⟨hsupplied, hcircuit', hlist', hrecord'⟩ := shedAll_spec (runupOrder_nodup s) (r := r) (s := u)
    (hlength'.trans hlength) (by rw [hplant, hrun]) (fun i hi => by
      obtain ⟨hi48, hdark, htier⟩ := horder.mp hi
      rw [hkept i hi]
      exact ⟨hi48, hdark, by omega, by simp [State.listed, hshed, hlist]⟩) hlistAgree
  refine ⟨hclosed.trans hsupplied, fun i hi => ?_, ?_, hrecord'⟩
  · rw [hcircuit', hcircuit]
    by_cases hdark : (s.circuit i).state = .dark
    · have hnot : (s.circuit i).state ≠ .closed := by rw [hdark]; decide
      rw [if_neg (not_not.mpr hdark)]
      by_cases htier : (s.circuit i).tier = 0
      · rw [if_neg fun h => (horder.mp h).2.2 htier, if_pos (hdark0.mpr ⟨hi, hdark, htier⟩), if_pos htier,
          move_closed hnot]
      · rw [if_pos (horder.mpr ⟨hi, hdark, htier⟩), if_neg fun h => htier (hdark0.mp h).2.2, if_neg htier,
          move_of_open hnot (by decide) (by decide)]
    · rw [if_pos hdark, if_neg fun h => hdark (horder.mp h).2.1, if_neg fun h => hdark (hdark0.mp h).2.1]
  · have hsecond : u.secondOfDay = s.secondOfDay := by rw [State.secondOfDay, hagree.clock]; rfl
    rw [hlist', hshed, hlist, List.nil_append, hsecond]
    exact List.map_congr_left fun i hi => by rw [hkept i hi]

theorem energise_kept_but (s : State) :
    KeptBut [.plant, .water, .hamlet, .shed, .conds, .journal, .loop] s (energise (runEntered s)) := by
  intro b hb
  cases b <;> simp_all [Block.same, runEntered, acceptCounted]

/-- Settles O33. -/
theorem entryToRun : Obligations.EntryToRun := by
  intro s hstate hlaw htiers
  have hnot : s.plant.state ≠ .run := by rw [hstate]; decide
  have hempty := shedLaw_empty hlaw hnot
  obtain ⟨hlength, -⟩ := shedLaw_iff.mp hlaw
  obtain ⟨hplant, hwater, hrecord, hfollow⟩ := runEntered_spec s
  have hhamlet : (runEntered s).hamlet = s.hamlet := by simp [runEntered, acceptCounted]
  have hshed : (runEntered s).shed = s.shed := by simp [runEntered, acceptCounted]
  have hsaw : (runEntered s).saw = s.saw := by simp [runEntered, acceptCounted]
  have hcircuit : ∀ i, (runEntered s).circuit i = s.circuit i := fun i => by simp [State.circuit, hhamlet]
  have hlist : ListAgree (recorded .run .runupDone none s) (runEntered s) :=
    ⟨hrecord, by simp [hshed, recorded], fun j => by rw [hcircuit]; simp [recorded, State.circuit]⟩
  obtain ⟨hsupplied, hcircuits, hlisted, hagree⟩ := energise_spec (r := recorded .run .runupDone none s)
    (hhamlet ▸ hlength) (by rw [hplant]) (by rw [hshed, hempty]) (fun i hi => hcircuit i ▸ htiers i hi) hlist
  rw [hhamlet] at hlisted hagree
  have hmap : (energise (runEntered s)).shed.list.map (fun x => x.circuit) = runupOrder s.hamlet.entries := by
    rw [hlisted, List.map_map]
    exact List.map_id'' (fun _ => rfl) _
  refine ⟨_, congrArg Host.Outcome.next (runupAccepted_eq hstate), by simp [hplant], by simp [hwater],
    fun i hi => ?circuit, fun i hi => ?listed, by simp [hlisted], ?order, ?record, ?follow, ?kept⟩
  case circuit =>
    rw [hcircuits i hi, hcircuit]
  case listed =>
    have hmem := mem_runupOrder_iff (s := s) (htiers i hi)
    rw [Bool.eq_iff_iff]
    simp [State.listed, hlisted, hmem, hlength, hi]
  case order =>
    rw [hmap]
    exact runupOrder_pairwise s
  case record =>
    intro record
    have hsame : record = (runupOrder s.hamlet.entries).foldl (fun r i => appended i .runup r)
        (recorded .run .runupDone none s) := by
      rw [← hmap, List.foldl_map]
    rw [hsame]
    exact ⟨hagree.shed, hagree.agree.sameRecord⟩
  case follow =>
    refine (hfollow.trans hsupplied.follow fun k hback => ?_).slots
    match k with
    | 0 => rw [← hback]; simp [slotOrder]
    | 1 => simp [slotOrder, hsaw]
    | k + 2 => simp [slotOrder, positions, hcircuit]
  case kept => exact energise_kept_but s

end Sys2Proof.Proofs
end

section
namespace Sys2Proof.Proofs
open Sys2Proof.Machine Sys2Proof.Safety

/-! ## A REQUEST frame and the command that it carries (R173, R176, Table 10-3) -/

theorem param16_be16 (x : Word16) : param16 (byteOf (x.toNat / 256)) (byteOf x.toNat) = x := by
  refine BitVec.eq_of_toNat_eq ?_
  have hlt := x.isLt
  rw [param16, BitVec.toNat_append, byteOf, byteOf, BitVec.toNat_ofNat, BitVec.toNat_ofNat, ← Nat.shiftLeft_add_eq_or_of_lt
    (by omega), Nat.shiftLeft_eq]
  omega

theorem param32_be32 (x : Word32) : param32 (byteOf (x.toNat / 16777216)) (byteOf (x.toNat / 65536))
    (byteOf (x.toNat / 256)) (byteOf x.toNat) = x := by
  refine BitVec.eq_of_toNat_eq ?_
  have hlt := x.isLt
  have hbyte : ∀ (a n : Nat), a <<< 8 ||| n % 256 = a * 256 + n % 256 := fun a n => by
    rw [← Nat.shiftLeft_add_eq_or_of_lt (by omega), Nat.shiftLeft_eq]
  simp only [param32, BitVec.toNat_append, byteOf, BitVec.toNat_ofNat, Nat.reducePow, hbyte]
  omega

/-- A frame for the part from another sender is taken as the request that it carries. -/
theorem exec_request {own : Nat} {src : Byte} {payload : List Byte} {s : State} (hown : s.loop.ownAddress = own)
    (h1 : 1 ≤ own) (h62 : own ≤ 62) (hsrc : 1 ≤ src.toNat) (hsrc' : src.toNat ≤ 62) (hne : src.toNat ≠ own)
    (hlen : payload.length ≤ 64) :
    exec (.frameArrival (buildFrame own src.toNat 0x30 payload) false) s =
      .next (takeRequestFrame src.toNat payload (arrival .afterFrame s)) := by
  have hok : frameOk (buildFrame own src.toNat 0x30 payload) = true :=
    frameOk_buildFrame (by omega) hsrc hsrc' hlen
  have hafter : (arrival .afterFrame s).loop.ownAddress = own := by rw [arrival_loop]; exact hown
  have hframe : frameSrc (buildFrame own src.toNat 0x30 payload) = src.toNat := frameSrc_buildFrame (by omega)
  rw [exec_frameArrival_of_ok hok, handleFrame, hafter, hframe, if_neg hne, if_pos (frameDst_buildFrame (by omega)),
    consume, if_pos (frameKind_buildFrame (by omega)), hframe, framePayload_buildFrame (by omega)]

/-- A payload of a code and a tag goes to the owner of the code. -/
theorem takeRequestFrame_requestBytes {code : Nat} (hcode : code < 256) (src : Byte) (tag : Word16)
    (params extra : List Byte) (s : State) :
    takeRequestFrame src.toNat (requestBytes code tag params ++ extra) s =
      serve src tag code (owner code (params ++ extra)) s := by
  have hhandled : ∀ t, handlePayload src.toNat (requestBytes code tag params ++ extra) t =
      placeAnswer src.toNat tag code (owner code (params ++ extra) t) := by
    intro t
    have hpayload : requestBytes code tag params ++ extra =
        byteOf code :: byteOf (tag.toNat / 256) :: byteOf tag.toNat :: (params ++ extra) := rfl
    rw [hpayload, handlePayload, param16_be16, toNat_byteOf hcode]
  rw [takeRequestFrame, serve, funext hhandled]

/-- What a payload that no owner takes leads to does not depend on what follows it. -/
theorem takeRequestFrame_unknown {payload : List Byte} (hunknown : unknownPayload payload = true)
    (hlen : 3 ≤ payload.length) (src : Nat) (extra : List Byte) (s : State) :
    takeRequestFrame src (payload ++ extra) s = takeRequestFrame src payload s := by
  match payload, hlen with
  | code :: t1 :: t0 :: params, _ =>
    have hcode : code.toNat = 0 ∨ 13 < code.toNat := by
      simp only [unknownPayload, Bool.or_eq_true, beq_iff_eq, decide_eq_true_eq] at hunknown
      exact hunknown.imp_left fun h => by rw [h]; rfl
    have howner : ∀ (params : List Byte) (t : State), owner code.toNat params t = ⟨t, .unknownRequest, []⟩ := by
      intro params t
      generalize code.toNat = n at hcode
      unfold owner
      split <;> first | omega | rfl
    have hhandled : ∀ t, handlePayload src (code :: t1 :: t0 :: params ++ extra) t =
        handlePayload src (code :: t1 :: t0 :: params) t := fun t => by
      simp only [handlePayload, List.cons_append, howner]
    rw [takeRequestFrame, takeRequestFrame, funext hhandled]

/-- The owner of each request, with bytes after its parameters, does what the command does. WRITE ENTRIES takes
them as values, and a payload of no known code takes none. -/
theorem takeRequestFrame_eq_exec {i : Instr} {src : Byte} {payload : List Byte} (hwf : i.wf = true)
    (hrequest : i.request = some (src, payload)) {extra : List Byte}
    (hextra : extra = [] ∨ payload.head? ≠ some 2 ∧ 3 ≤ payload.length) (a : State) :
    Host.Outcome.next (takeRequestFrame src.toNat (payload ++ extra) a) = exec i a := by
  have howned : ∀ (code : Nat) (src : Byte) (tag : Word16) (params : List Byte) (f : State → Reply), code < 256 →
      owner code (params ++ extra) = f →
      takeRequestFrame src.toNat (requestBytes code tag params ++ extra) a = serve src tag code f a :=
    fun code src tag params f hcode hf => by rw [takeRequestFrame_requestBytes hcode, hf]
  cases i with
  | readEntries _ tag table first count =>
    cases hrequest
    exact congrArg _ (howned 1 _ _ _ _ (by decide) rfl)
  | writeEntries _ tag table first count values =>
    cases hrequest
    have hnil : extra = [] := hextra.resolve_right fun h => h.1 rfl
    refine congrArg _ (howned 2 _ _ _ _ (by decide) ?_)
    rw [hnil, List.append_nil]
    rfl
  | readStatus _ tag part =>
    cases hrequest
    exact congrArg _ (howned 3 _ _ _ _ (by decide) rfl)
  | readConditions _ tag =>
    cases hrequest
    exact congrArg _ (howned 4 _ _ _ _ (by decide) rfl)
  | acknowledge _ tag set =>
    cases hrequest
    exact congrArg _ (howned 5 _ _ _ (Machine.acknowledge set) (by decide)
      (congrArg Machine.acknowledge (param32_be32 set)))
  | setNotices _ tag set =>
    cases hrequest
    exact congrArg _ (howned 6 _ _ _ (Machine.setNotices set) (by decide)
      (congrArg Machine.setNotices (param32_be32 set)))
  | setPlantRunup _ tag =>
    cases hrequest
    exact congrArg _ (howned 7 _ _ _ _ (by decide) rfl)
  | setPlantStopped _ tag =>
    cases hrequest
    exact congrArg _ (howned 7 _ _ _ _ (by decide) rfl)
  | setPlantTripped _ tag =>
    cases hrequest
    exact congrArg _ (howned 7 _ _ _ _ (by decide) rfl)
  | setClock _ tag day second =>
    cases hrequest
    exact congrArg _ (howned 8 _ _ _ (Machine.setClock day second.toNat) (by decide)
      (congrArg₂ (fun d x => Machine.setClock d (BitVec.toNat x)) (param16_be16 day) (param32_be32 second)))
  | setTimeError _ tag te =>
    cases hrequest
    exact congrArg _ (howned 9 _ _ _ (Machine.setTimeError te.toInt) (by decide)
      (congrArg (fun x => Machine.setTimeError (BitVec.toInt x)) (param16_be16 te)))
  | circuitAdminOff _ tag circuit =>
    cases hrequest
    exact congrArg _ (howned 10 _ _ _ _ (by decide) rfl)
  | circuitAdminOn _ tag circuit =>
    cases hrequest
    exact congrArg _ (howned 10 _ _ _ _ (by decide) rfl)
  | releaseLockout _ tag circuit =>
    cases hrequest
    exact congrArg _ (howned 10 _ _ _ _ (by decide) rfl)
  | clearEnergy _ tag circuit =>
    cases hrequest
    exact congrArg _ (howned 10 _ _ _ _ (by decide) rfl)
  | journalFind _ tag start kind subject =>
    cases hrequest
    exact congrArg _ (howned 11 _ _ _ (Machine.journalFind start.toNat kind.toNat subject.toNat) (by decide)
      (congrArg (fun x => Machine.journalFind (BitVec.toNat x) kind.toNat subject.toNat) (param32_be32 start)))
  | journalRead _ tag seq =>
    cases hrequest
    exact congrArg _ (howned 12 _ _ _ (Machine.journalRead seq.toNat) (by decide)
      (congrArg (fun x => Machine.journalRead (BitVec.toNat x)) (param32_be32 seq)))
  | restart _ tag =>
    cases hrequest
    exact congrArg _ (howned 13 _ _ _ _ (by decide) rfl)
  | unknownRequest _ _ =>
    cases hrequest
    refine congrArg Host.Outcome.next ?_
    rcases hextra with rfl | ⟨-, hlen⟩
    · rw [List.append_nil]
    · have hwf' : (sourceOk src && payloadOk payload && unknownPayload payload) = true := hwf
      rw [Bool.and_eq_true] at hwf'
      exact takeRequestFrame_unknown hwf'.2 hlen _ _ _
  | _ => cases hrequest

end Sys2Proof.Proofs
end

section
namespace Sys2Proof.Proofs
open Sys2Proof.Machine Sys2Proof.Safety

/-- A well-formed request has a sender that a frame may have, and a payload that a frame may carry. -/
theorem request_carried {i : Instr} (hwf : i.wf = true) {x : Byte × List Byte} (hx : i.request = some x) :
    1 ≤ x.1.toNat ∧ x.1.toNat ≤ 62 ∧ x.2.length ≤ 64 := by
  cases i with
  | readEntries => exact Laws.RequestPayload.readEntries _ _ _ _ _ hwf x hx
  | writeEntries => exact Laws.RequestPayload.writeEntries _ _ _ _ _ _ hwf x hx
  | readStatus => exact Laws.RequestPayload.readStatus _ _ _ hwf x hx
  | readConditions => exact Laws.RequestPayload.readConditions _ _ hwf x hx
  | acknowledge => exact Laws.RequestPayload.acknowledge _ _ _ hwf x hx
  | setNotices => exact Laws.RequestPayload.setNotices _ _ _ hwf x hx
  | setPlantRunup => exact Laws.RequestPayload.setPlantRunup _ _ hwf x hx
  | setPlantStopped => exact Laws.RequestPayload.setPlantStopped _ _ hwf x hx
  | setPlantTripped => exact Laws.RequestPayload.setPlantTripped _ _ hwf x hx
  | setClock => exact Laws.RequestPayload.setClock _ _ _ _ hwf x hx
  | setTimeError => exact Laws.RequestPayload.setTimeError _ _ _ hwf x hx
  | circuitAdminOff => exact Laws.RequestPayload.circuitAdminOff _ _ _ hwf x hx
  | circuitAdminOn => exact Laws.RequestPayload.circuitAdminOn _ _ _ hwf x hx
  | releaseLockout => exact Laws.RequestPayload.releaseLockout _ _ _ hwf x hx
  | clearEnergy => exact Laws.RequestPayload.clearEnergy _ _ _ hwf x hx
  | journalFind => exact Laws.RequestPayload.journalFind _ _ _ _ _ hwf x hx
  | journalRead => exact Laws.RequestPayload.journalRead _ _ _ hwf x hx
  | restart => exact Laws.RequestPayload.restart _ _ hwf x hx
  | unknownRequest => exact Laws.RequestPayload.unknownRequest _ _ hwf x hx
  | _ => cases hx

/-! ## Parameters that carry no command -/

/-- The parameter bytes that a code needs (Table 10-3). -/
def neededBytes (code : Nat) : Nat := [0, 3, 3, 1, 0, 4, 4, 1, 6, 2, 2, 6, 4, 0].getD code 0

/-- Parameters shorter than the code needs are BAD_VALUE; SET PLANT answers with state and cause (R176, R186). -/
theorem owner_of_short {code : Nat} {params : List Byte} (hcode : 1 ≤ code) (hcode' : code ≤ 13)
    (h : params.length < neededBytes code) (s : State) : owner code params s =
      ⟨s, .badValue, if code = 7 then [byteOf s.plant.state.code, byteOf s.plant.cause.code] else []⟩ := by
  have hsplit : ∀ {n : Nat}, params.length < n → n ≤ 6 → params = [] ∨ (∃ a, params = [a]) ∨
      (∃ a b, params = [a, b]) ∨ (∃ a b c, params = [a, b, c]) ∨ (∃ a b c d, params = [a, b, c, d]) ∨
      ∃ a b c d e, params = [a, b, c, d, e] := by
    intro n hn hn'
    match params, hn with
    | [], _ => simp
    | [a], _ => simp
    | [a, b], _ => simp
    | [a, b, c], _ => simp
    | [a, b, c, d], _ => simp
    | [a, b, c, d, e], _ => simp
    | _ :: _ :: _ :: _ :: _ :: _ :: _, hn => simp only [List.length_cons] at hn; omega
  have hfew : neededBytes code ≤ 6 := by interval_cases code <;> decide
  rcases hsplit h hfew with rfl | ⟨a, rfl⟩ | ⟨a, b, rfl⟩ | ⟨a, b, c, rfl⟩ | ⟨a, b, c, d, rfl⟩ | ⟨a, b, c, d, e, rfl⟩ <;>
    interval_cases code <;> first | rfl | exact absurd h (by simp [neededBytes])

theorem setPlant_of_active {target : Byte} (h : target = 2 ∨ target = 3) (s : State) :
    setPlant target.toNat s = plantReply .wrongState s := by
  rcases h with rfl | rfl <;> rfl

theorem setPlant_of_unknown {target : Nat} (h : 4 < target) (s : State) :
    setPlant target s = plantReply .badValue s := by
  unfold setPlant
  split <;> first | omega | rfl

/-- Settles O16. -/
theorem frameCarriesRequest : Obligations.FrameCarriesRequest := by
  refine ⟨?carried, ?loose⟩
  case carried =>
    intro i src payload f s hwf hrequest hframe h1 h62 hne
    obtain ⟨hsrc, hsrc', hlen⟩ := request_carried hwf hrequest
    have hbuilt : f = buildFrame s.loop.ownAddress src.toNat 0x30 payload := by
      rw [Instr.requestFrame, hrequest] at hframe
      exact (Option.some.inj hframe).symm
    rw [hbuilt, exec_request rfl h1 h62 hsrc hsrc' hne hlen]
    have hexec := takeRequestFrame_eq_exec hwf hrequest (extra := []) (.inl rfl) (arrival .afterFrame s)
    rwa [List.append_nil] at hexec
  case loose =>
    intro src tag extra s hsrc hsrc' hne h1 h62 a arrives request answers now needs
    have harrives : ∀ payload : List Byte, payload.length ≤ 64 →
        arrives payload = .next (takeRequestFrame src.toNat payload a) := fun payload hlen =>
      exec_request rfl h1 h62 hsrc hsrc' hne hlen
    have hroom : a.answerRoom = s.answerRoom := by
      simp only [a, State.answerRoom, arrival_loop]
    have hplant : (holding a).plant = s.plant := by
      simp only [holding, a, arrival_frame]
    have hcircuit : ∀ i, (holding a).circuit i = s.circuit i := fun i => by
      simp only [State.circuit, holding, a, arrival_frame]
    have hanswers : s.answerRoom = true → ∀ (code : Nat) (params : List Byte) (o : ReqOutcome) (data : List Byte),
        code < 256 → params.length ≤ 61 → owner code params (holding a) = ⟨holding a, o, data⟩ →
        answers code params o data := by
      intro hfree code params o data hcode hlen howner
      have hlen' : (request code params).length ≤ 64 := by
        simp only [request, List.length_append, List.length_cons, List.length_nil, length_be16]
        omega
      have hbytes : request code params = requestBytes code tag params ++ [] := (List.append_nil _).symm
      rw [show answers code params o data = (arrives (request code params) = _) from rfl, harrives _ hlen', hbytes,
        takeRequestFrame_requestBytes hcode, List.append_nil,
        serve_eq_answered_of_holding src tag code (hroom.trans hfree) howner]
    refine ⟨fun i payload hwf hrequest hhead hlen htotal => ?more, fun hlen hfull => ?full, fun hfree => ⟨?short,
      fun target hlen => ⟨fun htarget => ?active, fun htarget => ?target⟩,
      fun i action hlen haction => ⟨fun hbad => ?circuit, fun hi habsent => ?action⟩⟩⟩
    case more =>
      rw [harrives _ htotal]
      exact takeRequestFrame_eq_exec hwf hrequest (.inr ⟨hhead, hlen⟩) a
    case full =>
      rw [harrives _ hlen, takeRequestFrame, admitRequest, hroom, hfull]
      rfl
    case short =>
      intro code hcode hcode' hlen
      have hfew : neededBytes code ≤ 6 := by interval_cases code <;> decide
      have hlen' : extra.length < neededBytes code := hlen
      refine hanswers hfree code extra _ _ (by omega) (by omega) ?_
      rw [owner_of_short hcode hcode' hlen', hplant]
    case active =>
      refine hanswers hfree 7 _ _ _ (by decide) (by simp; omega) ?_
      refine (setPlant_of_active htarget (holding a)).trans ?_
      rw [plantReply, hplant]
    case target =>
      refine hanswers hfree 7 _ _ _ (by decide) (by simp; omega) ?_
      refine (setPlant_of_unknown htarget (holding a)).trans ?_
      rw [plantReply, hplant]
    case circuit =>
      refine hanswers hfree 10 _ _ _ (by decide) (by simp; omega) ?_
      exact if_pos (by rw [hcircuit]; exact hbad)
    case action =>
      refine hanswers hfree 10 _ _ _ (by decide) (by simp; omega) ?_
      refine (if_neg (by rw [hcircuit, not_or]; exact ⟨by omega, habsent⟩)).trans ?_
      rw [if_neg (by omega), if_neg (by omega), if_neg (by omega), if_neg (by omega)]

end Sys2Proof.Proofs
end

section
namespace Sys2Proof.Proofs
open Sys2Proof.Machine Sys2Proof.Safety

/-! ## READ ENTRIES (R177) -/

/-- A span of a table that is there is read, or refused. -/
theorem readEntries_of_table {s : State} {id size : Nat} (h : s.tableEntries id = some size) (first count : Nat) :
    readEntries id first count s = if count = 0 ∨ size < first + count ∨ 58 < count * readSize id then
      ⟨s, .badSpan, []⟩ else ⟨s, .done, (List.range count).flatMap fun k => s.entryBytes id (first + k)⟩ := by
  rw [readEntries, h]

/-- The place that a request holds is no part of what a table reads. -/
theorem entryBytes_holding (s : State) (id i : Nat) : (holding s).entryBytes id i = s.entryBytes id i := by
  unfold State.entryBytes
  split <;> rfl

theorem tableEntries_holding (s : State) (id : Nat) : (holding s).tableEntries id = s.tableEntries id := by
  unfold State.tableEntries
  split <;> rfl

/-- A table that is read as `image` says. -/
theorem exec_readEntries {s : State} (src : Byte) (tag : Word16) {table : Byte} {size width : Nat}
    {image : Nat → List Byte} (hroom : s.answerRoom = true) (hsize : s.tableEntries table.toNat = some size)
    (hwidth : readSize table.toNat = width) (himage : ∀ k < size, s.entryBytes table.toNat k = image k)
    (first count : Byte) :
    ((count = 0 ∨ size < first.toNat + count.toNat ∨ 58 < count.toNat * width) →
      exec (.readEntries src tag table first count) s = .next (answered src tag 1 .badSpan [] s)) ∧
    (1 ≤ count.toNat → first.toNat + count.toNat ≤ size → count.toNat * width ≤ 58 →
      exec (.readEntries src tag table first count) s = .next (answered src tag 1 .done
        ((List.range count.toNat).flatMap fun k => image (first.toNat + k)) s)) := by
  have hread := readEntries_of_table ((tableEntries_holding s table.toNat).trans hsize) first.toNat count.toNat
  rw [hwidth] at hread
  refine ⟨fun hbad => ?_, fun hcount hspan hwidth => ?_⟩
  · refine congrArg Host.Outcome.next (serve_eq_answered_of_holding src tag _ hroom (hread.trans (if_pos ?_)))
    exact hbad.imp_left fun h => by rw [h]; rfl
  · refine congrArg Host.Outcome.next (serve_eq_answered_of_holding src tag _ hroom
      ((hread.trans (if_neg (by omega))).trans ?_))
    congr 1
    refine List.flatMap_congr fun k hk => ?_
    rw [List.mem_range] at hk
    rw [entryBytes_holding, himage _ (by omega)]

theorem tableEntries_of_unknown {s : State} {id : Nat} (h : id = 0 ∨ 10 < id) : s.tableEntries id = none := by
  unfold State.tableEntries
  split <;> first | omega | rfl

/-- A circuit entry as Table 10-6 lays it out. -/
theorem circuitBytes_eq (s : State) (k : Nat) : s.circuitBytes k =
    [if (s.circuit k).present then 1 else 0] ++ be16 (s.circuit k).label ++ [byteOf (s.circuit k).tier] ++
      be16 (s.circuit k).dayAllow ++ be16 (s.circuit k).eveningAllow ++ be16 (s.circuit k).nightAllow ++
      [byteOf (s.circuit k).state.code, byteOf (s.circuit k).overCount, byteOf (s.circuit k).strikes] ++
      be16 ((s.circuit k).reclose.getD 0) ++ be16 (s.circuit k).reading ++
      [match (s.circuit k).report with
        | .opened => 0
        | .closed => 1
        | .failed => 2
        | .unknown => 3, byteOf (s.circuit k).disagree] ++
      be32 (s.circuit k).energy ++ [if (s.feeder (k / 8)).silent then 1 else 0] := by
  rw [State.circuitBytes]
  cases (s.circuit k).report <;> rfl

/-- A set of members, of the number that a list of them has. -/
theorem setBits_of_length {l : List Bool} {n : Nat} (h : l.length = n) :
    setBits l = bitsOf n fun k => l.getD k false := h ▸ setBits_eq_bitsOf l

/-! ## READ STATUS and READ CONDITIONS (R161, R181) -/

theorem shaftSpeed_getD (s : State) : s.shaftSpeed.getD 65535 = (match s.edge.toothPeriod with
    | none => 65535
    | some 0 => min 65534 (Config.speedOfZeroPeriod (s.setting Setting.TEETH))
    | some p => min 65534 (120000000 / (p * s.setting Setting.TEETH))) := by
  rw [State.shaftSpeed]
  cases s.edge.toothPeriod with
  | none => rfl
  | some p => cases p <;> rfl

theorem plantSeconds_eq (s : State) : s.plantSeconds = (match s.plant.state with
    | .runup => s.plant.runupTimer.getD 0
    | .stopping => s.plant.stopTimer.getD 0
    | _ => 0) := by
  rw [State.plantSeconds]
  cases s.plant.state <;> rfl

theorem banksOn_eq (b : Firing) : b.banksOn = [b.step1, b.step2, b.step3].countP fun x => x := by
  rw [Firing.banksOn]
  cases b.step1 <;> cases b.step2 <;> cases b.step3 <;> rfl

theorem msBytes_eq (x : Option Nat) : msBytes x = be32 (match x with
    | some counts => counts / 2000
    | none => 4294967295) := by
  cases x <;> rfl

theorem demandAverage_getD (s : State) : s.demandAverage.getD 0 =
    if s.water.demandCount = 0 then 0 else s.water.demandSum / s.water.demandCount := by
  rw [State.demandAverage]
  split <;> rfl

theorem demandAverage_isSome (s : State) : s.demandAverage.isSome = (s.water.demandCount != 0) := by
  rw [State.demandAverage]
  by_cases h : s.water.demandCount = 0 <;> simp [h]

theorem signalCode_eq (x : Signal) : byteOf x.code = if (x == .present) = true then 1 else 0 := by
  cases x <;> rfl

theorem dayBytes_eq (s : State) : s.dayBytes = be16 (match s.time.clock with
    | some c => c.day.toNat
    | none => 0) := by
  rw [State.dayBytes]
  cases s.time.clock <;> rfl

theorem readStatus_of_unknown {n : Nat} (h : 3 < n) (s : State) : readStatus n s = ⟨s, .badValue, []⟩ := by
  unfold readStatus
  split <;> first | omega | rfl

/-- An admitted request of an unknown code (R176). -/
theorem owner_of_unknown {code : Nat} (h : code = 0 ∨ 13 < code) (params : List Byte) (s : State) :
    owner code params s = ⟨s, .unknownRequest, []⟩ := by
  unfold owner
  split <;> first | omega | rfl

/-- Every request finds the answer queue full or is served. -/
theorem exec_of_full {i : Instr} {x : Byte × List Byte} {s : State} (hrequest : i.request = some x)
    (hfull : s.answerRoom = false) : exec i s = .next (raise .loopOverrun none s) := by
  have hadmit : ∀ f, admitRequest f s = raise .loopOverrun none s := fun f => by
    rw [admitRequest, hfull]
    rfl
  cases i with
  | readEntries | writeEntries | readStatus | readConditions | acknowledge | setNotices | setPlantRunup
  | setPlantStopped | setPlantTripped | setClock | setTimeError | circuitAdminOff | circuitAdminOn | releaseLockout
  | clearEnergy | journalFind | journalRead | restart | unknownRequest => exact congrArg Host.Outcome.next (hadmit _)
  | _ => cases hrequest

/-- Settles O54. -/
theorem readingRequests : Obligations.ReadingRequests := by
  intro src tag s set flag ms cell seconds speed banks plant average water hamlet saw circuit shed marks directory reads
  have hset : ∀ l, set l = byteOf (setBits l) := fun l => by rw [setBits_eq_bitsOf]
  have hstatus : ∀ (n : Byte) (data : List Byte), s.answerRoom = true →
      readStatus n.toNat (holding s) = ⟨holding s, .done, data⟩ →
      exec (.readStatus src tag n) s = .next (answered src tag 3 .done data s) := fun n data hroom h =>
    congrArg Host.Outcome.next (serve_eq_answered_of_holding src tag _ hroom h)
  have hplant : s.section0 = plant := by
    simp only [State.section0, State.plantFields, State.governorFields, State.timeFields, shaftSpeed_getD,
      plantSeconds_eq, banksOn_eq, signalCode_eq, dayBytes_eq, plant, hset]
    simp only [List.append_assoc]
    rfl
  have hwater : s.section1 = water := by
    simp only [State.section1, State.knownSet, demandAverage_getD, demandAverage_isSome, water, hset]
    rfl
  have hhamlet : s.section2 = hamlet := by
    simp only [State.section2, msBytes_eq, hamlet, hset]
    rfl
  have hsaw : s.section3 = saw := by
    simp only [State.section3, Saw.fields, LoopPort.fields, Saw.timersSet, Order.payload, saw, hset]
    simp only [List.append_assoc]
    rfl
  refine ⟨fun i x hrequest hfull => exec_of_full hrequest hfull, fun hroom => ?served⟩
  have hread : ∀ (table : Byte) (size width : Nat) (image : Nat → List Byte), s.tableEntries table.toNat = some size →
      readSize table.toNat = width → (∀ k < size, s.entryBytes table.toNat k = image k) → reads table size width image :=
    fun table size width image hsize hwidth himage => exec_readEntries src tag hroom hsize hwidth himage
  have hnodeMap := hread 1 9 1 (fun k => [byteOf (s.address k)]) rfl rfl fun _ _ => rfl
  have hsettings := hread 2 57 2 (fun k => be16 (s.setting k)) rfl rfl fun _ _ => rfl
  have hfiringMap := hread 3 65 2 (fun k => be16 (s.tables.firingMap.vals.getD k 0)) rfl rfl fun _ _ => rfl
  have hweir := hread 4 33 2 (fun k => be16 (s.tables.weir.vals.getD k 0)) rfl rfl fun _ _ => rfl
  have hpondCurve := hread 5 17 2 (fun k => be16 (s.tables.pondCurve.vals.getD k 0)) rfl rfl fun _ _ => rfl
  have hfeedCurve := hread 6 17 2 (fun k => be16 (s.tables.feedCurve.vals.getD k 0)) rfl rfl fun _ _ => rfl
  have hwindows := hread 7 3 4 (fun k =>
      be16 (s.tables.windows.getD k (0, 0)).1 ++ be16 (s.tables.windows.getD k (0, 0)).2) rfl rfl fun _ _ => rfl
  have hcircuits := hread 8 48 24 circuit rfl rfl fun k _ => circuitBytes_eq s k
  have hlist := hread 9 s.shed.list.length 8 (fun k => ((s.shed.list[k]?).map shed).getD []) rfl rfl fun _ _ => rfl
  have hdirectory := hread 10 10 4 (fun k => directory.getD k []) rfl rfl fun k hk => by interval_cases k <;> rfl
  refine ⟨fun table first count htable => ?badTable, hnodeMap, hsettings, hfiringMap, hweir, hpondCurve, hfeedCurve,
    hwindows, hcircuits, hlist, hdirectory,
    hstatus 0 _ hroom (by rw [← hplant]; rfl), hstatus 1 _ hroom (by rw [← hwater]; rfl),
    fun _ => hstatus 2 _ hroom (by rw [← hhamlet]; rfl), fun _ => hstatus 3 _ hroom (by rw [← hsaw]; rfl),
    ?plantLength, ?waterLength, ?hamletLength, ?sawLength, fun n hn => ?part, fun hlength => ?conditions,
    fun code t1 t0 params hcode => ?unknown, fun payload hshort => ?tooShort⟩
  case badTable =>
    refine congrArg Host.Outcome.next (serve_eq_answered_of_holding src tag _ hroom ?_)
    rw [readEntries, tableEntries_of_unknown (htable.imp_left fun h => by rw [h]; rfl)]
  case plantLength => simp [plant, sbe16]
  case waterLength => rfl
  case hamletLength => rfl
  case sawLength => rfl
  case part =>
    exact congrArg Host.Outcome.next (serve_eq_answered_of_holding src tag _ hroom (readStatus_of_unknown hn _))
  case conditions =>
    refine congrArg Host.Outcome.next (serve_eq_answered_of_holding src tag _ hroom ?_)
    have hcells : s.conds = (List.range 25).map cell := by
      refine List.ext_getElem (by simp [hlength]) fun n h _ => ?_
      simp [cell, h]
    have hconds : (holding s).conds = (List.range 25).map cell := hcells
    rw [readConditions, hconds, flagSet, noticeSet, causeSet, List.map_map, List.map_map, List.map_map, List.map_map,
      setBits_map_range, setBits_map_range, setBits_map_range]
    rfl
  case unknown =>
    refine congrArg Host.Outcome.next ?_
    have hcode' : code.toNat = 0 ∨ 13 < code.toNat := hcode.imp_left fun h => by rw [h]; rfl
    rw [takeRequestFrame, admitRequest, hroom, if_pos rfl, handlePayload, owner_of_unknown hcode']
    rfl
  case tooShort =>
    have hfew : ∀ t, handlePayload src.toNat payload t = setHeld false t := fun t => by
      match payload, hshort with
      | [], _ => rfl
      | [_], _ => rfl
      | [_, _], _ => rfl
    refine ⟨setHeld false (setHeld true s), congrArg Host.Outcome.next ?_, rfl, fun hheld => ?_⟩
    · rw [takeRequestFrame, admitRequest, hroom, if_pos rfl, hfew]
    · rw [setHeld, setHeld, State.mapLoop, State.mapLoop, ← hheld]

end Sys2Proof.Proofs
end

section
namespace Sys2Proof.Proofs
open Sys2Proof.Machine Sys2Proof.Safety

/-! ## The parts of a count, and the counter (R1, assumption 5) -/

/-- An operation in parts is their fold, where each part is one on every state of a kind that all keep. -/
theorem foldl_andThen {P : State → Prop} {fs : List (State → Host.Outcome State Fault Refusal)}
    {gs : List (State → State)} (h : List.Forall₂ (fun f g => ∀ x, P x → f x = .next (g x)) fs gs)
    (hkeep : ∀ g ∈ gs, ∀ x, P x → P (g x)) {x : State} (hx : P x) :
    fs.foldl andThen (.next x) = .next (gs.foldl (fun y g => g y) x) ∧ P (gs.foldl (fun y g => g y) x) := by
  induction h generalizing x with
  | nil => exact ⟨rfl, hx⟩
  | cons hfirst _ ih =>
    obtain ⟨hkeepFirst, hkeepRest⟩ := List.forall_mem_cons.mp hkeep
    rw [List.foldl_cons, List.foldl_cons, show andThen (.next x) _ = _ from hfirst x hx]
    exact ih hkeepRest (hkeepFirst x hx)

/-- A command that is done where something is due. -/
theorem doing_eq {due : Bool} {p : Prop} [Decidable p] (hdue : due = true ↔ p) {c : Instr} {x y : State}
    (h : exec c x = .next y) :
    (if due = true then exec c x else Host.Outcome.next x) = .next (if p then y else x) := by
  by_cases hp : p
  · rw [if_pos (hdue.mpr hp), if_pos hp, h]
  · rw [if_neg (mt hdue.mp hp), if_neg hp]

theorem completionTest_edge (s : State) : (completionTest s).edge = s.edge := by simp

theorem lossTimerCount_timebase (s : State) : (lossTimerCount s).edge.timebase = s.edge.timebase := by
  unfold lossTimerCount lossTimerExpires signalEntersLost plantSignalLost
  dsimp only
  split
  · split
    · simp
    · rfl
  · rfl

theorem toothSilenceCount_timebase (s : State) : (toothSilenceCount s).edge.timebase = s.edge.timebase := by
  unfold toothSilenceCount toothSilenceExpires raiseShaft
  dsimp only
  split
  · split
    · split <;> simp
    · rfl
  · rfl

theorem validPeriod_timebase (t : Count) (p lag : Nat) (s : State) :
    (Machine.validPeriod t p lag s).edge.timebase = s.edge.timebase := by
  unfold Machine.validPeriod validPeriodInOrder recoverSignal signalEntersPresent raiseShaft
  dsimp only
  split
  · split <;> simp [storePeriod]
  · simp [storePeriod]

theorem crossingEdge_timebase (t : Count) (lag : Nat) (s : State) :
    (crossingEdge t lag s).edge.timebase = s.edge.timebase := by
  unfold crossingEdge
  split
  · rfl
  · exact validPeriod_timebase _ _ _ s
  · simp [gapEdge]

theorem toothEdge_timebase (t : Count) (s : State) : (toothEdge t s).edge.timebase = s.edge.timebase := by
  have hcause : ∀ u, (endShaftCause u).edge.timebase = u.edge.timebase := fun u => by
    unfold endShaftCause
    split <;> simp
  have hbase : (endShaftCause (recordTooth t s)).edge.timebase = s.edge.timebase := hcause _
  unfold toothEdge toothPeriod
  dsimp only
  split
  · split
    · simpa using hbase
    · exact hbase
  · exact hbase

theorem sampleXing_timebase (s : State) : (sampleXing s).edge.timebase = s.edge.timebase := by
  unfold sampleXing
  dsimp only
  split
  · split
    · rw [crossingEdge_timebase]; rfl
    · rfl
  · rfl

theorem sampleTooth_timebase (s : State) : (sampleTooth s).edge.timebase = s.edge.timebase := by
  unfold sampleTooth
  dsimp only
  split
  · split
    · rw [toothEdge_timebase]; rfl
    · rfl
  · rfl

/-! ## The inputs at a count that samples them (R2) -/

/-- The time of the first sample of a filter's run. -/
def runStartAt (now : Count) (f : InputFilter) : Count := if f.run = 0 then now else f.runStart

/-- A sample is accepted. -/
def sampleAccepted (pin : Bool) (length : Nat) (f : InputFilter) : Bool :=
  pin != f.level && decide (length ≤ f.run + 1)

/-- The filter after a sample. -/
def sampledFilter (now : Count) (pin : Bool) (length : Nat) (f : InputFilter) : InputFilter :=
  if pin = f.level then { f with run := 0 }
  else if length ≤ f.run + 1 then ⟨pin, 0, runStartAt now f⟩
  else ⟨f.level, f.run + 1, runStartAt now f⟩

theorem sample_eq (pin : Bool) (now : Count) (length : Nat) (f : InputFilter) :
    f.sample pin now length = (sampledFilter now pin length f,
      if sampleAccepted pin length f = true then some (runStartAt now f) else none) := by
  unfold InputFilter.sample sampledFilter sampleAccepted
  by_cases hsame : pin = f.level
  · simp [hsame]
  by_cases hlong : length ≤ f.run + 1
  · simp [hsame, hlong, runStartAt]
  · simp [hsame, hlong, runStartAt]

theorem sampledFilter_of_accepted {now : Count} {pin : Bool} {length : Nat} {f : InputFilter}
    (h : sampleAccepted pin length f = true) : sampledFilter now pin length f = ⟨pin, 0, runStartAt now f⟩ := by
  obtain ⟨hpin, hlong⟩ := Bool.and_eq_true_iff.mp h
  rw [sampledFilter, if_neg (by simpa using hpin), if_pos (by simpa using hlong)]

/-- The filter of XING after a sample. -/
def xingSampled (now : Count) (x : State) : InputFilter :=
  sampledFilter now x.pins.xing (x.setting Setting.CROSS_FILTER) x.edge.xing

/-- The filter of TOOTH after a sample. -/
def toothSampled (now : Count) (x : State) : InputFilter :=
  sampledFilter now x.pins.tooth (x.setting Setting.TOOTH_FILTER) x.edge.tooth

theorem sampleXing_eq {now : Count} {x : State} (hnow : x.edge.timebase = now) :
    (if (x.pins.xing && sampleAccepted x.pins.xing (x.setting Setting.CROSS_FILTER) x.edge.xing) = true then
      exec (.acceptedRisingCrossingEdge (runStartAt now x.edge.xing)
          (now - runStartAt now x.edge.xing).toNat)
        { x with edge := { x.edge with xing := xingSampled now x } }
    else .next { x with edge := { x.edge with xing := xingSampled now x } }) =
      .next (sampleXing x) := by
  subst hnow
  rw [sampleXing, sample_eq, xingSampled]
  cases hacc : sampleAccepted x.pins.xing (x.setting Setting.CROSS_FILTER) x.edge.xing with
  | false => rw [Bool.and_false]; rfl
  | true =>
    rw [sampledFilter_of_accepted hacc, Bool.and_true]
    cases hpin : x.pins.xing <;> rfl

theorem sampleTooth_eq {now : Count} {x : State} (hnow : x.edge.timebase = now) :
    (if (x.pins.tooth && sampleAccepted x.pins.tooth (x.setting Setting.TOOTH_FILTER) x.edge.tooth) = true then
      exec (.acceptedRisingToothEdge (runStartAt now x.edge.tooth))
        { x with edge := { x.edge with tooth := toothSampled now x } }
    else .next { x with edge := { x.edge with tooth := toothSampled now x } }) =
      .next (sampleTooth x) := by
  subst hnow
  rw [sampleTooth, sample_eq, toothSampled]
  cases hacc : sampleAccepted x.pins.tooth (x.setting Setting.TOOTH_FILTER) x.edge.tooth with
  | false => rw [Bool.and_false]; rfl
  | true =>
    rw [sampledFilter_of_accepted hacc, Bool.and_true]
    cases hpin : x.pins.tooth <;> rfl

end Sys2Proof.Proofs
end

section
namespace Sys2Proof.Proofs
open Sys2Proof.Machine Sys2Proof.Safety

/-! ## A count is its parts in their order (assumption 5) -/

/-- The parts of a count after the pass of the timers, each on the state that the one before it leaves. -/
def countParts (now : Count) : List (State → State) :=
  [lossTimerCount, toothSilenceCount, signalLossCount, collapseCount, freqOverspeedCount, reserveCount,
    settleCount, confirmCount, rundownCount, loopSilenceCount, pulseEndCount, pulseStartCount,
    fun x => if now.toNat % 16 = 0 then sampleXing x else x,
    fun x => if now.toNat % 16 = 0 then sampleTooth x else x,
    intervalsCount, dividerCount, lineCount]

theorem timersCount_timebase (s : State) : (timersCount s).edge.timebase = s.edge.timebase := by
  simp [timersCount, toothSilenceCount_timebase, lossTimerCount_timebase, timersPass, State.mapEdge, State.mapPlant,
    State.mapSaw, State.mapLoop]

theorem tick_eq_parts (s : State) :
    tick s = (countParts (s.edge.timebase + 1)).foldl (fun x g => g x) (timersPass (timebaseCount s)) := by
  have hnow : (pulseStartCount (pulseEndCount (timersCount (timebaseCount s)))).edge.timebase =
      s.edge.timebase + 1 := by
    simp only [pulseStartCount_frame, pulseEndCount_frame, timersCount_timebase]
    rfl
  have hsamples : samplesCount (pulseStartCount (pulseEndCount (timersCount (timebaseCount s)))) =
      if (s.edge.timebase + 1).toNat % 16 = 0 then
        sampleTooth (sampleXing (pulseStartCount (pulseEndCount (timersCount (timebaseCount s)))))
      else pulseStartCount (pulseEndCount (timersCount (timebaseCount s))) := by
    rw [samplesCount, hnow]
  rw [tick, hsamples, countParts]
  by_cases h : (s.edge.timebase + 1).toNat % 16 = 0
  · simp only [if_pos h, List.foldl_cons, List.foldl_nil, timersCount]
  · simp only [if_neg h, List.foldl_cons, List.foldl_nil, timersCount]

theorem pulseEndCount_eq (x : State) :
    pulseEndCount x = if ((firstIn .delivering x.firing.pulses).any fun p => p.stop == x.edge.timebase) = true
      then endPulse x else x := by
  rw [pulseEndCount]
  cases firstIn .delivering x.firing.pulses <;> simp

theorem pulseStartCount_eq (x : State) :
    pulseStartCount x = if ((firstIn .waiting x.firing.pulses).any fun p => p.start == x.edge.timebase) = true
      then startPulse x else x := by
  rw [pulseStartCount]
  cases firstIn .waiting x.firing.pulses <;> simp

theorem dividerCount_eq (x : State) :
    dividerCount x = if x.time.divider + 1 < 2000000 then
        { x with time := { x.time with divider := x.time.divider + 1 } }
      else Machine.millSecond x := by
  rw [dividerCount]
  by_cases h : x.time.divider + 1 < 2000000
  · rw [if_pos h, if_neg (by omega)]; rfl
  · rw [if_neg h, if_pos (by omega)]

theorem pulseEndCount_due {now : Count} {x : State} (h : x.edge.timebase = now) :
    (if ((firstIn .delivering x.firing.pulses).any fun p => p.stop == now) = true then exec .trimPulseEnd x
      else .next x) = .next (pulseEndCount x) := by
  rw [pulseEndCount_eq, h]
  exact doing_eq Iff.rfl rfl

theorem pulseStartCount_due {now : Count} {x : State} (h : x.edge.timebase = now) :
    (if ((firstIn .waiting x.firing.pulses).any fun p => p.start == now) = true then exec .trimPulseStart x
      else .next x) = .next (pulseStartCount x) := by
  rw [pulseStartCount_eq, h]
  exact doing_eq Iff.rfl rfl

theorem dividerCount_due (x : State) :
    (if x.time.divider + 1 < 2000000 then
        Host.Outcome.next { x with time := { x.time with divider := x.time.divider + 1 } }
      else exec .millSecond x) = .next (dividerCount x) := by
  rw [dividerCount_eq]
  by_cases h : x.time.divider + 1 < 2000000
  · rw [if_pos h, if_pos h]
  · rw [if_neg h, if_neg h]; rfl

/-- A sample at a whole multiple of 16 counts. -/
theorem sampled_due {due : Prop} [Decidable due] {x y : State} {o : Host.Outcome State Fault Refusal}
    (h : o = .next y) (hx : x.edge.timebase = y.edge.timebase) :
    (if due then o else .next x) = .next (if due then y else x) ∧
      (if due then y else x).edge.timebase = x.edge.timebase := by
  by_cases hdue : due
  · rw [if_pos hdue, if_pos hdue]; exact ⟨h, hx.symm⟩
  · rw [if_neg hdue, if_neg hdue]; exact ⟨rfl, rfl⟩

theorem lineCount_sending {x : State} {f : Sending} (h : x.loop.sending = some f) :
    lineCount x = if f.left ≤ 1 then frameLeaves x
      else { x with loop := { x.loop with sending := some { f with left := f.left - 1 } } } := by
  rw [lineCount, h]
  rfl

theorem lineCount_idle {x : State} (h : x.loop.sending = none) :
    lineCount x = if x.loop.gap ≤ 1 then arbiterStarts x
      else { x with loop := { x.loop with gap := x.loop.gap - 1 } } := by
  rw [lineCount, h]
  by_cases hgap : x.loop.gap ≤ 1
  · rw [if_pos hgap]; exact if_neg (by omega)
  · rw [if_neg hgap]; exact if_pos (by omega)

end Sys2Proof.Proofs
end

section
namespace Sys2Proof.Proofs
open Sys2Proof.Machine Sys2Proof.Safety

/-! ## The trim pulses at a count (R36) -/

theorem firstIn_eq_some {stage : PulseStage} {ps : List Pulse} {p : Pulse} (h : firstIn stage ps = some p) :
    p ∈ ps ∧ p.stage = stage :=
  ⟨List.mem_of_find?_eq_some h, by simpa using List.find?_some h⟩

theorem pulseEndCount_of_none {x : State}
    (h : ∀ p ∈ x.firing.pulses, p.stage = .delivering → p.stop ≠ x.edge.timebase) : pulseEndCount x = x := by
  rw [pulseEndCount]
  split
  · next p hp => exact if_neg (h p (firstIn_eq_some hp).1 (firstIn_eq_some hp).2)
  · rfl

theorem pulseStartCount_of_none {x : State}
    (h : ∀ p ∈ x.firing.pulses, p.stage = .waiting → p.start ≠ x.edge.timebase) : pulseStartCount x = x := by
  rw [pulseStartCount]
  split
  · next p hp => exact if_neg (h p (firstIn_eq_some hp).1 (firstIn_eq_some hp).2)
  · rfl

theorem firstIn_append {stage other : PulseStage} (hne : other ≠ stage) {before rest : List Pulse} {p : Pulse}
    (hbefore : ∀ x ∈ before, x.stage = other) (hp : p.stage = stage) :
    firstIn stage (before ++ p :: rest) = some p := by
  have hnone : before.find? (fun x => x.stage == stage) = none :=
    List.find?_eq_none.mpr fun x hx => by simp [hbefore x hx, hne]
  simp [firstIn, List.find?_append, hnone, hp]

theorem pulseStartCount_of_start {x : State} {before rest : List Pulse} {b : Count}
    (hpulses : x.firing.pulses = before ++ ⟨x.edge.timebase, b, .waiting⟩ :: rest)
    (hbefore : ∀ p ∈ before, p.stage = .delivering) :
    pulseStartCount x = { x with firing := { x.firing with
      pulses := before ++ ⟨x.edge.timebase, b, .delivering⟩ :: rest, trimGate := true } } := by
  rw [pulseStartCount, hpulses, firstIn_append (stage := .waiting) (other := .delivering) (by decide) hbefore rfl]
  exact (if_pos rfl).trans (startPulse_of_waiting hbefore hpulses)

theorem pulseEndCount_of_stop {x : State} {before rest : List Pulse} {a : Count}
    (hpulses : x.firing.pulses = before ++ ⟨a, x.edge.timebase, .delivering⟩ :: rest)
    (hothers : ∀ p ∈ before ++ rest, p.stage = .waiting) :
    pulseEndCount x = { x with firing := { x.firing with
      pulses := before ++ rest, trimGate := false } } := by
  have hbefore : ∀ p ∈ before, p.stage = .waiting := fun p hp => hothers p (List.mem_append_left _ hp)
  have hrest : (rest.any fun p => p.stage == .delivering) = false :=
    any_stage_eq_false (other := .waiting) (by decide) fun p hp => hothers p (List.mem_append_right _ hp)
  rw [pulseEndCount, hpulses, firstIn_append (stage := .delivering) (other := .waiting) (by decide) hbefore rfl]
  exact (if_pos rfl).trans ((endPulse_of_delivering hbefore hpulses).trans (by rw [hrest]))

/-! ## A count at which nothing but the pulses and the line is due (O2) -/

theorem oneCount_ne_zero {x : Option Nat} (hzero : x ≠ some 0) (hone : x ≠ some 1) : oneCount x ≠ some 0 := by
  cases x with
  | none => simp [oneCount]
  | some n =>
    have hn : n ≠ 0 := fun h => hzero (congrArg some h)
    have hn' : n ≠ 1 := fun h => hone (congrArg some h)
    simp only [oneCount, Option.map_some, ne_eq, Option.some.injEq]
    omega

/-- The timers counted in timebase counts. -/
def countedTimers (s : State) : List (Option Nat) :=
  [s.edge.lossTimer, s.edge.toothSilence, s.plant.signalLoss, s.plant.collapse, s.plant.freqOverspeed,
    s.saw.reserve, s.saw.settle, s.saw.confirm, s.saw.rundown, s.loop.silence]

theorem timersCount_quiet {s : State} (h : ∀ x ∈ countedTimers s, x ≠ some 0 ∧ x ≠ some 1) :
    timersCount s = timersPass s := by
  simp only [countedTimers, List.forall_mem_cons] at h
  obtain ⟨hloss, htooth, hsignal, hcollapse, hover, hreserve, hsettle, hconfirm, hrundown, hsilence, -⟩ := h
  have hq : ∀ {x : Option Nat}, x ≠ some 0 ∧ x ≠ some 1 → oneCount x ≠ some 0 := fun h => oneCount_ne_zero h.1 h.2
  rw [timersCount,
    show lossTimerCount (timersPass s) = timersPass s from if_neg (hq hloss),
    show toothSilenceCount (timersPass s) = timersPass s from if_neg (hq htooth),
    show signalLossCount (timersPass s) = timersPass s from if_neg (hq hsignal),
    show collapseCount (timersPass s) = timersPass s from if_neg (hq hcollapse),
    show freqOverspeedCount (timersPass s) = timersPass s from if_neg (hq hover),
    show reserveCount (timersPass s) = timersPass s from if_neg (hq hreserve),
    show settleCount (timersPass s) = timersPass s from if_neg (hq hsettle),
    show confirmCount (timersPass s) = timersPass s from if_neg (hq hconfirm),
    show rundownCount (timersPass s) = timersPass s from if_neg (hq hrundown)]
  exact if_neg (hq hsilence)

/-- The counter and the timers of a count. -/
def countPassed (s : State) : State := timersPass (timebaseCount s)

/-- The part of a count before its mill second and the line, where it samples no input. -/
def pulsed (x : State) : State := intervalsCount (pulseStartCount (pulseEndCount x))

theorem tick_unsampled {s : State} (hsample : (s.edge.timebase + 1).toNat % 16 ≠ 0) :
    tick s = lineCount (dividerCount (pulsed (timersCount (timebaseCount s)))) := by
  have hnow : (pulseStartCount (pulseEndCount (timersCount (timebaseCount s)))).edge.timebase =
      s.edge.timebase + 1 := by
    simp only [pulseStartCount_frame, pulseEndCount_frame, timersCount_timebase]
    rfl
  rw [tick, samplesCount, hnow, if_neg hsample]
  rfl

theorem lineCount_loop_leaves {x : State} {f : Sending} (h : x.loop.sending = some f) (hleft : f.left ≤ 1) :
    (lineCount x).loop = { x.loop with
      forward := if f.from_ = some .forward then x.loop.forward.drop 1 else x.loop.forward
      answers := if f.from_ = some .answers then x.loop.answers.drop 1 else x.loop.answers
      sending := none, gap := 240 } := by
  rw [lineCount_sending h, if_pos hleft, frameLeaves, h]
  cases hfrom : f.from_ with
  | none => simp [State.mapLoop, LoopPort.release, gapCounts, hfrom]
  | some src => cases src <;> simp [State.mapLoop, LoopPort.release, gapCounts, hfrom]

theorem lineCount_loop_sends {x : State} {f : Sending} (h : x.loop.sending = some f) (hleft : 2 ≤ f.left) :
    (lineCount x).loop = { x.loop with sending := some { f with left := f.left - 1 } } := by
  rw [lineCount_sending h, if_neg (by omega)]

theorem lineCount_loop_gap {x : State} (h : x.loop.sending = none) (hgap : 2 ≤ x.loop.gap) :
    (lineCount x).loop = { x.loop with gap := x.loop.gap - 1 } := by
  rw [lineCount_idle h, if_neg (by omega)]

theorem lineCount_silence (x : State) : (lineCount x).loop.silence = x.loop.silence := by
  cases hsending : x.loop.sending with
  | some f =>
    by_cases hleft : f.left ≤ 1
    · rw [lineCount_loop_leaves hsending hleft]
    · rw [lineCount_loop_sends hsending (by omega)]
  | none =>
    by_cases hgap : x.loop.gap ≤ 1
    · rw [lineCount_idle hsending, if_pos hgap]
      unfold arbiterStarts serveSource sendSlot serveSlot startSending
      repeat' split
      all_goals rfl
    · rw [lineCount_loop_gap hsending (by omega)]

/-! ## The loss of the signal at a count (R60, R61) -/

/-- The silence of the tooth input leaves the plant and the signal as they were. -/
theorem toothSilenceCount_keeps (x : State) : (toothSilenceCount x).plant = x.plant ∧
    (toothSilenceCount x).edge.signal = x.edge.signal ∧
    (toothSilenceCount x).edge.lossTimer = x.edge.lossTimer ∧ (toothSilenceCount x).time = x.time := by
  unfold toothSilenceCount toothSilenceExpires raiseShaft
  split
  · split
    · dsimp only
      split <;> simp [State.mapEdge]
    · exact ⟨rfl, rfl, rfl, rfl⟩
  · exact ⟨rfl, rfl, rfl, rfl⟩

end Sys2Proof.Proofs
end

section
namespace Sys2Proof.Proofs
open Sys2Proof.Machine Sys2Proof.Safety

/-- Every part of a count keeps the counter. -/
theorem countParts_timebase {now : Count} :
    ∀ g ∈ countParts now, ∀ x : State, x.edge.timebase = now → (g x).edge.timebase = now := by
  intro g hg x hx
  simp only [countParts, List.mem_cons, List.not_mem_nil, or_false] at hg
  rcases hg with rfl | rfl | rfl | rfl | rfl | rfl | rfl | rfl | rfl | rfl | rfl | rfl | rfl | rfl | rfl | rfl | rfl
  case inr.inr.inr.inr.inr.inr.inr.inr.inr.inr.inr.inr.inl =>
    exact (sampled_due rfl (sampleXing_timebase x).symm).2.trans hx
  case inr.inr.inr.inr.inr.inr.inr.inr.inr.inr.inr.inr.inr.inl =>
    exact (sampled_due rfl (sampleTooth_timebase x).symm).2.trans hx
  all_goals simp [lossTimerCount_timebase, toothSilenceCount_timebase, hx]

theorem countPassed_timebase (s : State) : (countPassed s).edge.timebase = s.edge.timebase + 1 := rfl

theorem tick_kept (s : State) :
    (tick s).pending = s.pending ∧ (tick s).tables = s.tables ∧ (tick s).pins = s.pins := by
  simp [tick, timersCount]

/-- A count that samples no input and ends no mill second. -/
theorem tick_plain {s : State} (hsample : (s.edge.timebase + 1).toNat % 16 ≠ 0) (x : State)
    (hx : timersCount (timebaseCount s) = x) (hdivider : x.time.divider + 1 < 2000000) :
    (tick s).edge = x.edge ∧ (tick s).plant = x.plant ∧ (tick s).saw = x.saw ∧
      (tick s).time = { x.time with divider := x.time.divider + 1 } ∧
      (tick s).hamlet = { x.hamlet with feeders := x.hamlet.feeders.map Feeder.intervalCount } ∧
      KeptBut [.edge, .plant, .saw, .time, .hamlet, .firing, .loop] x (tick s) ∧
      (tick s).firing = (pulseStartCount (pulseEndCount x)).firing := by
  have htick : tick s = lineCount { pulsed x with time := { x.time with divider := x.time.divider + 1 } } := by
    have htime : (pulsed x).time = x.time := by simp [pulsed]
    rw [tick_unsampled hsample, hx, dividerCount_eq, htime, if_pos hdivider]
  rw [htick]
  refine ⟨by simp [pulsed], by simp [pulsed], by simp [pulsed], by simp, ?_, fun b hb => ?_, by simp [pulsed]⟩
  · simp [pulsed, intervalsCount, State.mapHamlet]
  · cases b <;> simp_all [Block.same, pulsed]

theorem tick_plain_loop {s : State} (hsample : (s.edge.timebase + 1).toNat % 16 ≠ 0) (x : State)
    (hx : timersCount (timebaseCount s) = x) (hdivider : x.time.divider + 1 < 2000000) :
    ∃ y : State, y.loop = x.loop ∧ tick s = lineCount y := by
  have htime : (pulsed x).time = x.time := by simp [pulsed]
  refine ⟨{ pulsed x with time := { x.time with divider := x.time.divider + 1 } }, by simp [pulsed], ?_⟩
  rw [tick_unsampled hsample, hx, dividerCount_eq, htime, if_pos hdivider]

theorem lossTimerCount_countPassed {s : State} (htimer : s.edge.lossTimer = some 1)
    (hsignal : s.edge.signal = .present) (hrun : s.plant.state = .run) :
    lossTimerCount (countPassed s) = signalLost (countPassed s) := by
  have hdue : (countPassed s).edge.lossTimer = some 0 :=
    (congrArg oneCount htimer : oneCount s.edge.lossTimer = some 0)
  rw [lossTimerCount, if_pos hdue, lossTimerExpires_of_present (s := countPassed s) hsignal]
  exact completionTest_of_incomplete (.inl (by simp [signalLost, countPassed, timersPass, timebaseCount,
    State.mapEdge, State.mapPlant, State.mapSaw, State.mapLoop, hrun]))

/-- The timers of a count at which the loss timer runs out in RUN: those that it starts lose nothing. -/
theorem timersCount_of_loss {s : State} (htimer : s.edge.lossTimer = some 1) (hsignal : s.edge.signal = .present)
    (hrun : s.plant.state = .run) (hcollapse : s.plant.collapse = none)
    (hloss : 1 ≤ s.setting Setting.SIGNAL_LOSS_TIME) (hlen : 1 ≤ s.setting Setting.COLLAPSE_TIME) :
    (timersCount (timebaseCount s)).edge.signal = .lost ∧
      (timersCount (timebaseCount s)).edge.lossTimer = none ∧
      (timersCount (timebaseCount s)).time = s.time ∧
      (timersCount (timebaseCount s)).plant = { s.plant with
        freqOverspeed := none
        signalLoss := some (s.setting Setting.SIGNAL_LOSS_TIME * 2000)
        collapse := some (s.setting Setting.COLLAPSE_TIME * 2000000) } := by
  have hlost : (signalLost (countPassed s)).plant = { s.plant with
        freqOverspeed := none
        signalLoss := some (s.setting Setting.SIGNAL_LOSS_TIME * 2000)
        collapse := some (s.setting Setting.COLLAPSE_TIME * 2000000) } := by
    simp [signalLost, countPassed, timersPass, timebaseCount, State.mapEdge, State.mapPlant, State.mapSaw,
      State.mapLoop, hrun, hcollapse, oneCount, State.setting, Setting.SIGNAL_LOSS_TIME, Setting.COLLAPSE_TIME]
  obtain ⟨hplant, hsig, htim, htime⟩ := toothSilenceCount_keeps (signalLost (countPassed s))
  have hfirst : timersCount (timebaseCount s) = loopSilenceCount (rundownCount (confirmCount (settleCount
      (reserveCount (toothSilenceCount (signalLost (countPassed s))))))) := by
    rw [timersCount, show timersPass (timebaseCount s) = countPassed s from rfl,
      lossTimerCount_countPassed htimer hsignal hrun]
    generalize toothSilenceCount (signalLost (countPassed s)) = y at hplant
    rw [show signalLossCount y = y from if_neg (by rw [hplant, hlost]; simp; omega),
      show collapseCount y = y from if_neg (by rw [hplant, hlost]; simp; omega),
      show freqOverspeedCount y = y from if_neg (by rw [hplant, hlost]; simp)]
  rw [hfirst]
  have hsig' : (toothSilenceCount (signalLost (countPassed s))).edge.signal = .lost := hsig
  have htim' : (toothSilenceCount (signalLost (countPassed s))).edge.lossTimer = none := htim
  have htime' : (toothSilenceCount (signalLost (countPassed s))).time = s.time := htime
  exact ⟨by simp [hsig'], by simp [htim'], by simp [htime'], by simp [hplant, hlost]⟩

/-- Settles O2: a count is the fold of its parts, and in a quiet one only the pulses and the line are due. -/
theorem idleStepPassesOneCount : Obligations.IdleStepPassesOneCount := by
  intro s hidle now less counted passed start accepts after doing first work
  have hstep : step s = .next (tick s) := by rw [step, hidle]
  have hparts : List.Forall₂ (fun f g => ∀ x : State, x.edge.timebase = now → f x = .next (g x))
      work (countParts now) := by
    refine .cons (fun x _ => doing_eq beq_iff_eq rfl) <| .cons (fun x _ => doing_eq beq_iff_eq rfl) <|
      .cons (fun x _ => doing_eq beq_iff_eq rfl) <| .cons (fun x _ => doing_eq beq_iff_eq rfl) <|
      .cons (fun x _ => doing_eq beq_iff_eq rfl) <| .cons (fun x _ => doing_eq beq_iff_eq rfl) <|
      .cons (fun x _ => doing_eq beq_iff_eq rfl) <| .cons (fun x _ => doing_eq beq_iff_eq rfl) <|
      .cons (fun x _ => doing_eq beq_iff_eq rfl) <| .cons (fun x _ => doing_eq beq_iff_eq rfl) <|
      .cons (fun x hx => pulseEndCount_due hx) <| .cons (fun x hx => pulseStartCount_due hx) <|
      .cons (fun x hx => ?xing) <| .cons (fun x hx => ?tooth) <| .cons (fun x _ => rfl) <|
      .cons (fun x _ => dividerCount_due x) <| .cons (fun x _ => ?line) .nil
    case xing => exact (sampled_due (sampleXing_eq hx) (sampleXing_timebase x).symm).1
    case tooth => exact (sampled_due (sampleTooth_eq hx) (sampleTooth_timebase x).symm).1
    case line =>
      cases hsending : x.loop.sending with
      | none =>
        rw [lineCount_idle hsending]
        dsimp only
        by_cases hgap : x.loop.gap ≤ 1
        · rw [if_pos hgap, if_pos hgap]; rfl
        · rw [if_neg hgap, if_neg hgap]
      | some f =>
        rw [lineCount_sending hsending]
        dsimp only
        by_cases hleft : f.left ≤ 1
        · rw [if_pos hleft, if_pos hleft]; rfl
        · rw [if_neg hleft, if_neg hleft]
  obtain ⟨hfold, htimebase⟩ := foldl_andThen hparts countParts_timebase (x := passed) rfl
  have htick : tick s = (countParts now).foldl (fun x g => g x) passed := tick_eq_parts s
  obtain ⟨hpending, htables, hpins⟩ := tick_kept s
  refine ⟨tick s, hstep, htick ▸ hfold, htick ▸ htimebase, hpending.trans hidle, htables, hpins,
    fun hsample hdivider => ⟨fun hquiet => ?_, fun htimer hsignal hrun hcollapse hloss hlen => ?_⟩⟩
  · have hx : timersCount (timebaseCount s) = passed := timersCount_quiet (s := timebaseCount s) hquiet
    obtain ⟨hedge, hplant, hsaw, htime, hhamlet, hkept, hfiring⟩ := tick_plain hsample passed hx hdivider
    obtain ⟨y, hloop, hline⟩ := tick_plain_loop hsample passed hx hdivider
    refine ⟨hedge, hplant, hsaw, htime, hhamlet, fun b hb => ?_, fun hnone => ?_, fun before rest b hpulses hbefore hrest => ?_,
      fun before rest a hpulses hothers => ?_, ?_, fun f hsending => ⟨fun hleft => ?_, fun hleft => ?_⟩,
      fun hsending hgap => ?_⟩
    · have hsame := hkept b hb
      cases b <;> simp_all [Block.same, passed]
    · rw [hfiring, pulseEndCount_of_none (x := passed) fun p hp => (hnone p hp).1,
        pulseStartCount_of_none (x := passed) fun p hp => (hnone p hp).2]
    · have hend : pulseEndCount passed = passed := pulseEndCount_of_none fun p hp hstage => by
        rcases List.mem_append.mp (hpulses ▸ hp) with hp | hp
        · exact hrest p (List.mem_append_left _ hp) hstage
        rcases List.mem_cons.mp hp with rfl | hp
        · cases hstage
        · exact hrest p (List.mem_append_right _ hp) hstage
      rw [hfiring, hend, pulseStartCount_of_start (x := passed) hpulses hbefore]
    · rw [hfiring, pulseEndCount_of_stop (x := passed) hpulses fun p hp => (hothers p hp).1,
        pulseStartCount_of_none fun p hp _ => (hothers p hp).2]
    · rw [hline, lineCount_silence, hloop]
    · rw [hline, lineCount_loop_sends (f := f) (by rw [hloop]; exact hsending) hleft, hloop]
    · rw [hline, lineCount_loop_leaves (f := f) (by rw [hloop]; exact hsending) hleft, hloop]
    · rw [hline, lineCount_loop_gap (by rw [hloop]; exact hsending) (by rw [hloop]; exact hgap), hloop]
  · obtain ⟨hlost, hstopped, htime, hplant⟩ := timersCount_of_loss htimer hsignal hrun hcollapse hloss hlen
    obtain ⟨hedge, hplant', -⟩ := tick_plain hsample _ rfl (by rw [htime]; exact hdivider)
    exact ⟨by rw [hedge, hlost], by rw [hedge, hstopped], by rw [hplant', hplant]⟩

end Sys2Proof.Proofs
end

section
namespace Sys2Proof.Proofs
open Sys2Proof.Machine Sys2Proof.Safety

/-! ## One record of a feeder sample (R94) -/

/-- An operation of the sample on circuit `i`, which may be opened by it but not closed. -/
structure RecordStep (i : Nat) (s t : State) : Prop where
  one : OneCircuit i s t
  kept : KeptBut [.hamlet, .conds, .journal, .loop] s t
  feeders : t.hamlet.feeders = s.hamlet.feeders
  opens : (t.circuit i).wanted = true → (s.circuit i).wanted = true

namespace RecordStep

theorem refl (i : Nat) (s : State) : RecordStep i s s := ⟨.refl i s, fun b _ => by cases b <;> rfl, rfl, id⟩

theorem trans {i : Nat} {s t u : State} (h : RecordStep i s t) (h' : RecordStep i t u) : RecordStep i s u := by
  refine ⟨h.one.trans h'.one fun hback => ?_, fun b hb => ?_, h'.feeders.trans h.feeders, h.opens ∘ h'.opens⟩
  · cases hs : (s.circuit i).wanted with
    | true => exact h'.opens (hback.trans hs)
    | false => exact Bool.eq_false_iff.mpr fun ht => by simp [h.opens ht] at hs
  · have hfirst := h.kept b hb
    have hlast := h'.kept b hb
    cases b <;> simp_all [Block.same]

theorem tables {i : Nat} {s t : State} (h : RecordStep i s t) : t.tables = s.tables := h.kept .tables (by decide)

theorem time {i : Nat} {s t : State} (h : RecordStep i s t) : t.time = s.time := h.kept .time (by decide)

theorem modifyCircuit {i : Nat} {f : Circuit → Circuit} {s : State}
    (hf : (f (s.circuit i)).state = (s.circuit i).state) : RecordStep i s (modifyCircuit i f s) := by
  have hwanted : (f (s.circuit i)).wanted = (s.circuit i).wanted := by rw [Circuit.wanted, hf, Circuit.wanted]
  refine ⟨.modifyCircuit hwanted, fun b hb => ?_, rfl, fun h => ?_⟩
  · cases b <;> simp_all [Block.same, Machine.modifyCircuit]
  · rw [circuit_modifyCircuit] at h
    split at h
    · exact hwanted ▸ h
    · exact h

theorem raise (i : Nat) (c : Condition) (x : Option Nat) (s : State) : RecordStep i s (raise c x s) := by
  refine ⟨(OneCircuit.refl i s).raise c x, fun b hb => ?_, by simp, fun h => by simpa [State.circuit] using h⟩
  cases b <;> simp_all [Block.same]

end RecordStep

/-- An operation of the sample, with the entry of its circuit and the record that it leaves. -/
structure Stage (i : Nat) (s t : State) (entry : Circuit) (record : State) : Prop where
  step : RecordStep i s t
  entry : t.circuit i = entry
  record : RecordAgree record t

theorem Stage.modifyCircuit {i : Nat} {s : State} (hlen : i < s.hamlet.entries.length) (f : Circuit → Circuit)
    (hf : (f (s.circuit i)).state = (s.circuit i).state) : Stage i s (modifyCircuit i f s) (f (s.circuit i)) s :=
  ⟨.modifyCircuit hf, circuit_modifyCircuit_self hlen f, modifyCircuit_agree i f s⟩

theorem Stage.raise {i : Nat} {s t : State} {e : Circuit} {r : State} (h : Stage i s t e r) (c : Condition)
    (x : Option Nat) : Stage i s (raise c x t) e (raise c x r) :=
  ⟨h.step.trans (.raise i c x t), by simpa [State.circuit] using h.entry, h.record.raise c x⟩

/-! ## The energy (R101, R102) -/

/-- A circuit after the energy of a charge. -/
def chargedWith (charge : Nat) (c : Circuit) : Circuit := { c with
  energy := min 99999999 (c.energy + (c.residue + charge) / 36000000)
  residue := (c.residue + charge) % 36000000 }

theorem countEnergy_stage {i : Nat} {s : State} (hlen : i < s.hamlet.entries.length) (charge : Nat) :
    Stage i s (countEnergy i charge s) (chargedWith charge (s.circuit i))
      (if 1 ≤ ((s.circuit i).residue + charge) / 36000000 ∧
          99999999 ≤ (s.circuit i).energy + ((s.circuit i).residue + charge) / 36000000 then
        raise .energyLimit (some i) s else s) := by
  have hcharged : Stage i s (modifyCircuit i (Circuit.charged charge) s) (chargedWith charge (s.circuit i)) s :=
    .modifyCircuit hlen _ rfl
  have hsaturates : (s.circuit i).saturates charge = true ↔ 1 ≤ ((s.circuit i).residue + charge) / 36000000 ∧
      99999999 ≤ (s.circuit i).energy + ((s.circuit i).residue + charge) / 36000000 := by
    rw [Circuit.saturates, Bool.and_eq_true, decide_eq_true_iff, decide_eq_true_iff]
    rfl
  rw [countEnergy]
  by_cases h : (s.circuit i).saturates charge = true
  · rw [if_pos h, if_pos (hsaturates.mp h)]
    exact hcharged.raise _ _
  · rw [if_neg h, if_neg (mt hsaturates.mpr h)]
    exact hcharged

/-! ## The agreement (R104) -/

theorem countDisagree_stage {i : Nat} {s : State} (hlen : i < s.hamlet.entries.length) :
    Stage i s (countDisagree i s)
      { s.circuit i with disagree :=
          if (s.circuit i).disagree < 3 then (s.circuit i).disagree + 1 else (s.circuit i).disagree }
      (if (s.circuit i).disagree = 2 then raise .breakerDisagree (some i) s else s) := by
  have hset : ∀ n, Stage i s (setDisagree i n s) { s.circuit i with disagree := n } s := fun n =>
    .modifyCircuit hlen _ rfl
  rw [countDisagree]
  by_cases hlow : (s.circuit i).disagree < 3
  · rw [if_pos hlow, if_pos hlow]
    by_cases htwo : (s.circuit i).disagree = 2
    · rw [if_pos htwo, if_pos (by omega)]
      exact (hset _).raise _ _
    · rw [if_neg htwo, if_neg (by omega)]
      exact hset _
  · rw [if_neg hlow, if_neg hlow, if_neg (by omega)]
    exact ⟨.refl i s, rfl, .refl s⟩

theorem agreementCheck_stage {i : Nat} {s : State} (hlen : i < s.hamlet.entries.length) {r : BreakerReport}
    (hr : r ≠ .unknown) :
    Stage i s (agreementCheck i r s) { s.circuit i with disagree := agreed r (s.circuit i) }
      (if r = .failed ∨ (agreed r (s.circuit i) = 3 ∧ (s.circuit i).disagree = 2) then
        raise .breakerDisagree (some i) s else s) := by
  have hset : ∀ n, Stage i s (setDisagree i n s) { s.circuit i with disagree := n } s := fun n =>
    .modifyCircuit hlen _ rfl
  by_cases hfailed : r = .failed
  · subst hfailed
    rw [if_pos (.inl rfl)]
    exact (hset 3).raise _ _
  · have hposition : r = .opened ∨ r = .closed := by cases r <;> simp_all
    rw [agreementCheck_eq i hposition]
    by_cases hagrees : r = .closed ↔ (s.circuit i).state = .closed
    · have hagreed : agreed r (s.circuit i) = 0 := by rw [agreed, if_neg hfailed, if_pos hagrees]
      rw [if_pos hagrees, hagreed, if_neg (by simp [hfailed])]
      exact hset 0
    · have hagreed : agreed r (s.circuit i) =
          if (s.circuit i).disagree < 3 then (s.circuit i).disagree + 1 else (s.circuit i).disagree := by
        rw [agreed, if_neg hfailed, if_neg hagrees]
      have hraise : (r = .failed ∨ (agreed r (s.circuit i) = 3 ∧ (s.circuit i).disagree = 2)) ↔
          (s.circuit i).disagree = 2 := by
        rw [hagreed]
        constructor
        · rintro (h | ⟨-, h⟩)
          · exact absurd h hfailed
          · exact h
        · intro h
          exact .inr ⟨by rw [h]; rfl, h⟩
      have hcount := countDisagree_stage hlen
      rw [if_neg hagrees]
      simp only [hraise]
      rw [hagreed]
      exact hcount

/-! ## The limiter (R97, R98) -/

theorem struck_opens (s : State) (c : Circuit) : (struck s c).state ≠ .closed := by
  rw [struck_state]
  split <;> decide

theorem limiterTrips_feeders (i reading : Nat) (s : State) :
    (limiterTrips i reading s).hamlet.feeders = s.hamlet.feeders := by
  unfold limiterTrips lockOut limitOpen
  dsimp only
  split <;> simp [modifyCircuit]

theorem limiterTrips_stage {i : Nat} (hi : i < 48) (reading : Nat) {s : State} (hlen : i < s.hamlet.entries.length)
    (hclosed : (s.circuit i).state = .closed) :
    Stage i s (limiterTrips i reading s) (struck s (s.circuit i)) (tripRecord i reading (struck s (s.circuit i)) s) := by
  obtain ⟨hentry, hone, hrecord, hkept⟩ := limiterTrips_taken hi reading hlen hclosed
  exact ⟨⟨hone, hkept, limiterTrips_feeders i reading s, fun _ => by simp [Circuit.wanted, hclosed]⟩, hentry, hrecord⟩

theorem tripRecord_agree (i reading : Nat) (c : Circuit) {r r' : State} (h : RecordAgree r r') :
    RecordAgree (tripRecord i reading c r) (tripRecord i reading c r') := by
  rw [tripRecord, tripRecord]
  split
  · exact (h.journalAppend .lockout (some i) c.strikes).raise .lockout none
  · exact h.journalAppend .limitTrip (some i) reading

/-- What the limiter's step leaves in conditions and journal. -/
def limiterRecord (i reading : Nat) (c c' : Circuit) (r : State) : State :=
  if c'.state = c.state then r else tripRecord i reading c' r

theorem limiterRecord_agree (i reading : Nat) (c c' : Circuit) {r r' : State} (h : RecordAgree r r') :
    RecordAgree (limiterRecord i reading c c' r) (limiterRecord i reading c c' r') := by
  rw [limiterRecord, limiterRecord]
  split
  · exact h
  · exact tripRecord_agree i reading c' h

theorem limited_of_closed {s : State} {c : Circuit} (reading : Nat) (hclosed : c.state = .closed) :
    limited s reading c = if s.allowance c = 0 then { c with overCount := 0 }
      else if 2 * s.allowance c < reading then struck s c
      else if s.allowance c < reading then
        if s.setting Setting.OVER_COUNT ≤ c.overCount + 1 then struck s c
        else { c with overCount := c.overCount + 1 }
      else { c with overCount := 0 } := if_neg (not_not.mpr hclosed)

/-- The limiter reads settings, windows and the mill second count. -/
theorem limited_congr {s t : State} (htime : t.time = s.time) (htables : t.tables = s.tables) (reading : Nat)
    (c : Circuit) : limited t reading c = limited s reading c := by
  cases s
  cases t
  dsimp only at htime htables
  subst htime htables
  rfl

theorem limiterStep_stage {i : Nat} (hi : i < 48) (reading : Nat) {s : State} (hlen : i < s.hamlet.entries.length) :
    Stage i s (limiterStep i reading s) (limited s reading (s.circuit i))
      (limiterRecord i reading (s.circuit i) (limited s reading (s.circuit i)) s) := by
  have hset : ∀ n, Stage i s (setOver i n s) { s.circuit i with overCount := n }
      (limiterRecord i reading (s.circuit i) { s.circuit i with overCount := n } s) := fun n => by
    rw [limiterRecord, if_pos rfl]
    exact .modifyCircuit hlen _ rfl
  by_cases hclosed : (s.circuit i).state = .closed
  · have htrip := limiterTrips_stage hi reading hlen hclosed
    rw [show tripRecord i reading (struck s (s.circuit i)) s =
        limiterRecord i reading (s.circuit i) (struck s (s.circuit i)) s from
      (if_neg (hclosed ▸ struck_opens s (s.circuit i))).symm] at htrip
    rw [limiterStep, if_pos hclosed, limiterTest, limited_of_closed reading hclosed]
    dsimp only
    by_cases hzero : s.allowance (s.circuit i) = 0
    · simp only [if_pos hzero]; exact hset 0
    by_cases hfar : 2 * s.allowance (s.circuit i) < reading
    · simp only [if_neg hzero, if_pos hfar]; exact htrip
    by_cases hover : s.allowance (s.circuit i) < reading
    · simp only [if_neg hzero, if_neg hfar, if_pos hover]
      have hone := hset ((s.circuit i).overCount + 1)
      have hcount : ((setOver i ((s.circuit i).overCount + 1) s).circuit i).overCount =
          (s.circuit i).overCount + 1 := by rw [hone.entry]
      rw [hcount]
      by_cases hdue : s.setting Setting.OVER_COUNT ≤ (s.circuit i).overCount + 1
      · rw [if_pos hdue, if_pos hdue]
        have hagain := limiterTrips_stage hi reading (hone.step.one.length ▸ hlen) (hone.entry ▸ hclosed)
        have hstruck : struck (setOver i ((s.circuit i).overCount + 1) s)
            ((setOver i ((s.circuit i).overCount + 1) s).circuit i) = struck s (s.circuit i) := by
          rw [hone.entry]; rfl
        rw [hstruck] at hagain
        refine ⟨hone.step.trans hagain.step, hagain.entry, ?_⟩
        rw [limiterRecord, if_neg (hclosed ▸ struck_opens s (s.circuit i))]
        exact (tripRecord_agree i reading _ (modifyCircuit_agree i _ s)).trans hagain.record
      · rw [if_neg hdue, if_neg hdue]; exact hone
    · simp only [if_neg hzero, if_neg hfar, if_neg hover]; exact hset 0
  · rw [limiterStep, if_neg hclosed, limited, if_pos hclosed, limiterRecord, if_pos rfl]
    exact ⟨.refl i s, rfl, .refl s⟩

/-! ## A record of a present circuit -/

/-- Another raise, where it is due in both. -/
theorem raised_agree {due : Prop} [Decidable due] (c : Condition) (x : Option Nat) {r r' : State}
    (h : RecordAgree r r') : RecordAgree (if due then raise c x r else r) (if due then raise c x r' else r') := by
  by_cases hdue : due
  · rw [if_pos hdue, if_pos hdue]; exact h.raise c x
  · rw [if_neg hdue, if_neg hdue]; exact h

/-- The circuit as the limiter finds it: reading, report, energy and agreement of the record. -/
def reported (dt reading : Nat) (report : BreakerReport) (c : Circuit) : Circuit := { c with
  reading := reading
  report := report
  disagree := agreed report c
  energy := if report = .closed then min 99999999 (c.energy + (c.residue + reading * dt) / 36000000) else c.energy
  residue := if report = .closed then (c.residue + reading * dt) % 36000000 else c.residue }

/-- The raises of the record before the limiter's step. -/
def reportRecord (dt i reading : Nat) (report : BreakerReport) (c : Circuit) (r : State) : State :=
  let r1 := if report = .closed ∧ 1 ≤ (c.residue + reading * dt) / 36000000 ∧
      99999999 ≤ c.energy + (c.residue + reading * dt) / 36000000 then raise .energyLimit (some i) r else r
  if report = .failed ∨ (agreed report c = 3 ∧ c.disagree = 2) then raise .breakerDisagree (some i) r1 else r1

theorem sampled_eq (s : State) (dt reading : Nat) (report : BreakerReport) (c : Circuit) :
    sampled s dt reading report c = limited s reading (reported dt reading report c) := rfl

theorem sampleRecord_eq (s : State) (dt i reading : Nat) (report : BreakerReport) (r : State) :
    sampleRecord s dt i reading report r = if (s.circuit i).state = .absent then r
      else limiterRecord i reading (s.circuit i) (sampled s dt reading report (s.circuit i))
        (reportRecord dt i reading report (s.circuit i) r) := rfl

theorem reportRecord_agree (dt i reading : Nat) (report : BreakerReport) (c : Circuit) {r r' : State}
    (h : RecordAgree r r') :
    RecordAgree (reportRecord dt i reading report c r) (reportRecord dt i reading report c r') :=
  raised_agree .breakerDisagree (some i) (raised_agree .energyLimit (some i) h)

theorem sampleRecord_agree (s : State) (dt i reading : Nat) (report : BreakerReport) {r r' : State}
    (h : RecordAgree r r') :
    RecordAgree (sampleRecord s dt i reading report r) (sampleRecord s dt i reading report r') := by
  rw [sampleRecord_eq, sampleRecord_eq]
  split
  · exact h
  · exact limiterRecord_agree i reading _ _ (reportRecord_agree dt i reading report _ h)

/-- The energy of a record, with the reading and the report of it stored before. -/
theorem storedEnergy_stage {i : Nat} {s : State} (hlen : i < s.hamlet.entries.length) (dt reading : Nat)
    (report : BreakerReport) :
    Stage i s (if report = .closed then countEnergy i (reading * dt) (storeRecord i reading report s)
        else storeRecord i reading report s)
      { reported dt reading report (s.circuit i) with disagree := (s.circuit i).disagree }
      (if report = .closed ∧ 1 ≤ ((s.circuit i).residue + reading * dt) / 36000000 ∧
          99999999 ≤ (s.circuit i).energy + ((s.circuit i).residue + reading * dt) / 36000000 then
        raise .energyLimit (some i) s else s) := by
  have hstored : Stage i s (storeRecord i reading report s)
      { s.circuit i with reading := reading, report := report } s := .modifyCircuit hlen _ rfl
  by_cases hclosed : report = .closed
  · have hcount := countEnergy_stage (i := i) (s := storeRecord i reading report s)
      (hstored.step.one.length ▸ hlen) (reading * dt)
    rw [hstored.entry] at hcount
    rw [if_pos hclosed]
    refine ⟨hstored.step.trans hcount.step, by rw [hcount.entry, reported, if_pos hclosed, if_pos hclosed]; rfl, ?_⟩
    simp only [hclosed, true_and]
    simp only [hclosed] at hcount hstored
    exact (raised_agree .energyLimit (some i) hstored.record).trans hcount.record
  · rw [if_neg hclosed, if_neg (fun h => hclosed h.1)]
    refine ⟨hstored.step, ?_, hstored.record⟩
    rw [hstored.entry, reported, if_neg hclosed, if_neg hclosed]

theorem takeRecord_stage {i : Nat} (hi : i < 48) {s : State} (hlen : i < s.hamlet.entries.length)
    (dt reading : Nat) {report : BreakerReport} (hreport : report ≠ .unknown) :
    Stage i s (takeRecord i dt reading report s)
      (if (s.circuit i).state = .absent then s.circuit i else sampled s dt reading report (s.circuit i))
      (sampleRecord s dt i reading report s) := by
  rw [takeRecord, sampleRecord_eq]
  by_cases habsent : (s.circuit i).state = .absent
  · rw [if_pos habsent, if_pos habsent, if_pos habsent]
    exact ⟨.refl i s, rfl, .refl s⟩
  rw [if_neg habsent, if_neg habsent, if_neg habsent]
  have henergy := storedEnergy_stage hlen dt reading report
  dsimp only
  generalize (if report = .closed then countEnergy i (reading * dt) (storeRecord i reading report s)
    else storeRecord i reading report s) = x at henergy ⊢
  have hcheck := agreementCheck_stage (henergy.step.one.length ▸ hlen) hreport
  have hagreed : agreed report (x.circuit i) = agreed report (s.circuit i) := by rw [henergy.entry]; rfl
  have hdisagree : (x.circuit i).disagree = (s.circuit i).disagree := by rw [henergy.entry]
  have hreported : (agreementCheck i report x).circuit i = reported dt reading report (s.circuit i) := by
    rw [hcheck.entry, hagreed, henergy.entry]; rfl
  have hstep := henergy.step.trans hcheck.step
  have hlimit := limiterStep_stage hi reading (hstep.one.length ▸ hlen)
  have hlimited : limited (agreementCheck i report x) reading (reported dt reading report (s.circuit i)) =
      sampled s dt reading report (s.circuit i) := by
    rw [sampled_eq, limited_congr hstep.time hstep.tables]
  rw [hreported, hlimited] at hlimit
  refine ⟨hstep.trans hlimit.step, hlimit.entry, ?_⟩
  have hraises : RecordAgree (reportRecord dt i reading report (s.circuit i) s) (agreementCheck i report x) := by
    refine RecordAgree.trans ?_ hcheck.record
    rw [hagreed, hdisagree]
    exact raised_agree .breakerDisagree (some i) henergy.record
  exact (limiterRecord_agree i reading _ _ hraises).trans hlimit.record

end Sys2Proof.Proofs
end

section
namespace Sys2Proof.Proofs
open Sys2Proof.Machine Sys2Proof.Safety

/-! ## The records of a sample, in turn (R93) -/

/-- Operations that open circuits and close none: the slots follow, and only what the records of a sample
touch is changed. -/
structure Opened (s t : State) : Prop where
  kept : KeptBut [.hamlet, .conds, .journal, .loop] s t
  feeders : t.hamlet.feeders = s.hamlet.feeders
  length : t.hamlet.entries.length = s.hamlet.entries.length
  opens : ∀ j, (t.circuit j).wanted = true → (s.circuit j).wanted = true
  follow : Follow s t

namespace Opened

theorem refl (s : State) : Opened s s := ⟨fun b _ => by cases b <;> rfl, rfl, rfl, fun _ => id, .refl s⟩

theorem trans {s t u : State} (h : Opened s t) (h' : Opened t u) : Opened s u := by
  refine ⟨fun b hb => ?_, h'.feeders.trans h.feeders, h'.length.trans h.length, fun j => h.opens j ∘ h'.opens j,
    h.follow.trans h'.follow fun k => ?_⟩
  · have hfirst := h.kept b hb
    have hlast := h'.kept b hb
    cases b <;> simp_all [Block.same]
  · match k with
    | 0 => simp [slotOrder, show t.water = s.water from h.kept .water (by decide)]
    | 1 => simp [slotOrder, show t.saw = s.saw from h.kept .saw (by decide)]
    | k + 2 =>
      by_cases hk : k < 6
      · simp only [slotOrder_feeder _ hk, Option.some.injEq, Order.feeder.injEq, positions_eq_iff]
        intro hback m hm
        cases hs : (s.circuit (k * 8 + m)).wanted with
        | true => exact h'.opens _ ((hback m hm).trans hs)
        | false => exact Bool.eq_false_iff.mpr fun ht => by simp [h.opens _ ht] at hs
      · simp [slotOrder, hk]

theorem of_step {i : Nat} {s t : State} (h : RecordStep i s t) : Opened s t := by
  refine ⟨h.kept, h.feeders, h.one.length, fun j hj => ?_, h.one.follow⟩
  by_cases hji : j = i
  · exact hji ▸ h.opens (hji ▸ hj)
  · rwa [h.one.others j hji] at hj

end Opened

/-- The circuit of a record after it. -/
def afterRecord (s : State) (k dt : Nat) (x : Nat × Nat × BreakerReport) : Circuit :=
  if (s.circuit (k * 8 + x.1)).state = .absent then s.circuit (k * 8 + x.1)
  else sampled s dt x.2.1 x.2.2 (s.circuit (k * 8 + x.1))

/-- What the records of a sample leave in conditions and journal. -/
def recordsRecord (s : State) (k dt : Nat) (xs : List (Nat × Nat × BreakerReport)) (r : State) : State :=
  xs.foldl (fun r x => sampleRecord s dt (k * 8 + x.1) x.2.1 x.2.2 r) r

/-- What a record reads of the state: its circuit, the settings, the windows and the mill second count. -/
structure ReadsAlike (i : Nat) (s x : State) : Prop where
  circuit : x.circuit i = s.circuit i
  time : x.time = s.time
  tables : x.tables = s.tables

theorem sampled_alike {i : Nat} {s x : State} (h : ReadsAlike i s x) (dt reading : Nat) (report : BreakerReport)
    (c : Circuit) : sampled x dt reading report c = sampled s dt reading report c :=
  limited_congr h.time h.tables reading _

theorem sampleRecord_alike {i : Nat} {s x : State} (h : ReadsAlike i s x) (dt reading : Nat)
    (report : BreakerReport) (r : State) :
    sampleRecord x dt i reading report r = sampleRecord s dt i reading report r := by
  rw [sampleRecord_eq, sampleRecord_eq, h.circuit, sampled_alike h]

/-- The records of a sample from a state in which those that are left still stand as in `s`. -/
structure RecordsTaken (k dt : Nat) (s : State) (xs : List (Nat × Nat × BreakerReport)) (x t r : State) : Prop where
  opened : Opened x t
  named : ∀ y ∈ xs, t.circuit (k * 8 + y.1) = afterRecord s k dt y
  others : ∀ j, (∀ y ∈ xs, j ≠ k * 8 + y.1) → t.circuit j = x.circuit j
  record : RecordAgree (recordsRecord s k dt xs r) t

theorem takeRecords_taken {k dt : Nat} (hk : k < 6) {s : State} {xs : List (Nat × Nat × BreakerReport)}
    (hcircuits : ∀ y ∈ xs, y.1 ≤ 7) (hreports : ∀ y ∈ xs, y.2.2 ≠ .unknown) (hnodup : (xs.map fun y => y.1).Nodup) :
    ∀ {x r : State}, x.hamlet.entries.length = 48 → (∀ y ∈ xs, ReadsAlike (k * 8 + y.1) s x) → RecordAgree r x →
      RecordsTaken k dt s xs x (takeRecords k dt xs x) r := by
  induction xs with
  | nil => exact fun _ _ hr => ⟨.refl _, fun _ h => absurd h (by simp), fun _ _ => rfl, hr⟩
  | cons y ys ih =>
    intro x r hlen halike hr
    obtain ⟨hcircuit, hcircuits⟩ := List.forall_mem_cons.mp hcircuits
    obtain ⟨hreport, hreports⟩ := List.forall_mem_cons.mp hreports
    obtain ⟨hy, hys⟩ := List.forall_mem_cons.mp halike
    rw [List.map_cons, List.nodup_cons] at hnodup
    obtain ⟨hfresh, hnodup⟩ := hnodup
    have hne : ∀ z ∈ ys, k * 8 + z.1 ≠ k * 8 + y.1 := fun z hz h =>
      hfresh (List.mem_map.mpr ⟨z, hz, by omega⟩)
    have hstage := takeRecord_stage (i := k * 8 + y.1) (by omega) (s := x) (by omega) dt y.2.1 hreport
    have hstep := hstage.step
    have hrest := ih hcircuits hreports hnodup (x := takeRecord (k * 8 + y.1) dt y.2.1 y.2.2 x)
      (r := sampleRecord s dt (k * 8 + y.1) y.2.1 y.2.2 r) (hstep.one.length.trans hlen)
      (fun z hz => ⟨(hstep.one.others _ (hne z hz)).trans (hys z hz).circuit, hstep.time.trans (hys z hz).time,
        hstep.tables.trans (hys z hz).tables⟩)
      ((sampleRecord_agree s dt _ _ _ hr).trans (sampleRecord_alike hy dt y.2.1 y.2.2 x ▸ hstage.record))
    refine ⟨(Opened.of_step hstep).trans hrest.opened, List.forall_mem_cons.mpr ⟨?_, hrest.named⟩, fun j hj => ?_,
      hrest.record⟩
    · refine (hrest.others _ fun z hz => (hne z hz).symm).trans (hstage.entry.trans ?_)
      rw [afterRecord, hy.circuit, sampled_alike hy]
    · obtain ⟨hj, hjs⟩ := List.forall_mem_cons.mp hj
      exact (hrest.others j hjs).trans (hstep.one.others j hj)

theorem sampled_present {s : State} {dt reading : Nat} {report : BreakerReport} {c : Circuit}
    (h : c.state ≠ .absent) : (sampled s dt reading report c).state ≠ .absent := by
  have hstruck : (struck s (reported dt reading report c)).state ≠ .absent := by
    rw [struck_state]; split <;> decide
  rw [sampled_eq]
  by_cases hclosed : (reported dt reading report c).state = .closed
  · rw [limited_of_closed reading hclosed]
    split
    · exact h
    split
    · exact hstruck
    split
    · split
      · exact hstruck
      · exact h
    · exact h
  · rw [limited, if_pos hclosed]
    exact h

theorem afterRecord_absent_iff (s : State) (k dt : Nat) (x : Nat × Nat × BreakerReport) :
    (afterRecord s k dt x).state = .absent ↔ (s.circuit (k * 8 + x.1)).state = .absent := by
  by_cases h : (s.circuit (k * 8 + x.1)).state = .absent
  · rw [afterRecord, if_pos h]
  · rw [afterRecord, if_neg h]
    exact iff_of_false (sampled_present h) h

/-! ## The payload (R92) -/

/-- The breaker report of a record's last byte. -/
def reportOf (b : Byte) : BreakerReport := if b = 0 then .opened else if b = 1 then .closed else .failed

theorem breakerOfCode_toNat (b : Byte) : breakerOfCode b.toNat = reportOf b := by
  have hzero : b.toNat = 0 ↔ b = 0 := by simp [BitVec.toNat_eq]
  have hone : b.toNat = 1 ↔ b = 1 := by simp [BitVec.toNat_eq]
  simp only [breakerOfCode, reportOf, hzero, hone]

/-- A record as it is read. -/
def recordOf (r : Byte × Byte × Byte × Byte) : Nat × Nat × BreakerReport :=
  (r.1.toNat, r.2.1.toNat * 256 + r.2.2.1.toNat, reportOf r.2.2.2)

theorem feederRecords_flatMap (rs : List (Byte × Byte × Byte × Byte)) (extra : List Byte) :
    feederRecords rs.length (rs.flatMap (fun r => [r.1, r.2.1, r.2.2.1, r.2.2.2]) ++ extra) =
      some (rs.map recordOf) := by
  induction rs with
  | nil => rfl
  | cons r rs ih =>
    rw [List.length_cons, List.flatMap_cons]
    simp only [List.cons_append, List.nil_append, feederRecords, ih, breakerOfCode_toNat]
    rfl

theorem feederRecords_short : ∀ (n : Nat) (bytes : List Byte), bytes.length < 4 * n → feederRecords n bytes = none
  | 0, _, h => absurd h (by omega)
  | n + 1, [], _ => rfl
  | n + 1, [_], _ => rfl
  | n + 1, [_, _], _ => rfl
  | n + 1, [_, _, _], _ => rfl
  | n + 1, _ :: _ :: _ :: _ :: rest, h => by
    rw [feederRecords, feederRecords_short n rest (by simp only [List.length_cons] at h; omega)]

theorem nodup_circuits_iff (rs : List (Byte × Byte × Byte × Byte)) :
    ((rs.map recordOf).map fun x => x.1).Nodup ↔ (rs.map fun r => r.1).Nodup := by
  have hinj : Function.Injective (BitVec.toNat : Byte → Nat) := fun _ _ => BitVec.eq_of_toNat_eq
  rw [← List.nodup_map_iff hinj, List.map_map, List.map_map]
  rfl

theorem parseFeeder_records {rs : List (Byte × Byte × Byte × Byte)} (hlen : rs.length ≤ 8) (extra : List Byte) :
    parseFeeder (byteOf rs.length :: rs.flatMap (fun r => [r.1, r.2.1, r.2.2.1, r.2.2.2]) ++ extra) =
      if (∀ r ∈ rs, r.1.toNat ≤ 7) ∧ (rs.map fun r => r.1).Nodup then some (rs.map recordOf) else none := by
  have hcount : (byteOf rs.length).toNat = rs.length := toNat_byteOf (by omega)
  rw [List.cons_append, parseFeeder, hcount, if_pos hlen, feederRecords_flatMap]
  have hgood : ((rs.map recordOf).all (fun r => decide (r.1 ≤ 7)) &&
      decide (((rs.map recordOf).map fun r => r.1).Nodup)) = true ↔
      (∀ r ∈ rs, r.1.toNat ≤ 7) ∧ (rs.map fun r => r.1).Nodup := by
    rw [Bool.and_eq_true, decide_eq_true_iff, nodup_circuits_iff, List.all_eq_true, List.forall_mem_map]
    exact and_congr (forall₂_congr fun _ _ => decide_eq_true_iff) .rfl
  by_cases h : (∀ r ∈ rs, r.1.toNat ≤ 7) ∧ (rs.map fun r => r.1).Nodup
  · rw [if_pos h]; exact if_pos (hgood.mpr h)
  · rw [if_neg h]; exact if_neg (mt hgood.mp h)

/-! ## The feeder is heard (R93, R95, R96) -/

/-- The state after the end of FEEDER_SILENT's cause, where the sample makes it end. -/
def heardRecord (k : Nat) (s : State) : State :=
  if ((s.feeder k).silent && (List.range 6).all fun j => j == k || !(s.feeder j).silent) = true then
    causeEnd .feederSilent s else s

theorem anyFeederSilent_of_heard {k : Nat} {s : State} (hlen : s.hamlet.feeders.length = 6)
    (f : Feeder) (hf : f.silent = false) :
    (modifyFeeder k (fun _ => f) s).anyFeederSilent = !((List.range 6).all fun j => j == k || !(s.feeder j).silent) := by
  rw [Bool.eq_iff_iff, State.anyFeederSilent, Bool.not_eq_true', List.any_eq_true, List.all_eq_false]
  constructor
  · rintro ⟨x, hx, hsilent⟩
    obtain ⟨j, hj, rfl⟩ := List.getElem_of_mem hx
    have hlt : j < s.hamlet.feeders.length := by simpa [modifyFeeder] using hj
    simp only [modifyFeeder, State.mapHamlet, List.getElem_modify] at hsilent
    have hjk : k ≠ j := fun h => by simp [h, hf] at hsilent
    rw [if_neg hjk] at hsilent
    refine ⟨j, List.mem_range.mpr (by omega), ?_⟩
    rw [State.feeder, List.getD_eq_getElem _ _ hlt, hsilent]
    simp [Ne.symm hjk]
  · rintro ⟨j, hj, hsilent⟩
    have hlt : j < s.hamlet.feeders.length := by rw [hlen]; exact List.mem_range.mp hj
    have hjk : k ≠ j := fun h => hsilent (by simp [h])
    refine ⟨_, List.getElem_mem (by simpa [modifyFeeder] using hlt : j < _), ?_⟩
    simp only [modifyFeeder, State.mapHamlet, List.getElem_modify, if_neg hjk]
    rw [State.feeder, List.getD_eq_getElem _ _ hlt] at hsilent
    cases h : s.hamlet.feeders[j].silent with
    | true => rfl
    | false => exact absurd (by simp [h]) hsilent

/-- A heard feeder: its entry, the other blocks, and the record. -/
structure Heard (k : Nat) (s t : State) : Prop where
  feeder : t.feeder k = ⟨if s.address (3 + k) = 0 then none else some 0, false, some 0⟩
  others : ∀ j, j ≠ k → t.feeder j = s.feeder j
  entries : t.hamlet.entries = s.hamlet.entries
  loop : t.loop = s.loop
  kept : KeptBut [.hamlet, .conds] s t
  record : RecordAgree (heardRecord k s) t

theorem feederHeard_heard {k : Nat} {s : State} (hk : k < 6) (hlen : s.hamlet.feeders.length = 6) :
    Heard k s (feederHeard k s) := by
  have hrestart : restartSilence (s.mapped (Role.feeder k)) = if s.address (3 + k) = 0 then none else some 0 :=
    restartSilence_mapped s (Role.feeder k)
  obtain ⟨s1, hs1⟩ : ∃ s1, s1 = modifyFeeder k
      (fun _ => ⟨restartSilence (s.mapped (Role.feeder k)), false, some 0⟩) s := ⟨_, rfl⟩
  have hfeeder : ∀ j, s1.feeder j = if k = j ∧ j < s.hamlet.feeders.length then
      ⟨restartSilence (s.mapped (Role.feeder k)), false, some 0⟩ else s.feeder j := fun j => by
    rw [hs1, feeder_modifyFeeder]
  have hheard : feederHeard k s = if (s.feeder k).silent = true then examineFeeders s1 else s1 := by
    rw [hs1]; rfl
  have hagree : RecordAgree s s1 := hs1 ▸ .of_loop rfl rfl rfl rfl rfl
  have hany : s1.anyFeederSilent = !((List.range 6).all fun j => j == k || !(s.feeder j).silent) := by
    rw [hs1]; exact anyFeederSilent_of_heard hlen _ rfl
  have hends : feederHeard k s = if ((s.feeder k).silent &&
      (List.range 6).all fun j => j == k || !(s.feeder j).silent) = true then causeEnd .feederSilent s1 else s1 := by
    rw [hheard, examineFeeders, hany]
    generalize ((List.range 6).all fun j => j == k || !(s.feeder j).silent) = others
    cases (s.feeder k).silent <;> cases others <;> rfl
  have hself : s1.feeder k = ⟨if s.address (3 + k) = 0 then none else some 0, false, some 0⟩ := by
    rw [hfeeder, if_pos ⟨rfl, by omega⟩, hrestart]
  have hothers : ∀ j, j ≠ k → s1.feeder j = s.feeder j := fun j hj => by
    rw [hfeeder, if_neg (fun h => hj h.1.symm)]
  rw [hends]
  split
  · next h =>
    exact ⟨hself, hothers, by rw [hs1]; rfl, by rw [hs1]; rfl,
      fun b hb => by rw [hs1]; cases b <;> simp_all [Block.same, modifyFeeder],
      by rw [heardRecord, if_pos h]; exact hagree.causeEnd _⟩
  · next h =>
    exact ⟨hself, hothers, by rw [hs1]; rfl, by rw [hs1]; rfl,
      fun b hb => by rw [hs1]; cases b <;> simp_all [Block.same, modifyFeeder],
      by rw [heardRecord, if_neg h]; exact hagree⟩

/-! ## The slot of the feeder (R103) -/

/-- A slot written again, whatever its order was. -/
theorem slotAfter_again (k : Nat) (s t : State) (i : Nat) (old : Slot) :
    slotAfter [k + 2] s t i old =
      if i = k + 2 ∧ s.address (i + 1) ≠ 0 then ⟨some (.feeder (positions t k)), true⟩ else slotAfter [] s t i old := by
  by_cases hi : i = k + 2
  · subst hi
    by_cases hm : s.address (k + 2 + 1) = 0
    · rw [if_neg (by simp [hm])]
      simp [slotAfter, hm]
    · rw [if_pos ⟨rfl, hm⟩]
      simp [slotAfter, hm]
  · rw [if_neg (by simp [hi])]
    simp [slotAfter, hi]

/-- A feeder's slot is written again after operations that the slots follow. -/
theorem slotsFollow_writeFeederSlot (k : Nat) {s t : State} (h : Follow s t) :
    SlotsFollow [k + 2] s (writeFeederSlot k t) := by
  have hafter : slotAfter [k + 2] s (writeFeederSlot k t) = fun i old =>
      if i = k + 2 ∧ t.address (i + 1) ≠ 0 then ⟨some (.feeder (positions t k)), true⟩
      else slotAfter [] s t i old := by
    funext i old
    have hpositions : ∀ j, positions (writeFeederSlot k t) j = positions t j := fun j => by
      simp [positions, State.circuit]
    have horder : slotAfter [] s (writeFeederSlot k t) i old = slotAfter [] s t i old := by
      simp only [slotAfter, hpositions, writeFeederSlot_frame]
    rw [slotAfter_again, hpositions, horder, h.address]
  have hloop := h.slots
  rw [SlotsFollow] at hloop ⊢
  rw [hafter, writeFeederSlot_loop, hloop]
  simp only [List.mapIdx_mapIdx, Function.comp_def]

end Sys2Proof.Proofs
end

section
namespace Sys2Proof.Proofs
open Sys2Proof.Machine Sys2Proof.Safety

/-! ## Feeder samples (R93, R94, R103) -/

theorem reportOf_known (b : Byte) : reportOf b ≠ .unknown := by
  unfold reportOf
  split
  · decide
  · split <;> decide

/-- A record reports a present circuit away from the position wanted. -/
theorem recordsDisagree_iff {k : Nat} {s t : State} {rs : List (Byte × Byte × Byte × Byte)}
    (habsent : ∀ r ∈ rs, (t.circuit (k * 8 + r.1.toNat)).state = .absent ↔
      (s.circuit (k * 8 + r.1.toNat)).state = .absent) :
    t.recordsDisagree k (rs.map recordOf) = true ↔ ∃ r ∈ rs, (s.circuit (k * 8 + r.1.toNat)).state ≠ .absent ∧
      (reportOf r.2.2.2 = .failed ∨
        (reportOf r.2.2.2 = .closed) ≠ ((t.circuit (k * 8 + r.1.toNat)).state = .closed)) := by
  have hreport : ∀ (b : Byte) (c : Circuit), disagrees c.wanted (reportOf b) = true ↔
      (reportOf b = .failed ∨ (reportOf b = .closed) ≠ (c.state = .closed)) := by
    intro b c
    have hknown := reportOf_known b
    cases hb : reportOf b <;> simp_all [disagrees, Circuit.wanted]
  simp only [State.recordsDisagree, List.any_map, List.any_eq_true, Function.comp_apply, Bool.and_eq_true, bne_iff_ne,
    recordOf, hreport]
  exact exists_congr fun r => and_congr_right fun hr => and_congr_left fun _ => not_congr (habsent r hr)

/-- The order check: the slot is written where a record disagrees. -/
theorem feederOrderCheck_follows {k : Nat} {s t : State} (h : Follow s t) {xs : List (Nat × Nat × BreakerReport)}
    {due : Prop} [Decidable due] (hdue : t.recordsDisagree k xs = true ↔ due) :
    SlotsFollow (if due then [k + 2] else []) s (feederOrderCheck k xs t) := by
  rw [feederOrderCheck]
  by_cases hd : due
  · rw [if_pos (hdue.mpr hd), if_pos hd]
    exact slotsFollow_writeFeederSlot k h
  · rw [if_neg (mt hdue.mp hd), if_neg hd]
    exact h.slots

theorem feederOrderCheck_hamlet (k : Nat) (xs : List (Nat × Nat × BreakerReport)) (t : State) :
    (feederOrderCheck k xs t).hamlet = t.hamlet := by
  unfold feederOrderCheck
  split <;> simp

theorem feederOrderCheck_agree (k : Nat) (xs : List (Nat × Nat × BreakerReport)) (t : State) :
    RecordAgree t (feederOrderCheck k xs t) := by
  unfold feederOrderCheck
  split
  · exact .of_slots (by simp) (by simp) ⟨_, writeFeederSlot_loop k t⟩ (by simp) (by simp)
  · exact .refl t

theorem feederOrderCheck_kept (k : Nat) (xs : List (Nat × Nat × BreakerReport)) (t : State) :
    KeptBut [.loop] t (feederOrderCheck k xs t) := fun b hb => by
  unfold feederOrderCheck
  split <;> cases b <;> simp_all [Block.same]

/-- Settles O44: the feeder is heard, then the records in turn, then the order check. -/
theorem feederSample : Obligations.FeederSample := by
  refine fun k s => ⟨fun rs extra hk hcount hlen hfeeders => ?_, rfl, fun count rest hbad => ?_⟩
  · intro payload dt code heard record good
    have hparse : parseFeeder payload = if good then some (rs.map recordOf) else none := parseFeeder_records hcount extra
    refine ⟨fun hbad => congrArg Host.Outcome.next ?_, fun hgood => ?_⟩
    · rw [Machine.feederSample, hparse, if_neg hbad]
    rw [if_pos hgood] at hparse
    obtain ⟨hsmall, hnodup⟩ := hgood
    have hheard := feederHeard_heard (s := s) hk hfeeders
    have hcircuit : ∀ j, (feederHeard k s).circuit j = s.circuit j := fun j => by
      rw [State.circuit, hheard.entries]; rfl
    have hkept := hheard.kept
    have htaken := takeRecords_taken (dt := dt) hk (s := s) (xs := rs.map recordOf)
      (List.forall_mem_map.mpr hsmall) (List.forall_mem_map.mpr fun r _ => reportOf_known r.2.2.2)
      ((nodup_circuits_iff rs).mpr hnodup) (x := feederHeard k s) (r := heardRecord k s)
      (by rw [hheard.entries, hlen])
      (fun _ _ => ⟨hcircuit _, hkept .time (by decide), hkept .tables (by decide)⟩) hheard.record
    obtain ⟨u, hu⟩ : ∃ u, u = takeRecords k dt (rs.map recordOf) (feederHeard k s) := ⟨_, rfl⟩
    rw [← hu] at htaken
    have hsample : Machine.feederSample k payload s = feederOrderCheck k (rs.map recordOf) u := by
      rw [Machine.feederSample, hparse, hu]; rfl
    have hcircuits : ∀ j, (feederOrderCheck k (rs.map recordOf) u).circuit j = u.circuit j := fun j => by
      rw [State.circuit, feederOrderCheck_hamlet]; rfl
    have hfeeder : ∀ j, (feederOrderCheck k (rs.map recordOf) u).feeder j = (feederHeard k s).feeder j := fun j => by
      rw [State.feeder, feederOrderCheck_hamlet, htaken.opened.feeders]; rfl
    have hnamed : ∀ r ∈ rs, u.circuit (k * 8 + r.1.toNat) = afterRecord s k dt (recordOf r) := fun r hr =>
      htaken.named _ (List.mem_map_of_mem hr)
    have hfollow : Follow s u := by
      have hfirst : Follow s (feederHeard k s) := by
        refine .of_same (hkept .tables (by decide)) ?_ ⟨_, _, hheard.loop⟩
        funext i
        simp only [slotOrder, positions, hcircuit, show (feederHeard k s).water = s.water from hkept .water (by decide),
          show (feederHeard k s).saw = s.saw from hkept .saw (by decide)]
      refine hfirst.trans htaken.opened.follow fun i _ => ?_
      simp only [slotOrder, positions, hcircuit, show (feederHeard k s).water = s.water from hkept .water (by decide),
        show (feederHeard k s).saw = s.saw from hkept .saw (by decide)]
    refine ⟨_, congrArg Host.Outcome.next hsample, (hfeeder k).trans hheard.feeder,
      fun j _ hj => (hfeeder j).trans (hheard.others j hj), fun r hr => (hcircuits _).trans (hnamed r hr),
      fun j _ hj => (hcircuits j).trans ((htaken.others j ?_).trans (hcircuit j)), ?_, ?_, fun b hb => ?_⟩
    · exact List.forall_mem_map.mpr hj
    · have hrecord : recordsRecord s k dt (rs.map recordOf) (heardRecord k s) = record := by
        rw [recordsRecord, List.foldl_map]; rfl
      exact (hrecord ▸ htaken.record.trans (feederOrderCheck_agree k _ u)).sameRecord
    · simp only [hcircuits]
      exact feederOrderCheck_follows hfollow (recordsDisagree_iff fun r hr => by
        rw [hnamed r hr]; exact afterRecord_absent_iff s k dt (recordOf r))
    · have hfirst := hkept b
      have hmiddle := htaken.opened.kept b hb
      have hlast := feederOrderCheck_kept k (rs.map recordOf) u b
      cases b <;> simp_all [Block.same]
  · refine congrArg Host.Outcome.next ?_
    have hnone : parseFeeder (count :: rest) = none := by
      rw [parseFeeder]
      by_cases hcount : count.toNat ≤ 8
      · rw [if_pos hcount, feederRecords_short _ _ (hbad.resolve_left (by omega))]
      · rw [if_neg hcount]
    rw [Machine.feederSample, hnone]

end Sys2Proof.Proofs
end

section
namespace Sys2Proof.Proofs
open Sys2Proof.Machine Sys2Proof.Safety

/-! ## The saw's slot through several operations (R138) -/

/-- Operations of the saw in sequence follow its order where it does not come back to what it was. -/
theorem Follow.trans_order {s t u : State} (hst : Follow s t) (htu : Follow t u) (hwater : t.water = s.water)
    (hhamlet : t.hamlet = s.hamlet) (hone : u.saw.order = s.saw.order → t.saw.order = s.saw.order) : Follow s u := by
  refine hst.trans htu fun k hback => ?_
  match k with
  | 0 => simp [slotOrder, hwater]
  | 1 => simpa [slotOrder] using hone (by simpa [slotOrder] using hback)
  | k + 2 => simp [slotOrder, positions, State.circuit, hhamlet]

theorem setSawOrder_follow (o : SawOrder) (s : State) : Follow s (setSawOrder o s) :=
  .of_ordersFollow (.of_saw (by simp) (by simp) (by simp) (by simp))

theorem mapSaw_follow (f : Saw → Saw) {s : State} (hf : (f s.saw).order = s.saw.order) : Follow s (s.mapSaw f) := by
  refine .of_same rfl ?_ ⟨_, _, rfl⟩
  funext k
  match k with
  | 0 => rfl
  | 1 => exact congrArg (fun o => some (Order.saw o)) hf
  | k + 2 => rfl

theorem mapSaw_agree (f : Saw → Saw) (s : State) : RecordAgree s (s.mapSaw f) := .of_loop rfl rfl rfl rfl rfl

/-- An operation that has taken only echo and verdict is followed by others that leave these two. -/
theorem follow_of_verdict {s t u : State} {n : Nat} {v : Verdict} (hst : Follow s t) (hwater : t.water = s.water)
    (hhamlet : t.hamlet = s.hamlet) (horder : t.saw.order = { s.saw.order with echo := n, verdict := v })
    (htu : Follow t u) (hecho : u.saw.order.echo = n) (hverdict : u.saw.order.verdict = v) : Follow s u := by
  refine hst.trans_order htu hwater hhamlet fun hback => ?_
  rw [hback] at hecho hverdict
  rw [horder, ← hecho, ← hverdict]

theorem follow_after_verdict {s u : State} {n : Nat} {v : Verdict} (h : Follow (setVerdict n v s) u)
    (hecho : u.saw.order.echo = n) (hverdict : u.saw.order.verdict = v) : Follow s u :=
  follow_of_verdict (setSawOrder_follow _ s) (by simp) (by simp) (by simp) h hecho hverdict

theorem journalAppend_follow (kind : JournalKind) (x : Option Nat) (v : Int) (s : State) :
    Follow s (journalAppend kind x v s) := .of_same rfl rfl ⟨_, _, rfl⟩

/-- A reservation begins, with its SAW entry (R140). -/
theorem enterReserving_spec (s : State) :
    (enterReserving s).saw = { s.saw with
      state := .reserving, reserve := some (s.setting Setting.RESERVE_TIMEOUT * 2000000)
      order := { s.saw.order with lamp := .wait } } ∧
    RecordAgree (sawNoted 1 s) (enterReserving s) ∧ Follow s (enterReserving s) := by
  refine ⟨by simp [enterReserving, seconds], ?_, .of_ordersFollow (.of_saw (by simp) (by simp) (by simp) ?_)⟩
  · have horder := fun f : Saw → Saw => (mapSaw_agree f s).trans
      (setSawOrder_agree { s.saw.order with lamp := .wait } (s.mapSaw f))
    exact (horder _).journalAppend .saw none 1
  · simp [enterReserving, setSawOrder_mapSaw_loop]

/-! ## The operator's requests (Table 7-3) -/

theorem startRequest_denied {n reason : Nat} {s : State} (h : s.startDenial = some reason) :
    startRequest n s = journalAppend .sawDenied none reason (setLamp .stop (setVerdict n .refused s)) := by
  rw [startRequest, h]

theorem startRequest_accepted {n : Nat} {s : State} (h : s.startDenial = none) :
    startRequest n s = enterReserving (setVerdict n .accepted s) := by
  rw [startRequest, h]

theorem lamp_follow (n : Nat) (v : Verdict) (l : Lamp) (s : State) : Follow s (setLamp l (setVerdict n v s)) :=
  follow_after_verdict (setSawOrder_follow _ _) (by simp [setLamp, setVerdict]) (by simp [setLamp, setVerdict])

theorem startRequest_follow (n : Nat) (s : State) : Follow s (startRequest n s) := by
  cases h : s.startDenial with
  | none =>
    rw [startRequest_accepted h]
    obtain ⟨hsaw, -, hfollow⟩ := enterReserving_spec (setVerdict n .accepted s)
    exact follow_after_verdict hfollow (by rw [hsaw, setVerdict_saw]) (by rw [hsaw, setVerdict_saw])
  | some reason =>
    rw [startRequest_denied h]
    exact (lamp_follow n .refused .stop s).trans_order (journalAppend_follow .sawDenied none reason _) (by simp) (by simp) id

theorem extendRequest_follow (n : Nat) (s : State) : Follow s (extendRequest n s) := by
  unfold extendRequest
  split
  · split
    · next g _ _ =>
      have hgrant : Follow s (s.mapSaw fun w => { w with
          grant := some (min (g + s.setting Setting.EXTEND_LENGTH * 60) 14400) }) := mapSaw_follow _ rfl
      exact hgrant.trans_order (setSawOrder_follow _ _) rfl rfl fun _ => rfl
    · exact setSawOrder_follow _ s
  · exact setSawOrder_follow _ s

theorem takeRequest_follow (n : Nat) (r : SawRequest) (s : State) : Follow s (takeRequest n r s) := by
  have hverdict : ∀ v, Follow s (setVerdict n v s) := fun v => setSawOrder_follow _ s
  have hidle : Follow s (enterSawIdle .dark (setVerdict n .accepted s)) := by
    obtain ⟨⟨hsaw, -, -⟩, -, hfollow, -⟩ := enterSawIdle_spec .dark (setVerdict n .accepted s)
    exact follow_after_verdict hfollow (by rw [hsaw, setVerdict_saw]) (by rw [hsaw, setVerdict_saw])
  have hstops : Follow s (enterSawStopping (setVerdict n .accepted s)) := by
    obtain ⟨hsaw, -, hfollow, -⟩ := enterSawStopping_spec (setVerdict n .accepted s)
    exact follow_after_verdict hfollow (by rw [hsaw, setVerdict_saw]) (by rw [hsaw, setVerdict_saw])
  cases r with
  | unknown => exact hverdict _
  | none => cases hstate : s.saw.state <;> simp only [takeRequest, hstate, hverdict, lamp_follow]
  | start => cases hstate : s.saw.state <;> simp only [takeRequest, hstate, hverdict, startRequest_follow]
  | stop => cases hstate : s.saw.state <;> simp only [takeRequest, hstate, hverdict, lamp_follow, hidle, hstops]
  | extend => cases hstate : s.saw.state <;> simp only [takeRequest, hstate, hverdict, lamp_follow, extendRequest_follow]

theorem setVerdict_agree (n : Nat) (v : Verdict) (s : State) : RecordAgree s (setVerdict n v s) :=
  setSawOrder_agree _ s

theorem lamp_agree (n : Nat) (v : Verdict) (l : Lamp) (s : State) :
    RecordAgree s (setLamp l (setVerdict n v s)) := (setVerdict_agree n v s).trans (setSawOrder_agree _ _)

theorem extendRequest_agree (n : Nat) (s : State) : RecordAgree s (extendRequest n s) := by
  unfold extendRequest
  split
  · split
    · exact (mapSaw_agree _ s).trans (setVerdict_agree n _ _)
    · exact setVerdict_agree n _ s
  · exact setVerdict_agree n _ s

/-- The requests that make no entry in the journal: all but START in IDLE and STOP of a cut. -/
theorem takeRequest_agree {n : Nat} {r : SawRequest} {s : State} (hstart : r = .start → s.saw.state ≠ .idle)
    (hstop : r = .stop → s.saw.state = .idle ∨ s.saw.state = .stopping) : RecordAgree s (takeRequest n r s) := by
  cases r with
  | unknown => exact setVerdict_agree n _ s
  | none => cases hstate : s.saw.state <;> simp only [takeRequest, hstate, setVerdict_agree, lamp_agree]
  | start =>
    have hnot := hstart rfl
    cases hstate : s.saw.state with
    | idle => exact absurd hstate hnot
    | reserving | engaging | running | stopping => simp only [takeRequest, hstate, setVerdict_agree]
  | stop => rcases hstop rfl with hstate | hstate <;> simp only [takeRequest, hstate, setVerdict_agree, lamp_agree]
  | extend =>
    cases hstate : s.saw.state <;> simp only [takeRequest, hstate, setVerdict_agree, lamp_agree, extendRequest_agree]

/-- Only a STOP of a reservation touches the gain request and the list. -/
theorem takeRequest_calm {n : Nat} {r : SawRequest} {s : State} (h : r ≠ .stop ∨ s.saw.state ≠ .reserving) :
    (takeRequest n r s).gov = s.gov ∧ (takeRequest n r s).shed = s.shed := by
  unfold takeRequest
  split <;> simp_all

end Sys2Proof.Proofs
end

section
namespace Sys2Proof.Proofs
open Sys2Proof.Machine Sys2Proof.Safety

/-! ## A sample is heard, and the order check (R134, R136, R138) -/

/-- The state after the end of SAW_SILENT's cause, where the mark was set. -/
def sawHeardRecord (s : State) : State := if s.saw.silent then causeEnd .sawSilent s else s

theorem sawHeard_saw (s : State) : (sawHeard s).saw = { s.saw with
    silence := if s.address 2 = 0 then none else some 0, silent := false } := by
  have hrestart : restartSilence (s.mapped Role.SAW) = if s.address 2 = 0 then none else some 0 :=
    restartSilence_mapped s Role.SAW
  unfold sawHeard
  rw [hrestart]
  cases s.saw.silent <;> rfl

theorem sawHeard_agree (s : State) : RecordAgree (sawHeardRecord s) (sawHeard s) := by
  unfold sawHeard sawHeardRecord
  dsimp only
  split
  · exact (mapSaw_agree _ s).causeEnd .sawSilent
  · exact mapSaw_agree _ s

theorem sawHeard_follow (s : State) : Follow s (sawHeard s) := by
  have hloop : (sawHeard s).loop = s.loop := by simp
  refine .of_same (by simp) ?_ ⟨_, _, hloop⟩
  funext k
  simp [slotOrder, positions, State.circuit, sawHeard_saw]

theorem clutchAgainst_iff (o : ClutchOrder) {c : ClutchReport} (hc : c ≠ .unknown) : clutchAgainst o c = true ↔
    (o = .engage ∧ c ≠ .engaged) ∨ (o = .release ∧ c ≠ .opened) := by
  cases o <;> cases c <;> simp_all [clutchAgainst]

theorem writeSawSlot_loop (s : State) :
    (writeSawSlot s).loop =
      { s.loop with slots := s.loop.slots.mapIdx fun i old =>
          if i = 1 ∧ s.address (i + 1) ≠ 0 then ⟨some (.saw s.saw.order), true⟩ else old } := by
  have hmapped : s.mapped Role.SAW = true ↔ s.address 2 ≠ 0 := by
    rw [State.mapped, bne_iff_ne]
  by_cases hm : s.address 2 = 0
  · rw [writeSawSlot, if_neg (by simp [hmapped, hm])]
    have hkeep : ∀ i, ¬(i = 1 ∧ s.address (i + 1) ≠ 0) := by
      rintro _ ⟨rfl, h⟩; exact h hm
    simp [hkeep, List.mapIdx_eq_zipIdx_map]
  · rw [writeSawSlot, if_pos (hmapped.mpr hm)]
    have hone : ∀ i, (i = 1 ∧ s.address (i + 1) ≠ 0) ↔ i = 1 :=
      fun i => ⟨fun h => h.1, fun h => ⟨h, by subst h; exact hm⟩⟩
    simp only [hone, writeSlot, State.mapLoop, set_eq_mapIdx, SlotNo.SAW]

/-- The saw's slot is written again after operations that the slots follow. -/
theorem slotsFollow_writeSawSlot {s t : State} (h : Follow s t) : SlotsFollow [1] s (writeSawSlot t) := by
  have hafter : slotAfter [1] s (writeSawSlot t) = fun i old =>
      if i = 1 ∧ t.address (i + 1) ≠ 0 then ⟨some (.saw t.saw.order), true⟩ else slotAfter [] s t i old := by
    funext i old
    have hpositions : ∀ j, positions (writeSawSlot t) j = positions t j := fun j => by
      simp [positions, State.circuit]
    rw [h.address]
    by_cases hi : i = 1
    · subst hi
      by_cases hm : s.address 2 = 0 <;> simp [slotAfter, hm]
    · rw [if_neg (by simp [hi])]
      simp [slotAfter, hi, hpositions]
  have hloop := h.slots
  rw [SlotsFollow] at hloop ⊢
  rw [hafter, writeSawSlot_loop, hloop]
  simp only [List.mapIdx_mapIdx, Function.comp_def]

/-- The order check of a sample, after operations that the slots follow. -/
theorem sawOrderCheck_follows {s t : State} (h : Follow s t) {c : ClutchReport} (hc : c ≠ .unknown) :
    SlotsFollow (if (t.saw.order.clutch = .engage ∧ c ≠ .engaged) ∨ (t.saw.order.clutch = .release ∧ c ≠ .opened)
      then [1] else []) s (sawOrderCheck c t) := by
  have hiff := clutchAgainst_iff t.saw.order.clutch hc
  rw [sawOrderCheck]
  by_cases hdue : (t.saw.order.clutch = .engage ∧ c ≠ .engaged) ∨ (t.saw.order.clutch = .release ∧ c ≠ .opened)
  · rw [if_pos hdue, if_pos (hiff.mpr hdue)]
    exact slotsFollow_writeSawSlot h
  · rw [if_neg hdue, if_neg (mt hiff.mp hdue)]
    exact h.slots

theorem sawOrderCheck_agree (c : ClutchReport) (t : State) : RecordAgree t (sawOrderCheck c t) := by
  unfold sawOrderCheck
  split
  · exact .of_slots (by simp) (by simp) ⟨_, writeSawSlot_loop t⟩ (by simp) (by simp)
  · exact .refl t

/-! ## A sample with a new request -/

/-- The sample is heard and its number is the last one. -/
def heardNumber (n : Nat) (s : State) : State := (sawHeard s).mapSaw fun w => { w with lastNumber := some n }

theorem heardNumber_saw (n : Nat) (s : State) : (heardNumber n s).saw = { s.saw with
    silence := if s.address 2 = 0 then none else some 0, silent := false, lastNumber := some n } := by
  rw [heardNumber, State.mapSaw_saw, sawHeard_saw]

theorem heardNumber_follow (n : Nat) (s : State) : Follow s (heardNumber n s) :=
  (sawHeard_follow s).trans_order (mapSaw_follow _ rfl) (by simp) (by simp) fun _ => by rw [sawHeard_saw]

theorem heardNumber_agree (n : Nat) (s : State) : RecordAgree (sawHeardRecord s) (heardNumber n s) :=
  (sawHeard_agree s).trans (mapSaw_agree _ _)

/-- The reports ENGAGED and MOVING where the saw does not act on them. -/
def engagedMoving (w : Saw) : Saw := { w with clutchReport := .engaged, carriageReport := .moving }

theorem applyReports_quiet {x : State} (h : x.saw.state = .engaging → x.saw.engagedSeen = true) :
    applyCarriage .moving (applyClutch .engaged x) = x.mapSaw engagedMoving := by
  have hclutch : applyClutch .engaged x = x.mapSaw fun w => { w with clutchReport := .engaged } := by
    unfold applyClutch
    cases hstate : x.saw.state with
    | engaging => exact if_pos (h hstate)
    | idle | reserving | running | stopping => rfl
  rw [hclutch, applyCarriage, if_neg (by simp)]
  rfl

theorem takeRequest_engaging {n : Nat} {r : SawRequest} {x : State} (h : (takeRequest n r x).saw.state = .engaging) :
    x.saw.state = .engaging ∧ (takeRequest n r x).saw.engagedSeen = x.saw.engagedSeen := by
  have hstart : x.saw.state = .idle → (startRequest n x).saw.state ≠ .engaging := by
    intro hidle
    unfold startRequest
    split
    · simp [(enterReserving_spec _).1]
    · simp [setLamp, hidle]
  have hextend : x.saw.state = .running → (extendRequest n x).saw.state ≠ .engaging := by
    intro hrun
    unfold extendRequest
    repeat' split
    all_goals simp [hrun]
  cases hstate : x.saw.state <;> cases r <;> simp_all [takeRequest, setLamp, Saw.rest]

theorem sawSample_taken {num req : Byte} {old : Nat} {s : State} (hlast : s.saw.lastNumber = some old)
    (hnew : old ≠ num.toNat) (hquiet : s.saw.state = .engaging → s.saw.engagedSeen = true) :
    sawSample [num, req, 1, 1] s = sawOrderCheck .engaged
      ((takeRequest num.toNat (sawRequestOfCode req.toNat) (heardNumber num.toNat s)).mapSaw engagedMoving) := by
  have hrequest : operatorRequest num.toNat (sawRequestOfCode req.toNat) (sawHeard s) =
      takeRequest num.toNat (sawRequestOfCode req.toNat) (heardNumber num.toNat s) := by
    have hlast' : (sawHeard s).saw.lastNumber = some old := by rw [sawHeard_saw]; exact hlast
    unfold operatorRequest
    rw [hlast']
    exact if_neg hnew
  have hreports := applyReports_quiet (x := takeRequest num.toNat (sawRequestOfCode req.toNat) (heardNumber num.toNat s))
    fun h => by
      obtain ⟨hstate, hseen⟩ := takeRequest_engaging h
      rw [hseen]
      rw [heardNumber_saw] at hstate ⊢
      exact hquiet hstate
  rw [sawSample, hrequest, ← hreports]
  rfl

end Sys2Proof.Proofs
end

section
namespace Sys2Proof.Proofs
open Sys2Proof.Machine Sys2Proof.Safety

theorem sawSample_kept (payload : List Byte) (s : State) :
    KeptBut [.saw, .gov, .shed, .journal, .loop, .conds] s (sawSample payload s) := fun b hb => by
  cases b <;> simp_all [Block.same]

/-- A sample is `t` after the operations that end in `z`, before the order check. -/
structure Checked (c : ClutchReport) (s z t : State) : Prop where
  saw : t.saw = z.saw
  gov : t.gov = z.gov
  shed : t.shed = z.shed
  record : RecordAgree z t
  slots : SlotsFollow (if (t.saw.order.clutch = .engage ∧ c ≠ .engaged) ∨ (t.saw.order.clutch = .release ∧ c ≠ .opened)
    then [1] else []) s t

theorem sawOrderCheck_checked {c : ClutchReport} (hc : c ≠ .unknown) {s z : State} (h : Follow s z) :
    Checked c s z (sawOrderCheck c z) := by
  have hsaw : (sawOrderCheck c z).saw = z.saw := by simp
  exact ⟨hsaw, by simp, by simp, sawOrderCheck_agree c z, by rw [hsaw]; exact sawOrderCheck_follows h hc⟩

theorem takeRequest_heard_follow (n : Nat) (r : SawRequest) (s : State) :
    Follow s ((takeRequest n r (heardNumber n s)).mapSaw engagedMoving) := by
  have hrequest : Follow s (takeRequest n r (heardNumber n s)) :=
    (heardNumber_follow n s).trans_order (takeRequest_follow n r _) (by simp [heardNumber]) (by simp [heardNumber])
      fun _ => by rw [heardNumber_saw]
  exact hrequest.trans_order (mapSaw_follow _ rfl) (by simp [heardNumber]) (by simp [heardNumber]) fun h => h

/-- The denial of a START that is heard (R140, Table 7-4). -/
theorem startDenial_heard (n : Nat) (s : State) : (heardNumber n s).startDenial =
    if s.plant.state ≠ .run then some 0 else if s.time.sawOpen = false then some 1
    else if s.tables.feedCurve.ready = false then some 2 else none := by
  have hplant : (heardNumber n s).plant = s.plant := by simp [heardNumber]
  have htime : (heardNumber n s).time = s.time := by simp [heardNumber]
  have htables : (heardNumber n s).tables = s.tables := by simp [heardNumber]
  unfold State.startDenial State.inPlant
  rw [hplant, htime, htables]
  by_cases hrun : s.plant.state = .run <;> simp [hrun]

theorem heardNumber_setting (n i : Nat) (s : State) : (heardNumber n s).setting i = s.setting i :=
  setting_congr (by simp [heardNumber]) i

theorem heardNumber_clock (n : Nat) (s : State) : (heardNumber n s).time = s.time := by simp [heardNumber]

theorem sawNoted_agree {r t : State} (h : RecordAgree r t) (n : Nat) : RecordAgree (sawNoted n r) (sawNoted n t) :=
  h.journalAppend .saw none n

/-- An accepted START of a sample that is heard. -/
theorem start_accepted {n : Nat} {s : State} (hrun : s.plant.state = .run) (hopen : s.time.sawOpen = true)
    (hready : s.tables.feedCurve.ready = true) (hidle : s.saw.state = .idle) :
    (takeRequest n .start (heardNumber n s)).saw = { (setVerdict n .accepted (heardNumber n s)).saw with
      state := .reserving, reserve := some (s.setting Setting.RESERVE_TIMEOUT * 2000000)
      order := { (setVerdict n .accepted (heardNumber n s)).saw.order with lamp := .wait } } ∧
    RecordAgree (sawNoted 1 (sawHeardRecord s)) (takeRequest n .start (heardNumber n s)) := by
  have hstate : (heardNumber n s).saw.state = .idle := by rw [heardNumber_saw]; exact hidle
  have hdenial : (heardNumber n s).startDenial = none := by
    rw [startDenial_heard, if_neg (not_not.mpr hrun), if_neg (by simp [hopen]), if_neg (by simp [hready])]
  have htake : takeRequest n .start (heardNumber n s) = enterReserving (setVerdict n .accepted (heardNumber n s)) := by
    simp only [takeRequest, hstate, startRequest_accepted hdenial]
  obtain ⟨hsaw, hrecord, -⟩ := enterReserving_spec (setVerdict n .accepted (heardNumber n s))
  have hset : (setVerdict n .accepted (heardNumber n s)).setting Setting.RESERVE_TIMEOUT =
      s.setting Setting.RESERVE_TIMEOUT := setting_congr (by simp [heardNumber]) _
  rw [htake, hsaw, hset]
  exact ⟨rfl, (sawNoted_agree ((heardNumber_agree n s).trans (setVerdict_agree n _ _)) 1).trans hrecord⟩

/-- A denied START of a sample that is heard. -/
theorem start_denied {n reason : Nat} {s : State} (hidle : s.saw.state = .idle)
    (hdenial : (heardNumber n s).startDenial = some reason) :
    (takeRequest n .start (heardNumber n s)).saw = (setLamp .stop (setVerdict n .refused (heardNumber n s))).saw ∧
    RecordAgree { sawHeardRecord s with
        journal := (sawHeardRecord s).journal.push (sawHeardRecord s).time.clock .sawDenied none reason }
      (takeRequest n .start (heardNumber n s)) := by
  have hstate : (heardNumber n s).saw.state = .idle := by rw [heardNumber_saw]; exact hidle
  have htake : takeRequest n .start (heardNumber n s) = journalAppend .sawDenied none reason
      (setLamp .stop (setVerdict n .refused (heardNumber n s))) := by
    simp only [takeRequest, hstate, startRequest_denied hdenial]
  rw [htake]
  exact ⟨by simp, ((heardNumber_agree n s).trans (lamp_agree n .refused .stop _)).journalAppend .sawDenied none reason⟩

theorem sawHeardRecord_kept (s : State) : (sawHeardRecord s).journal = s.journal ∧ (sawHeardRecord s).time = s.time := by
  unfold sawHeardRecord
  split <;> simp

/-- A STOP of a reservation that is heard. -/
theorem stop_reserving {n : Nat} {s : State} (h : s.saw.state = .reserving) :
    SawAtRest .dark (setVerdict n .accepted (heardNumber n s)) (takeRequest n .stop (heardNumber n s)) ∧
    RecordAgree (sawNoted 0 (sawHeardRecord s)) (takeRequest n .stop (heardNumber n s)) := by
  have hstate : (heardNumber n s).saw.state = .reserving := by rw [heardNumber_saw]; exact h
  obtain ⟨hrest, hrecord, -, -⟩ := enterSawIdle_spec .dark (setVerdict n .accepted (heardNumber n s))
  have htake : takeRequest n .stop (heardNumber n s) = enterSawIdle .dark (setVerdict n .accepted (heardNumber n s)) := by
    simp only [takeRequest, hstate]
  rw [htake]
  exact ⟨hrest, (sawNoted_agree ((heardNumber_agree n s).trans (setVerdict_agree n _ _)) 0).trans hrecord⟩

/-- A STOP of a cut that is heard. -/
theorem stop_cutting {n : Nat} {s : State} (h : s.saw.state = .engaging ∨ s.saw.state = .running) :
    SawStops (setVerdict n .accepted (heardNumber n s)) (takeRequest n .stop (heardNumber n s)) ∧
    RecordAgree (sawNoted 4 (sawHeardRecord s)) (takeRequest n .stop (heardNumber n s)) := by
  obtain ⟨hstops, hrecord, -, -⟩ := enterSawStopping_spec (setVerdict n .accepted (heardNumber n s))
  have hstate : (heardNumber n s).saw.state = s.saw.state := by rw [heardNumber_saw]
  have htake : takeRequest n .stop (heardNumber n s) = enterSawStopping (setVerdict n .accepted (heardNumber n s)) := by
    rcases h with h | h <;> simp only [takeRequest, hstate, h]
  rw [htake]
  exact ⟨hstops, (sawNoted_agree ((heardNumber_agree n s).trans (setVerdict_agree n _ _)) 4).trans hrecord⟩

end Sys2Proof.Proofs
end

section
namespace Sys2Proof.Proofs
open Sys2Proof.Machine Sys2Proof.Safety

theorem sawRequestOfCode_eq_stop (n : Nat) : sawRequestOfCode n = .stop ↔ n = 2 := by
  unfold sawRequestOfCode
  repeat' split
  all_goals simp_all

theorem sawRequestOfCode_unknown {n : Nat} (h : 3 < n) : sawRequestOfCode n = .unknown := by
  rw [sawRequestOfCode, if_neg (by omega), if_neg (by omega), if_neg (by omega), if_neg (by omega)]

theorem takeRequest_none {n : Nat} {x : State} (h : x.saw.state ≠ .idle) :
    takeRequest n .none x = setVerdict n .none x := by
  cases hstate : x.saw.state with
  | idle => exact absurd hstate h
  | reserving | engaging | running | stopping => simp only [takeRequest, hstate]

theorem takeRequest_start {n : Nat} {x : State} (h : x.saw.state ≠ .idle) :
    takeRequest n .start x = setVerdict n (if x.saw.state = .stopping then .refused else .accepted) x := by
  cases hstate : x.saw.state with
  | idle => exact absurd hstate h
  | reserving | engaging | running => simp only [takeRequest, hstate]; rfl
  | stopping => simp only [takeRequest, hstate]; rfl

/-! ## The clutch report (R144, R148 to R150) -/

/-- What a clutch report does besides being stored. -/
inductive ClutchEffect where
  | stored | engages | fails | rests | failsToRest | raised
deriving DecidableEq

/-- The effect by the saw state then standing. -/
def clutchEffect (w : Saw) (c : ClutchReport) : ClutchEffect :=
  match w.state, c with
  | .engaging, .engaged => if w.engagedSeen then .stored else .engages
  | .engaging, .opened => if w.engagedSeen then .fails else .stored
  | .engaging, .fault => .fails
  | .running, .opened => .fails
  | .running, .fault => .fails
  | .stopping, .opened => if w.releaseOrdered then .rests else .stored
  | .stopping, .fault => if w.releaseOrdered then .failsToRest else .raised
  | _, _ => .stored

namespace ClutchEffect

/-- The effect on the state in which the report is stored. -/
def run (x : State) : ClutchEffect → State
  | stored => x
  | engages => x.mapSaw fun w => { w with
      confirm := none, engagedSeen := true, settle := some (seconds (x.setting Setting.ENGAGE_SETTLE)) }
  | fails => clutchFails x
  | rests => enterSawIdle .dark x
  | failsToRest => clutchFailsToIdle x
  | raised => raise .clutchFault none x

/-- What the effect leaves in conditions and journal. -/
def record (r : State) : ClutchEffect → State
  | stored => r
  | engages => r
  | fails => sawNoted 4 (raise .clutchFault none r)
  | rests => sawNoted 0 r
  | failsToRest => sawNoted 0 (raise .clutchFault none r)
  | raised => raise .clutchFault none r

/-- The saw after a stop that a report makes. -/
def stops (s : State) (w : Saw) : Saw := { w with
  state := .stopping, grant := none, reserve := none, settle := none, confirm := none
  rundown := some (s.setting Setting.RUNDOWN * 2000000), releaseOrdered := false
  order := { w.order with feed := 0, lamp := .stop } }

/-- The saw after it has come to rest. -/
def atRest (lamp : Lamp) (w : Saw) : Saw := { w with
  state := .idle, grant := none, reserve := none, settle := none, confirm := none
  rundown := none, releaseOrdered := false, engagedSeen := false
  order := { w.order with clutch := .release, feed := 0, lamp := lamp } }

/-- The saw after the effect. -/
def saw (s : State) (w : Saw) : ClutchEffect → Saw
  | stored => w
  | engages => { w with
      confirm := none, engagedSeen := true, settle := some (s.setting Setting.ENGAGE_SETTLE * 2000000) }
  | fails => stops s w
  | rests => atRest .dark w
  | failsToRest => atRest .stop w
  | raised => w

theorem record_agree {r r' : State} (h : RecordAgree r r') (e : ClutchEffect) : RecordAgree (e.record r) (e.record r') := by
  cases e with
  | stored | engages => exact h
  | fails => exact sawNoted_agree (h.raise .clutchFault none) 4
  | rests => exact sawNoted_agree h 0
  | failsToRest => exact sawNoted_agree (h.raise .clutchFault none) 0
  | raised => exact h.raise .clutchFault none

/-- The effect in saw, record and slots; only a rest touches the gain request and the list. -/
structure Took (e : ClutchEffect) (x y : State) : Prop where
  saw : y.saw = e.saw x x.saw
  record : RecordAgree (e.record x) y
  follow : Follow x y
  calm : e ≠ .rests → e ≠ .failsToRest → y.gov = x.gov ∧ y.shed = x.shed
  dark : e = .rests → SawAtRest .dark x y
  stop : e = .failsToRest → SawAtRest .stop x y
  tables : y.tables = x.tables
  water : y.water = x.water
  hamlet : y.hamlet = x.hamlet

theorem raise_follow (c : Condition) (x : Option Nat) (s : State) : Follow s (raise c x s) := by
  refine .of_same (by simp) ?_ ⟨_, _, raise_loop c x s⟩
  funext k
  simp [slotOrder, positions, State.circuit]

theorem run_took (e : ClutchEffect) (x : State) : Took e x (e.run x) := by
  cases e with
  | stored => exact ⟨rfl, .refl x, .refl x, fun _ _ => ⟨rfl, rfl⟩, by simp, by simp, rfl, rfl, rfl⟩
  | engages =>
    have hfollow : Follow x (x.mapSaw fun w => { w with
        confirm := none, engagedSeen := true, settle := some (seconds (x.setting Setting.ENGAGE_SETTLE)) }) :=
      mapSaw_follow _ rfl
    exact ⟨rfl, .of_loop rfl rfl rfl rfl rfl, hfollow, fun _ _ => ⟨rfl, rfl⟩, by simp, by simp, rfl, rfl, rfl⟩
  | fails =>
    obtain ⟨hsaw, hrecord, hfollow, -⟩ := enterSawStopping_spec (raise .clutchFault none x)
    refine ⟨?_, hrecord, (raise_follow .clutchFault none x).trans_order hfollow (by simp) (by simp) fun _ => by simp,
      fun _ _ => ⟨by simp [run], by simp [run]⟩, by simp, by simp, by simp [run], by simp [run], by simp [run]⟩
    have hset : (raise .clutchFault none x).setting Setting.RUNDOWN = x.setting Setting.RUNDOWN :=
      setting_congr (by simp) _
    refine Eq.trans hsaw ?_
    rw [hset]
    simp [ClutchEffect.saw, stops]
  | rests =>
    obtain ⟨hrest, hrecord, hfollow, -⟩ := enterSawIdle_spec .dark x
    exact ⟨hrest.1, hrecord, hfollow, by simp, fun _ => hrest, by simp, by simp [run], by simp [run], by simp [run]⟩
  | failsToRest =>
    obtain ⟨⟨hsaw, hgov, hshed⟩, hrecord, hfollow, -⟩ := enterSawIdle_spec .stop (raise .clutchFault none x)
    simp only [raise_frame] at hsaw hgov hshed
    exact ⟨hsaw, hrecord, (raise_follow .clutchFault none x).trans_order hfollow (by simp) (by simp) fun _ => by simp,
      by simp, by simp, fun _ => ⟨hsaw, hgov, hshed⟩, by simp [run], by simp [run], by simp [run]⟩
  | raised =>
    exact ⟨by simp [run, ClutchEffect.saw], .refl _, raise_follow .clutchFault none x, fun _ _ => by simp [run], by simp, by simp,
      by simp [run], by simp [run], by simp [run]⟩

end ClutchEffect

theorem applyClutch_eq (c : ClutchReport) (x : State) : applyClutch c x =
    (clutchEffect x.saw c).run (x.mapSaw fun w => { w with clutchReport := c }) := by
  cases hstate : x.saw.state with
  | idle | reserving => simp only [applyClutch, clutchEffect, hstate, ClutchEffect.run]
  | engaging =>
    cases hseen : x.saw.engagedSeen <;> cases c <;>
      simp [applyClutch, clutchEffect, hstate, hseen, ClutchEffect.run, clutchInEngaging, State.setting]
  | running => cases c <;> simp [applyClutch, clutchEffect, hstate, ClutchEffect.run, clutchInRunning]
  | stopping =>
    cases hreleased : x.saw.releaseOrdered <;> cases c <;>
      simp [applyClutch, clutchEffect, hstate, hreleased, ClutchEffect.run, clutchInStopping]

/-- A clutch report fails the clutch order: FAULT in a cut or while stopping, OPEN in a cut once ENGAGED was seen. -/
def clutchFaults (w : Saw) (c : ClutchReport) : Prop :=
  (c = .fault ∧ w.state ≠ .idle ∧ w.state ≠ .reserving) ∨
    (c = .opened ∧ ((w.state = .engaging ∧ w.engagedSeen = true) ∨ w.state = .running))


/-- The report brings a saw to rest that has ordered the release (R150). -/
def clutchRests (w : Saw) (c : ClutchReport) : Prop := w.state = .stopping ∧ w.releaseOrdered = true ∧ c ≠ .engaged

theorem clutchEffect_record {w : Saw} {c : ClutchReport} (hc : c ≠ .unknown) [Decidable (clutchFaults w c)]
    [Decidable (clutchRests w c)] (r : State) : (clutchEffect w c).record r =
      let r1 := if clutchFaults w c then raise .clutchFault none r else r
      if clutchRests w c then sawNoted 0 r1
      else if clutchFaults w c ∧ w.state ≠ .stopping then sawNoted 4 r1 else r1 := by
  dsimp only
  cases hstate : w.state with
  | idle | reserving => simp [clutchEffect, hstate, ClutchEffect.record, clutchFaults, clutchRests]
  | engaging =>
    cases hseen : w.engagedSeen <;> cases c <;>
      simp_all [clutchEffect, ClutchEffect.record, clutchFaults, clutchRests]
  | running => cases c <;> simp_all [clutchEffect, ClutchEffect.record, clutchFaults, clutchRests]
  | stopping =>
    cases hreleased : w.releaseOrdered <;> cases c <;>
      simp_all [clutchEffect, ClutchEffect.record, clutchFaults, clutchRests]

theorem clutchEffect_rests_iff {w : Saw} {c : ClutchReport} (hc : c ≠ .unknown) :
    (clutchEffect w c = .rests ∨ clutchEffect w c = .failsToRest) ↔ clutchRests w c := by
  cases hstate : w.state <;> cases hseen : w.engagedSeen <;> cases hreleased : w.releaseOrdered <;> cases c <;>
    simp_all [clutchEffect, clutchRests]

/-! ## The carriage report (R149) -/

/-- The saw after the carriage report. -/
def carried (s : State) (m : CarriageReport) (w : Saw) : Saw :=
  if w.state = .stopping ∧ w.releaseOrdered = false ∧ m = .stopped then released s { w with carriageReport := m }
  else { w with carriageReport := m }

theorem applyCarriage_saw (m : CarriageReport) (y : State) : (applyCarriage m y).saw = carried y m y.saw := by
  unfold applyCarriage carried
  dsimp only
  split
  · simp only [orderRelease, setSawOrder_saw]; rfl
  · rfl

theorem orderRelease_follow (s : State) : Follow s (orderRelease s) :=
  .of_ordersFollow (.of_saw (by simp) (by simp) (by simp) (by simp [orderRelease, setSawOrder_mapSaw_loop]))

theorem orderRelease_agree (s : State) : RecordAgree s (orderRelease s) :=
  (mapSaw_agree _ s).trans (setSawOrder_agree _ _)

theorem applyCarriage_follow (m : CarriageReport) (y : State) : Follow y (applyCarriage m y) := by
  have hstored : Follow y (y.mapSaw fun w => { w with carriageReport := m }) := mapSaw_follow _ rfl
  unfold applyCarriage
  dsimp only
  split
  · exact hstored.trans_order (orderRelease_follow _) rfl rfl fun _ => rfl
  · exact hstored

theorem applyCarriage_agree (m : CarriageReport) (y : State) : RecordAgree y (applyCarriage m y) := by
  unfold applyCarriage
  dsimp only
  split
  · exact (mapSaw_agree _ y).trans (orderRelease_agree _)
  · exact mapSaw_agree _ y

end Sys2Proof.Proofs
end

section
namespace Sys2Proof.Proofs
open Sys2Proof.Machine Sys2Proof.Safety

/-! ## The bytes of a report (R134) -/

theorem clutchByte_opened (b : Byte) :
    b = 0 ↔ (if b = 0 then ClutchReport.opened else if b = 1 then .engaged else .fault) = .opened := by
  by_cases hzero : b = 0
  · simp [hzero]
  · rw [if_neg hzero]
    exact iff_of_false hzero (by split <;> decide)

theorem clutchByte_engaged (b : Byte) :
    b = 1 ↔ (if b = 0 then ClutchReport.opened else if b = 1 then .engaged else .fault) = .engaged := by
  by_cases hone : b = 1
  · simp [hone]
  · rw [if_neg hone]
    exact iff_of_false hone (by split <;> decide)

theorem clutchByte_fault (b : Byte) :
    2 ≤ b.toNat ↔ (if b = 0 then ClutchReport.opened else if b = 1 then .engaged else .fault) = .fault := by
  by_cases hzero : b = 0
  · simp [hzero]
  · by_cases hone : b = 1
    · simp [hone]
    · have hzero' : b.toNat ≠ 0 := fun h => hzero (BitVec.eq_of_toNat_eq h)
      have hone' : b.toNat ≠ 1 := fun h => hone (BitVec.eq_of_toNat_eq h)
      rw [if_neg hzero, if_neg hone]
      exact iff_of_true (by omega) rfl

theorem clutchOfCode_toNat (b : Byte) :
    clutchOfCode b.toNat = if b = 0 then .opened else if b = 1 then .engaged else .fault := by
  have hzero : b.toNat = 0 ↔ b = 0 := by simp [BitVec.toNat_eq]
  have hone : b.toNat = 1 ↔ b = 1 := by simp [BitVec.toNat_eq]
  simp only [clutchOfCode, hzero, hone]

theorem carriageOfCode_toNat (b : Byte) : carriageOfCode b.toNat = if b = 0 then .stopped else .moving := by
  have hzero : b.toNat = 0 ↔ b = 0 := by simp [BitVec.toNat_eq]
  simp only [carriageOfCode, hzero]

/-! ## A sample with no new request (R135) -/

/-- The order with the number of a sample: written where no number was known. -/
def numberedOrder (n : Nat) (w : Saw) : SawOrder :=
  if w.lastNumber = none then { w.order with echo := n, verdict := .none } else w.order

/-- The saw after a sample that carries no new request, before its reports. -/
def numbered (n : Nat) (s : State) : Saw := { s.saw with
  silence := if s.address 2 = 0 then none else some 0, silent := false
  lastNumber := some n, order := numberedOrder n s.saw }

theorem numberedOrder_eq (n : Nat) (w : Saw) : numberedOrder n w =
    { w.order with echo := (numberedOrder n w).echo, verdict := (numberedOrder n w).verdict } := by
  unfold numberedOrder
  split <;> rfl

/-- A sample that carries no new request, before its reports. -/
structure Numbered (n : Nat) (s x : State) : Prop where
  saw : x.saw = numbered n s
  follow : Follow s x
  record : RecordAgree (sawHeardRecord s) x
  gov : x.gov = s.gov
  shed : x.shed = s.shed

theorem operatorRequest_numbered {n : Nat} {s : State} (h : s.saw.lastNumber = some n ∨ s.saw.lastNumber = none)
    (r : SawRequest) : Numbered n s (operatorRequest n r (sawHeard s)) := by
  rcases h with h | h
  · have hlast : (sawHeard s).saw.lastNumber = some n := by rw [sawHeard_saw]; exact h
    have heq : operatorRequest n r (sawHeard s) = sawHeard s := by
      unfold operatorRequest
      rw [hlast]
      exact if_pos rfl
    rw [heq]
    refine ⟨?_, sawHeard_follow s, sawHeard_agree s, by simp, by simp⟩
    have horder : numberedOrder n s.saw = s.saw.order := if_neg (by simp [h])
    rw [sawHeard_saw, numbered, horder, ← h]
  · have hlast : (sawHeard s).saw.lastNumber = none := by rw [sawHeard_saw]; exact h
    have heq : operatorRequest n r (sawHeard s) = setVerdict n .none (heardNumber n s) := by
      unfold operatorRequest
      rw [hlast]
      rfl
    rw [heq]
    refine ⟨?_, ?_, (heardNumber_agree n s).trans (setVerdict_agree n _ _), by simp [heardNumber], by simp [heardNumber]⟩
    · have horder : numberedOrder n s.saw = { s.saw.order with echo := n, verdict := .none } := if_pos h
      rw [setVerdict_saw, heardNumber_saw, numbered, horder]
    · exact (heardNumber_follow n s).trans_order (setSawOrder_follow _ _) (by simp [heardNumber]) (by simp [heardNumber])
        fun _ => by rw [heardNumber_saw]

/-! ## The two reports together -/

/-- The state after both reports, before the order check. -/
def reportsTaken (c : ClutchReport) (m : CarriageReport) (x : State) : State := applyCarriage m (applyClutch c x)

namespace ClutchEffect

theorem saw_echo (s : State) (w : Saw) (e : ClutchEffect) : (e.saw s w).order.echo = w.order.echo ∧
    (e.saw s w).order.verdict = w.order.verdict := by
  cases e <;> exact ⟨rfl, rfl⟩

theorem saw_clutch {s : State} {w : Saw} {e : ClutchEffect} (h : (e.saw s w).state = .stopping) :
    (e.saw s w).order.clutch = w.order.clutch := by
  cases e with
  | stored | engages | fails | raised => rfl
  | rests | failsToRest => cases h

end ClutchEffect

theorem carried_order (s : State) (m : CarriageReport) (w : Saw) : (carried s m w).order = w.order ∨
    (w.state = .stopping ∧ (carried s m w).order = { w.order with clutch := .release }) := by
  unfold carried
  split
  · next h => exact .inr ⟨h.1, rfl⟩
  · exact .inl rfl

/-- The effect of the clutch report, then the carriage. -/
structure Reported (e : ClutchEffect) (m : CarriageReport) (x z : State) : Prop where
  saw : z.saw = carried x m (e.saw x x.saw)
  record : RecordAgree (e.record x) z
  follow : Follow x z
  calm : e ≠ .rests → e ≠ .failsToRest → z.gov = x.gov ∧ z.shed = x.shed
  dark : e = .rests → SawAtRest .dark { x with saw := { x.saw with carriageReport := m } } z
  stop : e = .failsToRest → SawAtRest .stop { x with saw := { x.saw with carriageReport := m } } z

theorem carried_atRest (s : State) (m : CarriageReport) (lamp : Lamp) (w : Saw) :
    carried s m (ClutchEffect.atRest lamp w) = { ClutchEffect.atRest lamp w with carriageReport := m } :=
  if_neg (by simp [ClutchEffect.atRest])

theorem run_reported (e : ClutchEffect) (m : CarriageReport) (x : State) :
    Reported e m x (applyCarriage m (e.run x)) := by
  obtain ⟨hsaw, hrecord, hfollow, hcalm, hdark, hstop, htables, hwater, hhamlet⟩ := e.run_took x
  have hcarried : (applyCarriage m (e.run x)).saw = carried x m (e.saw x x.saw) := by
    rw [applyCarriage_saw, hsaw]
    simp only [carried, released, setting_congr htables]
  refine ⟨hcarried, hrecord.trans (applyCarriage_agree m _),
    hfollow.trans_order (applyCarriage_follow m _) hwater hhamlet fun hback => ?_,
    fun h h' => ⟨by simpa using (hcalm h h').1, by simpa using (hcalm h h').2⟩, fun h => ?_, fun h => ?_⟩
  · rw [hsaw]
    rw [hcarried] at hback
    rcases carried_order x m (e.saw x x.saw) with horder | ⟨hstate, horder⟩
    · rw [← horder, hback]
    · have hclutch := e.saw_clutch hstate
      rw [hback] at horder
      have : x.saw.order.clutch = .release := by rw [horder]
      rw [horder, ← this, ← hclutch]
  · obtain ⟨-, hgov, hshed⟩ := hdark h
    refine ⟨?_, by simpa using hgov, by simpa using hshed⟩
    rw [hcarried, h]
    exact carried_atRest x m .dark x.saw
  · obtain ⟨-, hgov, hshed⟩ := hstop h
    refine ⟨?_, by simpa using hgov, by simpa using hshed⟩
    rw [hcarried, h]
    exact carried_atRest x m .stop x.saw

theorem carried_echo (s : State) (m : CarriageReport) (w : Saw) : (carried s m w).order.echo = w.order.echo ∧
    (carried s m w).order.verdict = w.order.verdict := by
  rcases carried_order s m w with h | ⟨-, h⟩ <;> rw [h] <;> exact ⟨rfl, rfl⟩

/-- The carriage of a stopping saw that has not ordered the release. -/
theorem carried_of_stopping {s x : State} {m : CarriageReport} {w w' : Saw} {b : Byte} (hstate : w.state = .stopping)
    (hreleased : w.releaseOrdered = false) (hb : b = 0 ↔ m = .stopped) (hw : { w with carriageReport := m } = w')
    (hset : x.setting Setting.CLUTCH_CONFIRM = s.setting Setting.CLUTCH_CONFIRM) :
    carried x m w = if b = 0 then released s w' else w' := by
  rw [carried, hw]
  by_cases h : b = 0
  · rw [if_pos ⟨hstate, hreleased, hb.mp h⟩, if_pos h, released, hset, released]
  · rw [if_neg fun hall => h (hb.mpr hall.2.2), if_neg h]

/-- A sample that carries no new request, and its reports. -/
structure ReportsOf (c : ClutchReport) (m : CarriageReport) (n : Nat) (s x z t : State) : Prop where
  saw : x.saw = { numbered n s with clutchReport := c }
  record : RecordAgree (sawHeardRecord s) x
  gov : x.gov = s.gov
  shed : x.shed = s.shed
  tables : x.tables = s.tables
  reported : Reported (clutchEffect s.saw c) m x z
  checked : Checked c s z t

theorem reportsOf_sample {n : Nat} {s : State} (h : s.saw.lastNumber = some n ∨ s.saw.lastNumber = none) (r : SawRequest)
    {c : ClutchReport} (hc : c ≠ .unknown) (m : CarriageReport) : ∃ x z, ReportsOf c m n s x z
      (sawOrderCheck c (reportsTaken c m (operatorRequest n r (sawHeard s)))) := by
  obtain ⟨hsaw, hfollow, hrecord, hgov, hshed⟩ := operatorRequest_numbered h r
  have hwater : (operatorRequest n r (sawHeard s)).water = s.water := by simp
  have hhamlet : (operatorRequest n r (sawHeard s)).hamlet = s.hamlet := by simp
  have htables : (operatorRequest n r (sawHeard s)).tables = s.tables := by simp
  generalize operatorRequest n r (sawHeard s) = y at *
  have hstored : Follow s (y.mapSaw fun w => { w with clutchReport := c }) :=
    hfollow.trans_order (mapSaw_follow _ rfl) hwater hhamlet fun h => h
  have heffect : clutchEffect y.saw c = clutchEffect s.saw c := by rw [hsaw]; rfl
  have hreported := run_reported (clutchEffect s.saw c) m (y.mapSaw fun w => { w with clutchReport := c })
  have htaken : reportsTaken c m y =
      applyCarriage m ((clutchEffect s.saw c).run (y.mapSaw fun w => { w with clutchReport := c })) := by
    rw [reportsTaken, applyClutch_eq, heffect]
  have horder : y.saw.order = { s.saw.order with
      echo := (numberedOrder n s.saw).echo, verdict := (numberedOrder n s.saw).verdict } := by
    rw [hsaw]; exact numberedOrder_eq n s.saw
  refine ⟨y.mapSaw fun w => { w with clutchReport := c }, reportsTaken c m y, ?_, hrecord.trans (mapSaw_agree _ y), hgov,
    hshed, htables, htaken ▸ hreported, sawOrderCheck_checked hc ?_⟩
  · rw [State.mapSaw_saw, hsaw]
  · rw [htaken]
    refine follow_of_verdict (n := (numberedOrder n s.saw).echo) (v := (numberedOrder n s.saw).verdict) hstored hwater
      hhamlet horder hreported.follow ?_ ?_
    · rw [hreported.saw, (carried_echo _ _ _).1, (ClutchEffect.saw_echo _ _ _).1]
      simp [horder]
    · rw [hreported.saw, (carried_echo _ _ _).2, (ClutchEffect.saw_echo _ _ _).2]
      simp [horder]

/-- Settles O52: the sample is heard, then its request or its number is taken, then its reports. -/
theorem sawSample : Obligations.SawSample := by
  intro num old req clutch carriage s clutchReport carriageReport heard s0 taken again lit
  refine ⟨fun hlast hne hquiet => ?request, fun hlast => ?reports, fun payload hshort => ?short⟩
  case request =>
    have hnew : old.toNat ≠ num.toNat := fun h => hne (BitVec.eq_of_toNat_eq h).symm
    have ht := sawSample_taken (req := req) hlast hnew hquiet
    obtain ⟨r, hr⟩ : ∃ r, r = sawRequestOfCode req.toNat := ⟨_, rfl⟩
    obtain ⟨t, hx⟩ : ∃ t, t = Machine.sawSample [num, req, 1, 1] s := ⟨_, rfl⟩
    have hcheck := sawOrderCheck_checked (c := .engaged) (by decide) (takeRequest_heard_follow num.toNat r s)
    rw [← hr] at ht
    rw [← ht, ← hx] at hcheck
    obtain ⟨hsaw, hgov, hshed, hrecord, hslots⟩ := hcheck
    have hagree := heardNumber_agree num.toNat s
    have hstate : (heardNumber num.toNat s).saw.state = s.saw.state := by rw [heardNumber_saw]
    have hrecorded : ∀ {q}, RecordAgree q (takeRequest num.toNat r (heardNumber num.toNat s)) → SameRecord q t :=
      fun h => ((h.trans (mapSaw_agree _ _)).trans hrecord).sameRecord
    have hcalm : (r = .start → s.saw.state ≠ .idle) → (r = .stop → s.saw.state = .idle ∨ s.saw.state = .stopping) →
        SameRecord s0 t := fun hstart hstop =>
      hrecorded (hagree.trans (takeRequest_agree (by rwa [hstate]) (by rwa [hstate])))
    have hverdict : ∀ v, takeRequest num.toNat r (heardNumber num.toNat s) =
        setVerdict num.toNat v (heardNumber num.toNat s) → t.saw = taken v := fun v h => by
      rw [hsaw, State.mapSaw_saw, h, setVerdict_saw, heardNumber_saw]; rfl
    have hlamp : ∀ v l, takeRequest num.toNat r (heardNumber num.toNat s) =
        setLamp l (setVerdict num.toNat v (heardNumber num.toNat s)) → t.saw = lit l (taken v) := fun v l h => by
      rw [hsaw, State.mapSaw_saw, h, setLamp, setSawOrder_saw, setVerdict_saw, heardNumber_saw]; rfl
    refine ⟨t, congrArg Host.Outcome.next hx.symm, hslots, hx ▸ sawSample_kept _ s, fun hcalmly => ?_, fun hreq => ?_, fun hreq => ?_,
      fun hreq hidle => ⟨fun hrun hopen hready => ?_, fun reason hreason => ?_⟩, fun hreq hidle => ?_, fun hreq => ?_, fun hreq => ?_⟩
    · have hkind : r ≠ .stop ∨ (heardNumber num.toNat s).saw.state ≠ .reserving := by
        refine hcalmly.imp (fun h hstop => h ?_) fun h => by rwa [hstate]
        rw [hr, sawRequestOfCode_eq_stop] at hstop
        exact BitVec.eq_of_toNat_eq hstop
      obtain ⟨hgov', hshed'⟩ := takeRequest_calm (n := num.toNat) hkind
      exact ⟨(hgov.trans hgov').trans (by simp [heardNumber]), (hshed.trans hshed').trans (by simp [heardNumber])⟩
    · have hkind : r = .unknown := hr.trans (sawRequestOfCode_unknown hreq)
      exact ⟨hverdict _ (by rw [hkind]; rfl), hcalm (by simp [hkind]) (by simp [hkind])⟩
    · have hkind : r = .none := by rw [hr, hreq]; rfl
      refine ⟨hcalm (by simp [hkind]) (by simp [hkind]), ?_⟩
      by_cases hidle : s.saw.state = .idle
      · rw [if_pos hidle]
        exact hlamp _ _ (by simp only [takeRequest, hkind, hstate, hidle])
      · rw [if_neg hidle]
        exact hverdict _ (by rw [hkind, takeRequest_none (hstate ▸ hidle)])
    · have hkind : r = .start := by rw [hr, hreq]; rfl
      obtain ⟨hvalue, hnoted⟩ := start_accepted (n := num.toNat) hrun hopen hready hidle
      rw [← hkind] at hvalue hnoted
      refine ⟨?_, hrecorded hnoted⟩
      rw [hsaw, State.mapSaw_saw, hvalue, setVerdict_saw, heardNumber_saw]
      rfl
    · have hkind : r = .start := by rw [hr, hreq]; rfl
      have hdenial : (heardNumber num.toNat s).startDenial = some reason := by
        rw [startDenial_heard]
        rcases hreason with ⟨rfl, h⟩ | ⟨rfl, h, h'⟩ | ⟨rfl, h, h', h''⟩ <;> simp_all
      obtain ⟨hvalue, hnoted⟩ := start_denied hidle hdenial
      rw [← hkind] at hvalue hnoted
      obtain ⟨hjournal, htime⟩ := sawHeardRecord_kept s
      refine ⟨?_, ?_⟩
      · rw [hsaw, State.mapSaw_saw, hvalue, setLamp, setSawOrder_saw, setVerdict_saw, heardNumber_saw]
        rfl
      · rw [hjournal, htime] at hnoted
        exact hrecorded hnoted
    · have hkind : r = .start := by rw [hr, hreq]; rfl
      refine ⟨hcalm (fun _ => hidle) (by simp [hkind]), hverdict _ ?_⟩
      rw [hkind, takeRequest_start (hstate ▸ hidle), hstate]
    · have hkind : r = .stop := by rw [hr, hreq]; rfl
      refine ⟨fun hidle => ⟨hlamp _ _ (by simp only [takeRequest, hkind, hstate, hidle]),
          hcalm (by simp [hkind]) fun _ => .inl hidle⟩, fun hreserving => ?_, fun hcutting => ?_,
        fun hstopping => ⟨hverdict _ (by simp only [takeRequest, hkind, hstate, hstopping]),
          hcalm (by simp [hkind]) fun _ => .inr hstopping⟩⟩
      · obtain ⟨⟨hvalue, hgov', hshed'⟩, hnoted⟩ := stop_reserving (n := num.toNat) hreserving
        rw [← hkind] at hvalue hgov' hshed' hnoted
        refine ⟨⟨?_, ?_, ?_⟩, hrecorded hnoted⟩
        · rw [hsaw, State.mapSaw_saw, hvalue, setVerdict_saw, heardNumber_saw]
          rfl
        · rw [hgov, State.mapSaw_gov, hgov']
          simp [heardNumber]
        · rw [hshed, State.mapSaw_shed, hshed']
          simp [heardNumber]
      · obtain ⟨hvalue, hnoted⟩ := stop_cutting (n := num.toNat) hcutting
        rw [← hkind] at hvalue hnoted
        refine ⟨?_, hrecorded hnoted⟩
        have hset : (setVerdict num.toNat .accepted (heardNumber num.toNat s)).setting Setting.RUNDOWN =
            s.setting Setting.RUNDOWN := setting_congr (by simp [heardNumber]) _
        rw [SawStops, hsaw, State.mapSaw_saw, hvalue, hset, setVerdict_saw, heardNumber_saw]
        rfl
    · have hkind : r = .extend := by rw [hr, hreq]; rfl
      refine ⟨hcalm (by simp [hkind]) (by simp [hkind]),
        fun hidle => hlamp _ _ (by simp only [takeRequest, hkind, hstate, hidle]), fun hwaiting => hverdict _ ?_,
        fun hstopping => hverdict _ (by simp only [takeRequest, hkind, hstate, hstopping]), fun g hgrant hrun => ?_⟩
      · rcases hwaiting with h | h <;> simp only [takeRequest, hkind, hstate, h]
      · have hgrant' : (heardNumber num.toNat s).saw.grant = some g := by rw [heardNumber_saw]; exact hgrant
        have htake : takeRequest num.toNat r (heardNumber num.toNat s) = extendRequest num.toNat (heardNumber num.toNat s) := by
          simp only [takeRequest, hkind, hstate, hrun]
        rw [extendRequest, hgrant'] at htake
        simp only [heardNumber_setting] at htake
        by_cases hleft : s.setting Setting.EXTEND_MIN_LEFT * 60 ≤ g
        · rw [if_pos hleft] at htake ⊢
          rw [hsaw, State.mapSaw_saw, htake, setVerdict_saw, State.mapSaw_saw, heardNumber_saw]
          rfl
        · rw [if_neg hleft] at htake ⊢
          exact hverdict _ htake
  case reports =>
    intro w s1 stops byCarriage loses faults rests r
    have hc : clutchReport ≠ .unknown := by
      simp only [clutchReport]
      split
      · decide
      · split <;> decide
    have hopened : clutch = 0 ↔ clutchReport = .opened := clutchByte_opened clutch
    have hengaged : clutch = 1 ↔ clutchReport = .engaged := clutchByte_engaged clutch
    have hfault : 2 ≤ clutch.toNat ↔ clutchReport = .fault := clutchByte_fault clutch
    have hstopped : carriage = 0 ↔ carriageReport = .stopped := by
      simp only [carriageReport]
      by_cases h : carriage = 0 <;> simp [h]
    have ht : Machine.sawSample [num, req, clutch, carriage] s = sawOrderCheck clutchReport
        (reportsTaken clutchReport carriageReport (operatorRequest num.toNat (sawRequestOfCode req.toNat) (sawHeard s))) := by
      rw [Machine.sawSample, clutchOfCode_toNat, carriageOfCode_toNat]
      rfl
    obtain ⟨t, hx⟩ : ∃ t, t = Machine.sawSample [num, req, clutch, carriage] s := ⟨_, rfl⟩
    obtain ⟨x, z, hx1, hrec1, hgov1, hshed1, htab1, hz, ⟨hsaw, hgov, hshed, hrecord, hslots⟩⟩ :=
      reportsOf_sample hlast (sawRequestOfCode req.toNat) hc carriageReport
    rw [← ht, ← hx] at hsaw hgov hshed hrecord hslots
    have hcond : faults = clutchFaults s.saw clutchReport ∧ rests = clutchRests s.saw clutchReport := by
      simp only [faults, loses, rests, clutchFaults, clutchRests, hopened, hengaged, hfault, ne_eq, and_self]
    have hvalue : ∀ e, clutchEffect s.saw clutchReport = e → t.saw = carried x carriageReport (e.saw x x.saw) :=
      fun e he => he ▸ hsaw.trans hz.saw
    have hstore : ∀ e, clutchEffect s.saw clutchReport = e → e.saw x x.saw = x.saw →
        (s.saw.state = .stopping → s.saw.releaseOrdered = true) → t.saw = w := fun e he hkept hreleased => by
      rw [hvalue e he, hkept, carried, if_neg, hx1]
      · rfl
      · rintro ⟨hstate, hnot, -⟩
        rw [hx1] at hstate hnot
        exact Bool.noConfusion (hnot.symm.trans (hreleased hstate))
    have hstore' : ∀ e, clutchEffect s.saw clutchReport = e → e.saw x x.saw = x.saw → s.saw.state = .stopping →
        s.saw.releaseOrdered = false → t.saw = byCarriage w := fun e he hkept hstate hreleased => by
      rw [hvalue e he, hkept]
      exact carried_of_stopping (by rw [hx1]; exact hstate) (by rw [hx1]; exact hreleased) hstopped
        (by rw [hx1]; rfl) (setting_congr htab1 _)
    have hfails : clutchEffect s.saw clutchReport = .fails → t.saw = byCarriage stops := fun he => by
      rw [hvalue _ he]
      refine carried_of_stopping rfl rfl hstopped ?_ (setting_congr htab1 _)
      simp only [ClutchEffect.saw, ClutchEffect.stops, setting_congr htab1, hx1]
      rfl
    have hset := setting_congr htab1 Setting.ENGAGE_SETTLE
    refine ⟨t, congrArg Host.Outcome.next hx.symm, hslots, hx ▸ sawSample_kept _ s, ?_, fun hnot => ?_, fun hstate => ?_,
      fun hstate hseen => ⟨fun hcl => ?_, fun hcl => ?_, fun hcl => ?_⟩, fun hstate => ⟨fun hcl => ?_, fun hcl => ?_⟩,
      fun hstate hreleased => ?_, fun hstate hreleased => ⟨fun hcl => ?_, fun hcl => ?_, fun hcl => ?_⟩⟩
    · classical
      have hagree := ((ClutchEffect.record_agree hrec1 (clutchEffect s.saw clutchReport)).trans hz.record).trans hrecord
      rw [clutchEffect_record hc] at hagree
      have hr : r = if clutchFaults s.saw clutchReport then raise .clutchFault none (sawHeardRecord s) else
          sawHeardRecord s := if_congr (iff_of_eq hcond.1) rfl rfl
      have heq := if_congr (iff_of_eq hcond.2) (congrArg (sawNoted 0) hr)
        (if_congr (and_congr_left' (iff_of_eq hcond.1) : faults ∧ s.saw.state ≠ .stopping ↔ _) (congrArg (sawNoted 4) hr) hr)
      exact (heq ▸ hagree).sameRecord
    · have hnone := mt (clutchEffect_rests_iff hc).mp (hcond.2 ▸ hnot)
      obtain ⟨hgov', hshed'⟩ := hz.calm (fun h => hnone (.inl h)) fun h => hnone (.inr h)
      exact ⟨hgov.trans (hgov'.trans hgov1), hshed.trans (hshed'.trans hshed1)⟩
    · refine hstore .stored ?_ rfl (by rcases hstate with h | h <;> simp [h])
      rcases hstate with h | h <;> simp [clutchEffect, h]
    · exact hstore .stored (by simp [clutchEffect, hstate, hseen, hopened.mp hcl]) rfl (by simp [hstate])
    · rw [hvalue .engages (by simp [clutchEffect, hstate, hseen, hengaged.mp hcl]), carried, if_neg]
      · simp only [ClutchEffect.saw, hset, hx1]
        rfl
      · rintro ⟨h, -⟩
        have : s.saw.state = .stopping := by simpa [ClutchEffect.saw, hx1, numbered] using h
        simp [hstate] at this
    · exact hfails (by simp [clutchEffect, hstate, hfault.mp hcl])
    · refine hstore .stored ?_ rfl (by rcases hstate with ⟨h, -⟩ | h <;> simp [h])
      rcases hstate with ⟨h, h'⟩ | h <;> simp [clutchEffect, hengaged.mp hcl, *]
    · refine hfails ?_
      have hne : clutchReport ≠ .engaged := mt hengaged.mpr hcl
      rcases hstate with ⟨h, h'⟩ | h <;> cases hreport : clutchReport <;> simp_all [clutchEffect]
    · have heffect : clutchEffect s.saw clutchReport = .stored ∨ clutchEffect s.saw clutchReport = .raised := by
        cases hreport : clutchReport <;> simp [clutchEffect, hstate, hreleased]
      rcases heffect with h | h
      · exact hstore' _ h rfl hstate hreleased
      · exact hstore' _ h rfl hstate hreleased
    · obtain ⟨hrest, hgov', hshed'⟩ := hz.dark (by simp [clutchEffect, hstate, hreleased, hopened.mp hcl])
      refine ⟨?_, (hgov.trans hgov').trans ?_, (hshed.trans hshed').trans ?_⟩
      · rw [hsaw, hrest, hx1]; rfl
      · simp only [hgov1]; rfl
      · simp only [hshed1]; rfl
    · exact hstore .stored (by simp [clutchEffect, hstate, hengaged.mp hcl]) rfl fun _ => hreleased
    · obtain ⟨hrest, hgov', hshed'⟩ := hz.stop (by simp [clutchEffect, hstate, hreleased, hfault.mp hcl])
      refine ⟨?_, (hgov.trans hgov').trans ?_, (hshed.trans hshed').trans ?_⟩
      · rw [hsaw, hrest, hx1]; rfl
      · simp only [hgov1]; rfl
      · simp only [hshed1]; rfl
  case short =>
    match payload, hshort with
    | [], _ | [_], _ | [_, _], _ | [_, _, _], _ => rfl

end Sys2Proof.Proofs
end

section
namespace Sys2Proof.Proofs
open Sys2Proof.Machine Sys2Proof.Safety

/-! ## New members of a list (R177) -/

/-- A span within the list is written over the members that stand there. -/
theorem splice_eq_overwritten {α : Type} {old new : List α} {n : Nat} (h : n + new.length ≤ old.length) :
    splice old n new = overwritten old n new := by
  refine List.ext_getElem? fun i => ?_
  simp only [splice, overwritten, List.getElem?_mapIdx]
  by_cases hbefore : i < n
  · rw [List.append_assoc, List.getElem?_append_left (by rw [List.length_take]; omega), List.getElem?_take_of_lt hbefore]
    simp [Nat.not_le.mpr hbefore]
  by_cases hin : i < n + new.length
  · have hlt : i < old.length := by omega
    have hnew : i - n < new.length := by omega
    rw [List.append_assoc, List.getElem?_append_right (by rw [List.length_take]; omega), List.length_take,
      Nat.min_eq_left (by omega), List.getElem?_append_left hnew, List.getElem?_eq_getElem hnew,
      List.getElem?_eq_getElem hlt]
    simp [Nat.not_lt.mp hbefore]
  · rw [List.getElem?_append_right (by rw [List.length_append, List.length_take]; omega), List.length_append,
      List.length_take, Nat.min_eq_left (by omega), List.getElem?_drop]
    have hnone : new[i - n]? = none := List.getElem?_eq_none (by omega)
    simp only [hnone, Option.getD_none, ite_self, Option.map_id']
    congr 1
    omega

theorem length_overwritten {α : Type} (old new : List α) (n : Nat) : (overwritten old n new).length = old.length := by
  simp [overwritten]

/-- A member of the span. -/
theorem getD_overwritten_in {α : Type} {old new : List α} {n k : Nat} (h : n + new.length ≤ old.length)
    (hk : k < new.length) (d : α) : (overwritten old n new).getD (n + k) d = new.getD k d := by
  have hlt : n + k < old.length := by omega
  simp [overwritten, List.getD_eq_getElem?_getD, List.getElem?_mapIdx, List.getElem?_eq_getElem hlt,
    List.getElem?_eq_getElem hk]

theorem words16_flatMap_be16 (ws : List Word16) : words16 ((ws.map fun w => w.toNat).flatMap be16) = ws.map fun w => w.toNat := by
  induction ws with
  | nil => rfl
  | cons w ws ih =>
    rw [List.map_cons, List.flatMap_cons]
    have hw := w.isLt
    have hbytes : be16 w.toNat = [byteOf (w.toNat / 256), byteOf w.toNat] := rfl
    rw [hbytes, List.cons_append, List.cons_append, List.nil_append, words16, ih]
    congr 1
    simp only [u16, byteOf, BitVec.toNat_ofNat]
    omega

/-! ## WRITE ENTRIES, check by check (R177) -/

/-- The checks of a write before its values see only the table, the span and the plant state. -/
theorem writeEntries_badTable {id first count : Nat} {values : List Byte} {s : State} (h : id = 0 ∨ 10 < id) :
    writeEntries id first count values s = ⟨s, .badTable, []⟩ := by
  rw [writeEntries, tableEntries_of_unknown h]

theorem writeEntries_badSpan {id first count size : Nat} {values : List Byte} {s : State}
    (hsize : s.tableEntries id = some size) (h : writeSpanFault id size first count values.length = true) :
    writeEntries id first count values s = ⟨s, .badSpan, []⟩ := by
  rw [writeEntries, hsize]
  exact if_pos h

/-- A write whose span is right: `body` holds the bytes of its values. -/
structure SpanRight (id first count : Nat) (values body : List Byte) (s : State) : Prop where
  table : ∃ size, s.tableEntries id = some size ∧ writeSpanFault id size first count values.length = false
  body : values.take (count * writtenSize id) = body

theorem writeEntries_wrongState {id first count : Nat} {values body : List Byte} {s : State}
    (h : SpanRight id first count values body s) (hstate : s.writeStateFault id first count = true) :
    writeEntries id first count values s = ⟨s, .wrongState, []⟩ := by
  obtain ⟨⟨size, hsize, hspan⟩, -⟩ := h
  rw [writeEntries, hsize]
  simp only [hspan, hstate]
  rfl

theorem writeEntries_fault {id first count : Nat} {values body : List Byte} {s : State}
    (h : SpanRight id first count values body s) (hstate : s.writeStateFault id first count = false) {o : ReqOutcome}
    (hcheck : valuesCheck id first body s = o) (ho : o ≠ .done) :
    writeEntries id first count values s = ⟨s, o, []⟩ := by
  obtain ⟨⟨size, hsize, hspan⟩, hbody⟩ := h
  rw [writeEntries, hsize]
  simp only [hspan, hstate, hbody, hcheck]
  cases o <;> rfl

theorem writeEntries_done {id first count : Nat} {values body : List Byte} {s : State}
    (h : SpanRight id first count values body s) (hstate : s.writeStateFault id first count = false)
    (hcheck : valuesCheck id first body s = .done) :
    writeEntries id first count values s = ⟨afterWrite id first count s
      (journalAppend .tableWrite none id (storeWrite id first count body s)), .done, []⟩ := by
  obtain ⟨⟨size, hsize, hspan⟩, hbody⟩ := h
  rw [writeEntries, hsize]
  simp only [hspan, hstate, hbody, hcheck]
  rfl

theorem valuesCheck_holding (id first : Nat) (bytes : List Byte) (s : State) :
    valuesCheck id first bytes (holding s) = valuesCheck id first bytes s := by
  have hcircuits : ∀ (xs : List CircuitFields) (i : Nat), circuitsCheck (holding s) i xs = circuitsCheck s i xs := by
    intro xs
    induction xs with
    | nil => exact fun _ => rfl
    | cons x xs ih =>
      intro i
      rw [circuitsCheck, circuitsCheck, ih]
      rfl
  simp only [valuesCheck, hcircuits]
  rfl

end Sys2Proof.Proofs
end

section
namespace Sys2Proof.Proofs
open Sys2Proof.Machine Sys2Proof.Safety

/-! ## A write of a span that is right (R177) -/

theorem spanRight_of_body {id first count size : Nat} {body extra : List Byte} {s : State}
    (hsize : s.tableEntries id = some size) (hcount : 1 ≤ count) (hfit : first + count ≤ size)
    (hbytes : count * writtenSize id ≤ 56) (hbody : body.length = count * writtenSize id) (hid : id ≠ 9 ∧ id ≠ 10) :
    SpanRight id first count (body ++ extra) body s := by
  refine ⟨⟨size, hsize, ?_⟩, by rw [← hbody, List.take_left]⟩
  have hcount' : (count == 0) = false := by simp; omega
  have hid' : (id == 9) = false ∧ (id == 10) = false := by simpa using hid
  simp only [writeSpanFault, hcount', hid'.1, hid'.2, Bool.false_or, Bool.or_false, Bool.or_eq_false_iff,
    decide_eq_false_iff_not, List.length_append]
  omega

/-- What `WRITE ENTRIES` comes to, by its checks. -/
structure WriteOutcome (src : Byte) (tag : Word16) (table first count : Byte) (values body : List Byte) (s : State) :
    Prop where
  wrongState : s.writeStateFault table.toNat first.toNat count.toNat = true →
    exec (.writeEntries src tag table first count values) s = .next (answered src tag 2 .wrongState [] s)
  fault : s.writeStateFault table.toNat first.toNat count.toNat = false → ∀ o, o ≠ .done →
    valuesCheck table.toNat first.toNat body s = o →
    exec (.writeEntries src tag table first count values) s = .next (answered src tag 2 o [] s)
  done : s.writeStateFault table.toNat first.toNat count.toNat = false →
    valuesCheck table.toNat first.toNat body s = .done → ∀ m,
    afterWrite table.toNat first.toNat count.toNat (holding s) (journalAppend .tableWrite none table.toNat
      (storeWrite table.toNat first.toNat count.toNat body (holding s))) = m →
    exec (.writeEntries src tag table first count values) s = .next (answered src tag 2 .done [] m)

theorem spanRight_holding {id first count : Nat} {values body : List Byte} {s : State}
    (h : SpanRight id first count values body s) : SpanRight id first count values body (holding s) := by
  obtain ⟨⟨size, hsize, hspan⟩, hbody⟩ := h
  exact ⟨⟨size, (tableEntries_holding s id).trans hsize, hspan⟩, hbody⟩

theorem writeOutcome {src : Byte} {tag : Word16} {table first count : Byte} {values body : List Byte} {s : State}
    (hroom : s.answerRoom = true) (h : SpanRight table.toNat first.toNat count.toNat values body s) :
    WriteOutcome src tag table first count values body s := by
  have hright := spanRight_holding h
  refine ⟨fun hstate => ?_, fun hstate o ho hcheck => ?_, fun hstate hcheck m hm => ?_⟩
  · exact congrArg Host.Outcome.next (serve_eq_answered_of_holding src tag 2 hroom
      (writeEntries_wrongState hright hstate))
  · exact congrArg Host.Outcome.next (serve_eq_answered_of_holding src tag 2 hroom
      (writeEntries_fault hright hstate ((valuesCheck_holding _ _ _ _).trans hcheck) ho))
  · exact congrArg Host.Outcome.next (serve_eq_answered src tag 2 hroom
      ((writeEntries_done hright hstate ((valuesCheck_holding _ _ _ _).trans hcheck)).trans (by rw [hm])))

/-- An answer frees the place that the request held. -/
theorem answered_holding (src : Byte) (tag : Word16) (o : ReqOutcome) (m : State) :
    answered src tag 2 o [] (holding m) = answered src tag 2 o [] m := rfl

/-- A table with the values of a write. -/
def overTable (t : Table) (n : Nat) (new : List Nat) : Table :=
  ⟨overwritten t.vals n new, overwritten t.marks n (new.map fun _ => true)⟩

theorem write_eq_overTable {t : Table} {n : Nat} {new : List Nat} (hvals : n + new.length ≤ t.vals.length)
    (hmarks : n + new.length ≤ t.marks.length) : t.write n new = overTable t n new := by
  rw [Table.write, overTable, splice_eq_overwritten hvals, splice_eq_overwritten (by simpa using hmarks)]

/-! ## The settings (R179) -/

theorem settingsInRange_iff (n : Nat) (new : List Nat) : settingsInRange n new = true ↔
    ∀ k < new.length, settingInRange (n + k) (new.getD k 0) = true := by
  simp only [settingsInRange, List.all_eq_true]
  constructor
  · intro h k hk
    rw [List.getD_eq_getElem _ _ hk]
    exact h (new[k], k) (List.mem_zipIdx_iff_getElem?.mpr (List.getElem?_eq_getElem hk))
  · rintro h ⟨x, k⟩ hx
    obtain ⟨hk, heq⟩ := List.getElem?_eq_some_iff.mp (List.mem_zipIdx_iff_getElem?.mp hx)
    have := h k hk
    rwa [List.getD_eq_getElem _ _ hk, heq] at this

theorem pairsHold_iff (t : List Nat) (n count : Nat) : pairsHold t n count = true ↔
    ∀ p ∈ settingPairs, (n ≤ p.1 ∧ p.1 < n + count) ∨ (n ≤ p.2 ∧ p.2 < n + count) →
      t.getD p.1 0 < t.getD p.2 0 := by
  simp only [pairsHold, List.all_eq_true]
  refine forall₂_congr fun p _ => ?_
  simp only [inSpan, Bool.or_eq_true, Bool.not_eq_true', Bool.or_eq_false_iff, Bool.and_eq_false_iff,
    decide_eq_true_iff, decide_eq_false_iff_not]
  constructor
  · rintro (h | h) hin
    · omega
    · exact h
  · intro h
    by_cases hin : (n ≤ p.1 ∧ p.1 < n + count) ∨ (n ≤ p.2 ∧ p.2 < n + count)
    · exact .inr (h hin)
    · exact .inl (by omega)

theorem settingsCheck_eq {old new : List Nat} {n : Nat} (hfit : n + new.length ≤ old.length) :
    settingsCheck old n new = if settingsInRange n new = true ∧ pairsHold (overwritten old n new) n new.length = true
      then .done else .badValue := by
  rw [settingsCheck, splice_eq_overwritten hfit]
  simp only [Bool.and_eq_true]

/-- The gate target after a write of settings (R84). -/
theorem gateSettingsWritten_eq (n count : Nat) (w : State) : gateSettingsWritten n count w =
    if (n ≤ Setting.GATE_START ∧ Setting.GATE_START < n + count) ∧ w.plant.state = .runup then
      settleGate (w.setting Setting.GATE_START) w
    else if (n ≤ Setting.GATE_RUN_MIN ∧ Setting.GATE_RUN_MIN < n + count) ∧ w.plant.state = .run ∧
        w.water.gate < w.setting Setting.GATE_RUN_MIN then
      settleGate (w.setting Setting.GATE_RUN_MIN) w
    else w := by
  unfold gateSettingsWritten
  refine if_congr ?_ rfl (if_congr ?_ rfl rfl)
  · simp [inSpan, inPlant_iff]
  · simp [inSpan, inPlant_iff, and_assoc]

/-! ## The tables in order (R41, R74, R76, R153) -/

theorem orderedCheck_eq {le : Nat → Nat → Bool} {greatest : Nat} {old new : List Nat} {n : Nat}
    (hfit : n + new.length ≤ old.length) : orderedCheck le greatest old n new =
      spanFault le greatest (overwritten old n new) n new.length := by
  have hspan : List.range' n new.length = (List.range new.length).map fun k => n + k := List.range'_eq_map_range
  have hrange : (new.any fun v => decide (greatest < v)) =
      (List.range' n new.length).any fun i => decide (greatest < (overwritten old n new).getD i 0) := by
    rw [hspan, List.any_map, Bool.eq_iff_iff, List.any_eq_true, List.any_eq_true]
    constructor
    · rintro ⟨v, hv, hlarge⟩
      obtain ⟨k, hk, rfl⟩ := List.getElem_of_mem hv
      refine ⟨k, List.mem_range.mpr hk, ?_⟩
      rw [Function.comp_apply, getD_overwritten_in hfit hk, List.getD_eq_getElem _ _ hk]
      exact hlarge
    · rintro ⟨k, hk, hlarge⟩
      have hlt := List.mem_range.mp hk
      rw [Function.comp_apply, getD_overwritten_in hfit hlt, List.getD_eq_getElem _ _ hlt] at hlarge
      exact ⟨_, List.getElem_mem hlt, hlarge⟩
  have horder : orderHolds le (overwritten old n new) n new.length =
      (List.range' n new.length).all fun i =>
        (i == 0 || le ((overwritten old n new).getD (i - 1) 0) ((overwritten old n new).getD i 0)) &&
        (decide ((overwritten old n new).length ≤ i + 1) ||
          le ((overwritten old n new).getD i 0) ((overwritten old n new).getD (i + 1) 0)) := by
    rw [hspan, List.all_map]
    rfl
  rw [orderedCheck, spanFault, splice_eq_overwritten hfit, hrange, horder]

end Sys2Proof.Proofs
end

section
namespace Sys2Proof.Proofs
open Sys2Proof.Machine Sys2Proof.Safety

/-- The bytes of a span of two-byte values are right. -/
theorem words_outcome {src : Byte} {tag : Word16} {table first : Byte} {words : List Word16} {extra : List Byte}
    {s : State} {size : Nat} (hroom : s.answerRoom = true) (hlow : 1 ≤ words.length) (hhigh : words.length ≤ 28)
    (hsize : s.tableEntries table.toNat = some size) (hwidth : writtenSize table.toNat = 2)
    (hfit : first.toNat + words.length ≤ size) :
    WriteOutcome src tag table first (byteOf words.length)
      ((words.map fun w => w.toNat).flatMap be16 ++ extra) ((words.map fun w => w.toNat).flatMap be16) s := by
  have hcount : (byteOf words.length).toNat = words.length := toNat_byteOf (by omega)
  have hlength : ((words.map fun w => w.toNat).flatMap be16).length = words.length * 2 := by
    rw [List.length_flatMap, List.map_map]
    simp [Function.comp_def, length_be16]
  have hwritten : table.toNat ≠ 9 ∧ table.toNat ≠ 10 := by
    constructor <;> intro h <;> rw [h] at hwidth <;> cases hwidth
  refine writeOutcome hroom ?_
  rw [hcount]
  exact spanRight_of_body hsize hlow hfit (by rw [hwidth]; omega) (by rw [hwidth, hlength]) hwritten

/-- A write of a table in order, whatever the table is. -/
theorem ordered_write {src : Byte} {tag : Word16} {table first : Byte} {words : List Word16} {extra : List Byte}
    {s after : State} {size greatest : Nat} {le : Nat → Nat → Bool} {old : Table} (hroom : s.answerRoom = true)
    (hlow : 1 ≤ words.length) (hhigh : words.length ≤ 28)
    (hsize : s.tableEntries table.toNat = some size) (hwidth : writtenSize table.toNat = 2)
    (hstate : s.writeStateFault table.toNat first.toNat words.length = false)
    (hvals : old.vals.length = size) (hmarks : old.marks.length = size) (hfit : first.toNat + words.length ≤ size)
    (hcheck : ∀ bytes, valuesCheck table.toNat first.toNat bytes s =
      orderedCheck le greatest old.vals first.toNat (words16 bytes))
    (hafter : ∀ bytes, old.write first.toNat (words16 bytes) = overTable old first.toNat (words.map fun w => w.toNat) →
      afterWrite table.toNat first.toNat words.length (holding s) (journalAppend .tableWrite none table.toNat
        (storeWrite table.toNat first.toNat words.length bytes (holding s))) = holding after) :
    exec (.writeEntries src tag table first (byteOf words.length) ((words.map fun w => w.toNat).flatMap be16 ++ extra)) s =
      .next (if spanFault le greatest (overTable old first.toNat (words.map fun w => w.toNat)).vals first.toNat
          words.length = .done then answered src tag 2 .done [] after
        else answered src tag 2 (spanFault le greatest (overTable old first.toNat (words.map fun w => w.toNat)).vals
          first.toNat words.length) [] s) := by
  obtain ⟨-, hfault, hdone⟩ := words_outcome (src := src) (tag := tag) (extra := extra) hroom hlow hhigh hsize hwidth hfit
  have hcount : (byteOf words.length).toNat = words.length := toNat_byteOf (by omega)
  have hnew : (words.map fun w => w.toNat).length = words.length := List.length_map _
  have hresult : valuesCheck table.toNat first.toNat ((words.map fun w => w.toNat).flatMap be16) s =
      spanFault le greatest (overTable old first.toNat (words.map fun w => w.toNat)).vals first.toNat words.length := by
    rw [hcheck, words16_flatMap_be16, orderedCheck_eq (by omega), hnew]
    rfl
  rw [hcount] at hfault hdone
  by_cases hfine : spanFault le greatest (overTable old first.toNat (words.map fun w => w.toNat)).vals first.toNat
      words.length = .done
  · rw [if_pos hfine, hdone hstate (hresult.trans hfine) (holding after) (hafter _ ?_), answered_holding]
    rw [words16_flatMap_be16, write_eq_overTable (by omega) (by omega)]
  · rw [if_neg hfine]
    exact hfault hstate _ hfine hresult

/-- The span has NOMINAL_HZ or TEETH, and the plant is not in STOPPED. -/
theorem settings_stateFault_iff (n count : Nat) (s : State) : s.writeStateFault 2 n count = true ↔
    ((n ≤ 0 ∧ 0 < n + count) ∨ (n ≤ 3 ∧ 3 < n + count)) ∧ s.plant.state ≠ .stopped := by
  have hfixed : s.writeStateFault 2 n count = (!s.inPlant .stopped && (inSpan n count 0 || inSpan n count 3)) := rfl
  rw [hfixed, Bool.and_eq_true, Bool.or_eq_true, Bool.not_eq_true', inSpan, inSpan, Bool.and_eq_true, Bool.and_eq_true,
    decide_eq_true_iff, decide_eq_true_iff, decide_eq_true_iff, decide_eq_true_iff, and_comm]
  refine and_congr_right' ?_
  rw [Ne, ← inPlant_iff, Bool.not_eq_true]

/-- The gate after a write of settings, in the state that the write leaves. -/
theorem settings_after {n count : Nat} {bytes : List Byte} {s : State} {u : Table}
    (hu : s.tables.settings.write n (words16 bytes) = u) :
    afterWrite 2 n count (holding s) (journalAppend .tableWrite none 2 (storeWrite 2 n count bytes (holding s))) =
      gateSettingsWritten n count (holding (journalAppend .tableWrite none 2
        { s with tables := { s.tables with settings := u } })) := by
  subst hu
  rfl

theorem gateSettingsWritten_holding (n count : Nat) (w : State) :
    gateSettingsWritten n count (holding w) = holding (gateSettingsWritten n count w) := by
  rw [gateSettingsWritten_eq, gateSettingsWritten_eq, apply_ite holding, apply_ite holding]
  rfl

/-- A write of settings, by the checks of the plant state and of the values (R179). -/
theorem settings_write {src : Byte} {tag : Word16} {first : Byte} {words : List Word16} {extra : List Byte} {s : State}
    (hroom : s.answerRoom = true) (hlow : 1 ≤ words.length) (hhigh : words.length ≤ 28)
    (hvals : s.tables.settings.vals.length = 57) (hmarks : s.tables.settings.marks.length = 57)
    (hfit : first.toNat + words.length ≤ 57) :
    let new := words.map fun w => w.toNat
    let within (i : Nat) : Prop := first.toNat ≤ i ∧ i < first.toNat + words.length
    let map' := overTable s.tables.settings first.toNat new
    let fixed := (within 0 ∨ within 3) ∧ s.plant.state ≠ .stopped
    let good := (∀ k < words.length, settingInRange (first.toNat + k) (new.getD k 0) = true) ∧
      ∀ p ∈ settingPairs, within p.1 ∨ within p.2 → map'.vals.getD p.1 0 < map'.vals.getD p.2 0
    let w := journalAppend .tableWrite none 2 { s with tables := { s.tables with settings := map' } }
    let write : Instr := .writeEntries src tag 2 first (byteOf words.length) (new.flatMap be16 ++ extra)
    (fixed → exec write s = .next (answered src tag 2 .wrongState [] s)) ∧
    (¬fixed → ¬good → exec write s = .next (answered src tag 2 .badValue [] s)) ∧
    (¬fixed → good → exec write s = .next (answered src tag 2 .done []
      (gateSettingsWritten first.toNat words.length w))) := by
  intro new within map' fixed good w write
  obtain ⟨hwrong, hfault, hdone⟩ := words_outcome (src := src) (tag := tag) (table := 2) (extra := extra) (s := s)
    hroom hlow hhigh rfl rfl hfit
  have hcount : (byteOf words.length).toNat = words.length := toNat_byteOf (by omega)
  have hnew : (words.map fun w => w.toNat).length = words.length := List.length_map _
  rw [hcount] at hwrong hfault hdone
  have hstate := settings_stateFault_iff first.toNat words.length s
  have hgood : settingsInRange first.toNat new = true ∧
      pairsHold (overwritten s.tables.settings.vals first.toNat new) first.toNat new.length = true ↔ good := by
    rw [settingsInRange_iff, pairsHold_iff, show new.length = words.length from hnew]
    exact .rfl
  have hcheck : valuesCheck 2 first.toNat (new.flatMap be16) s = if settingsInRange first.toNat new = true ∧
      pairsHold (overwritten s.tables.settings.vals first.toNat new) first.toNat new.length = true
      then .done else .badValue :=
    (congrArg (settingsCheck s.tables.settings.vals first.toNat) (words16_flatMap_be16 words)).trans
      (settingsCheck_eq (by omega))
  refine ⟨fun h => hwrong (hstate.mpr h), fun hfree hbad => ?_, fun hfree hall => ?_⟩
  · exact hfault (Bool.eq_false_iff.mpr (mt hstate.mp hfree)) .badValue (by decide)
      (hcheck.trans (if_neg (mt hgood.mp hbad)))
  · have hu : s.tables.settings.write first.toNat (words16 (new.flatMap be16)) = map' :=
      (congrArg (s.tables.settings.write first.toNat) (words16_flatMap_be16 words)).trans
        (write_eq_overTable (by omega) (by omega))
    exact (hdone (Bool.eq_false_iff.mpr (mt hstate.mp hfree)) (hcheck.trans (if_pos (hgood.mpr hall))) _
      (settings_after hu)).trans (by rw [gateSettingsWritten_holding, answered_holding])

end Sys2Proof.Proofs
end

section
namespace Sys2Proof.Proofs
open Sys2Proof.Machine Sys2Proof.Safety

/-! ## A role whose address changed (R178) -/

theorem modify_eq_mapIdx {α : Type} (l : List α) (k : Nat) (f : α → α) :
    l.modify k f = l.mapIdx fun i x => if i = k then f x else x := by
  refine List.ext_getElem? fun i => ?_
  rw [List.getElem?_modify, List.getElem?_mapIdx]
  by_cases h : k = i
  · simp [h]
  · simp [h, Ne.symm h]

/-- The silence timer of a role as its address stands. -/
def roleTimer (r : Nat) (s : State) : Option Nat := restartSilence (s.mapped r)

theorem roleTimer_eq (r : Nat) (s : State) : roleTimer r s = if s.address r = 0 then none else some 0 :=
  restartSilence_mapped s r

theorem roleRemapped_pond (s : State) : roleRemapped 0 s = causeEnd .pondSilent { s with
    water := { s.water with pondSilence := roleTimer 0 s, pondSilent := false } } := by
  have hempty : emptyUnmapped 0 s = s := if_pos (by simp [Role.POND])
  rw [roleRemapped, hempty]
  rfl

/-- The slots after a role of slot `k` has been unmapped. -/
theorem emptyUnmapped_eq (k : Nat) (s : State) : emptyUnmapped (k + 1) s =
    if s.address (k + 1) = 0 then { s with loop := { s.loop with slots := s.loop.slots.set k ⟨none, false⟩ } } else s := by
  have hne : (k + 1 == Role.POND) = false := by simp [Role.POND]
  rw [emptyUnmapped, hne, Bool.or_false]
  by_cases h : s.address (k + 1) = 0
  · rw [if_pos h, if_neg (by simp [State.mapped, h])]; rfl
  · rw [if_neg h, if_pos (by simp [State.mapped, h])]

/-- The slots with that of a role emptied, where the role is unmapped, and else written with `o`. -/
def remappedSlots (k : Nat) (o : Option Order) (s : State) : List Slot :=
  s.loop.slots.mapIdx fun j x => if j = k then
    (if s.address (k + 1) = 0 then ⟨none, false⟩ else match o with
      | some o => ⟨some o, true⟩
      | none => x) else x

theorem emptyUnmapped_slots (k : Nat) (s : State) :
    emptyUnmapped (k + 1) s = { s with loop := { s.loop with slots := remappedSlots k none s } } := by
  rw [emptyUnmapped_eq, remappedSlots]
  by_cases h : s.address (k + 1) = 0
  · simp only [if_pos h, set_eq_mapIdx]
  · simp [if_neg h, List.mapIdx_eq_zipIdx_map]

theorem roleRemapped_gate (s : State) : roleRemapped 1 s = causeEnd .gateSilent { s with
    water := { s.water with gateSilence := roleTimer 1 s, gateSilent := false }
    loop := { s.loop with slots := remappedSlots 0 none s } } := by
  rw [roleRemapped, show emptyUnmapped 1 s = _ from emptyUnmapped_slots 0 s]
  rfl

/-- A slot emptied or written for its role. -/
theorem remapped_write {k : Nat} {o : Order} {s t : State} (haddress : t.address (k + 1) = s.address (k + 1))
    (hslots : t.loop.slots = remappedSlots k none s) :
    (t.loop.slots.mapIdx fun j x => if j = k ∧ t.address (j + 1) ≠ 0 then ⟨some o, true⟩ else x) =
      remappedSlots k (some o) s := by
  rw [hslots, remappedSlots, remappedSlots, List.mapIdx_mapIdx]
  refine congrArg (fun f => List.mapIdx f s.loop.slots) (funext fun j => funext fun x => ?_)
  by_cases hj : j = k
  · subst hj
    by_cases h : s.address (j + 1) = 0 <;> simp [haddress, h]
  · simp [hj]

theorem writeSawSlot_eq (x : State) : writeSawSlot x = { x with loop := { x.loop with
    slots := x.loop.slots.mapIdx fun i old =>
      if i = 1 ∧ x.address (i + 1) ≠ 0 then ⟨some (.saw x.saw.order), true⟩ else old } } := by
  have heq : writeSawSlot x = { x with loop := (writeSawSlot x).loop } := by
    unfold writeSawSlot
    split <;> rfl
  rw [heq, writeSawSlot_loop]

theorem writeSawSlot_of_emptied {s x : State} (haddress : x.address 2 = s.address 2)
    (hslots : x.loop.slots = remappedSlots 1 none s) : writeSawSlot x =
      { x with loop := { x.loop with slots := remappedSlots 1 (some (.saw x.saw.order)) s } } := by
  rw [writeSawSlot_eq, remapped_write haddress hslots]

theorem roleRemapped_saw (s : State) : roleRemapped 2 s = causeEnd .sawSilent { s with
    saw := { s.saw with
      lastNumber := none, silence := roleTimer 2 s, silent := false
      clutchReport := .unknown, carriageReport := .unknown }
    loop := { s.loop with slots := remappedSlots 1 (some (.saw s.saw.order)) s } } := by
  rw [roleRemapped, show emptyUnmapped 2 s = _ from emptyUnmapped_slots 1 s]
  exact Eq.trans (writeSawSlot_of_emptied (s := s) (by exact rfl) (by exact rfl)) rfl

theorem writeFeederSlot_eq (k : Nat) (x : State) : writeFeederSlot k x = { x with loop := { x.loop with
    slots := x.loop.slots.mapIdx fun i old =>
      if i = k + 2 ∧ x.address (i + 1) ≠ 0 then ⟨some (.feeder (positions x k)), true⟩ else old } } := by
  have heq : writeFeederSlot k x = { x with loop := (writeFeederSlot k x).loop } := by
    unfold writeFeederSlot
    split <;> rfl
  rw [heq, writeFeederSlot_loop]

theorem writeFeederSlot_of_emptied {k : Nat} {s x : State} (haddress : x.address (k + 2 + 1) = s.address (k + 2 + 1))
    (hslots : x.loop.slots = remappedSlots (k + 2) none s) : writeFeederSlot k x =
      { x with loop := { x.loop with slots := remappedSlots (k + 2) (some (.feeder (positions x k))) s } } := by
  rw [writeFeederSlot_eq, remapped_write haddress hslots]

/-- The feeders after one of them has been remapped. -/
def feedersRemapped (k : Nat) (s : State) : List Feeder :=
  s.hamlet.feeders.modify k fun _ => ⟨roleTimer (3 + k) s, false, none⟩

theorem roleRemapped_feeder (k : Nat) (s : State) : roleRemapped (3 + k) s =
    { (if (feedersRemapped k s).all (fun x => !x.silent) then causeEnd .feederSilent s else s) with
      hamlet := { s.hamlet with feeders := feedersRemapped k s }
      loop := { s.loop with slots := remappedSlots (k + 2) (some (.feeder (positions s k))) s } } := by
  have hempty : emptyUnmapped (3 + k) s =
      { s with loop := { s.loop with slots := remappedSlots (k + 2) none s } } :=
    (congrArg (fun r => emptyUnmapped r s) (Nat.add_comm 3 k)).trans (emptyUnmapped_slots (k + 2) s)
  have hrole : roleRemapped (3 + k) s = feederRemapped (3 + k - 3) (emptyUnmapped (3 + k) s) := by
    rw [roleRemapped]
    have hpond : ¬(3 + k = Role.POND ∨ 3 + k = Role.GATE) := by simp only [Role.POND, Role.GATE]; omega
    have hsaw : ¬(3 + k = Role.SAW) := by simp only [Role.SAW]; omega
    rw [if_neg hpond, if_neg hsaw]
  rw [hrole, hempty, Nat.add_sub_cancel_left, feederRemapped, examineFeeders]
  have hany : (feedersRemapped k s).all (fun x => !x.silent) = !(feedersRemapped k s).any fun x => x.silent := by
    rw [List.not_any_eq_all_not]
  rw [hany]
  cases h : (feedersRemapped k s).any fun x => x.silent with
  | true =>
    rw [if_pos (by exact h)]
    exact Eq.trans (writeFeederSlot_of_emptied (s := s) (by exact rfl) (by exact rfl)) rfl
  | false =>
    rw [if_neg (by exact Bool.eq_false_iff.mp h)]
    exact Eq.trans (writeFeederSlot_of_emptied (s := s) (by exact rfl) (by exact rfl)) rfl

end Sys2Proof.Proofs
end

section
namespace Sys2Proof.Proofs
open Sys2Proof.Machine Sys2Proof.Safety

/-! ## The feeders that are remapped, in their order (R96, R103) -/

/-- The feeder's role has another address than before. -/
def feederChanged (old : List Nat) (s : State) (k : Nat) : Bool := old.getD (3 + k) 0 != s.address (3 + k)

/-- The feeders after those below `n` have been remapped. -/
def feedersDone (old : List Nat) (n : Nat) (s : State) : List Feeder :=
  s.hamlet.feeders.mapIdx fun k x =>
    if k < n ∧ feederChanged old s k = true then ⟨roleTimer (3 + k) s, false, none⟩ else x

/-- The slots after the feeders below `n` have been remapped. -/
def feederSlotsDone (old : List Nat) (n : Nat) (s : State) : List Slot :=
  s.loop.slots.mapIdx fun j x =>
    if (2 ≤ j ∧ j - 2 < n) ∧ feederChanged old s (j - 2) = true then
      (if s.address (j + 1) = 0 then ⟨none, false⟩ else ⟨some (.feeder (positions s (j - 2))), true⟩) else x

/-- The cause of FEEDER_SILENT has ended. -/
def feedersHeard (old : List Nat) (n : Nat) (s : State) : Bool :=
  (List.range n).any (feederChanged old s) && (feedersDone old n s).all fun x => !x.silent

/-- The state after the feeders below `n` have been remapped. -/
def feedersRemappedTo (old : List Nat) (n : Nat) (s : State) : State :=
  { (if feedersHeard old n s = true then causeEnd .feederSilent s else s) with
    hamlet := { s.hamlet with feeders := feedersDone old n s }
    loop := { s.loop with slots := feederSlotsDone old n s } }

/-- A role is remapped where its address has changed. -/
def roleStep (old : List Nat) (t : State) (r : Nat) : State :=
  if old.getD r 0 = t.address r then t else roleRemapped r t

theorem feedersDone_succ {old : List Nat} {n : Nat} {s : State} : feedersDone old (n + 1) s =
    if feederChanged old s n = true then
      (feedersDone old n s).modify n fun _ => ⟨roleTimer (3 + n) s, false, none⟩
    else feedersDone old n s := by
  by_cases hn : feederChanged old s n = true
  · rw [if_pos hn, modify_eq_mapIdx, feedersDone, feedersDone, List.mapIdx_mapIdx]
    refine congrArg (fun f => List.mapIdx f s.hamlet.feeders) (funext fun k => funext fun x => ?_)
    by_cases hk : k = n
    · subst hk; simp [hn]
    · have : k < n + 1 ↔ k < n := by omega
      simp [hk, this]
  · rw [if_neg hn, feedersDone, feedersDone]
    refine congrArg (fun f => List.mapIdx f s.hamlet.feeders) (funext fun k => funext fun x => ?_)
    refine if_congr ⟨fun h => ⟨?_, h.2⟩, fun h => ⟨by omega, h.2⟩⟩ rfl rfl
    have hk : k ≠ n := fun hk => hn (hk ▸ h.2)
    omega

theorem feederSlotsDone_succ {old : List Nat} {n : Nat} {s : State} : feederSlotsDone old (n + 1) s =
    if feederChanged old s n = true then
      (feederSlotsDone old n s).mapIdx fun j x => if j = n + 2 then
        (if s.address (n + 2 + 1) = 0 then ⟨none, false⟩ else ⟨some (.feeder (positions s n)), true⟩) else x
    else feederSlotsDone old n s := by
  by_cases hn : feederChanged old s n = true
  · rw [if_pos hn, feederSlotsDone, feederSlotsDone, List.mapIdx_mapIdx]
    refine congrArg (fun f => List.mapIdx f s.loop.slots) (funext fun j => funext fun x => ?_)
    by_cases hj : j = n + 2
    · subst hj; simp [hn]
    · have : (2 ≤ j ∧ j - 2 < n + 1) ↔ (2 ≤ j ∧ j - 2 < n) := by omega
      simp only [if_neg hj, this]
      rfl
  · rw [if_neg hn, feederSlotsDone, feederSlotsDone]
    refine congrArg (fun f => List.mapIdx f s.loop.slots) (funext fun j => funext fun x => ?_)
    refine if_congr ⟨fun h => ⟨⟨h.1.1, ?_⟩, h.2⟩, fun h => ⟨⟨h.1.1, by omega⟩, h.2⟩⟩ rfl rfl
    have hj : j - 2 ≠ n := fun hj => hn (hj ▸ h.2)
    omega

/-- Feeders none of which is silent stay so. -/
theorem all_heard_modify {fs : List Feeder} {k : Nat} {t : Option Nat} (h : (fs.all fun x => !x.silent) = true) :
    ((fs.modify k fun _ => ⟨t, false, none⟩).all fun x => !x.silent) = true := by
  rw [List.all_eq_true] at h ⊢
  intro x hx
  rw [modify_eq_mapIdx, List.mem_mapIdx] at hx
  obtain ⟨i, hi, rfl⟩ := hx
  split
  · rfl
  · exact h _ (List.getElem_mem hi)

theorem causeEnd_twice (c : Condition) (s : State) : causeEnd c (causeEnd c s) = causeEnd c s := by
  simp [causeEnd, State.mapConds, List.modify_modify_eq, Function.comp_def]

theorem feedersRemappedTo_succ (old : List Nat) (n : Nat) (s : State) :
    roleStep old (feedersRemappedTo old n s) (3 + n) = feedersRemappedTo old (n + 1) s := by
  have haddress : ∀ r, (feedersRemappedTo old n s).address r = s.address r := fun r => by
    unfold feedersRemappedTo
    split <;> rfl
  have htimer : roleTimer (3 + n) (feedersRemappedTo old n s) = roleTimer (3 + n) s := by
    rw [roleTimer_eq, roleTimer_eq, haddress]
  have hpositions : positions (feedersRemappedTo old n s) n = positions s n := rfl
  have hslots : ∀ o, remappedSlots (n + 2) (some o) (feedersRemappedTo old n s) =
      (feederSlotsDone old n s).mapIdx fun j x => if j = n + 2 then
        (if s.address (n + 2 + 1) = 0 then ⟨none, false⟩ else ⟨some o, true⟩) else x := fun o => by
    rw [remappedSlots, haddress]
    rfl
  rw [roleStep, haddress]
  by_cases hsame : old.getD (3 + n) 0 = s.address (3 + n)
  · have hn : ¬feederChanged old s n = true := by rw [feederChanged, hsame]; simp
    have hheard : feedersHeard old (n + 1) s = feedersHeard old n s := by
      rw [feedersHeard, feedersHeard, List.range_succ, List.any_append, feedersDone_succ, if_neg hn]
      simp [Bool.eq_false_iff.mpr hn]
    rw [if_pos hsame, feedersRemappedTo, feedersRemappedTo, hheard, feedersDone_succ, feederSlotsDone_succ,
      if_neg hn, if_neg hn]
  · have hn : feederChanged old s n = true := by simpa [feederChanged] using hsame
    have hdone : feedersRemapped n (feedersRemappedTo old n s) = feedersDone old (n + 1) s := by
      rw [feedersRemapped, htimer, feedersDone_succ, if_pos hn]; rfl
    have hheard : feedersHeard old (n + 1) s = (feedersDone old (n + 1) s).all fun x => !x.silent := by
      rw [feedersHeard, List.range_succ, List.any_append]
      simp [hn]
    have hearlier : feedersHeard old n s = true → feedersHeard old (n + 1) s = true := fun h => by
      rw [hheard, feedersDone_succ, if_pos hn]
      exact all_heard_modify (Bool.and_eq_true_iff.mp h).2
    rw [if_neg hsame, roleRemapped_feeder, hdone, hpositions, hslots, ← hheard]
    rw [feedersRemappedTo.eq_1 old (n + 1), feederSlotsDone_succ, if_pos hn]
    cases hlast : feedersHeard old (n + 1) s with
    | false =>
      have hfirst : feedersHeard old n s = false := Bool.eq_false_iff.mpr fun h => by simp [hearlier h] at hlast
      simp only [feedersRemappedTo, hfirst]
      rfl
    | true =>
      simp only [feedersRemappedTo]
      cases hfirst : feedersHeard old n s with
      | false => rfl
      | true => 
        have htwice := congrArg State.conds (causeEnd_twice .feederSilent s)
        exact congrArg (fun cs => { s with
          conds := cs
          hamlet := { s.hamlet with feeders := feedersDone old (n + 1) s }
          loop := { s.loop with slots := (feederSlotsDone old n s).mapIdx fun j x => if j = n + 2 then
            (if s.address (n + 2 + 1) = 0 then ⟨none, false⟩ else ⟨some (.feeder (positions s n)), true⟩) else x } }) htwice

theorem feedersRemappedTo_zero (old : List Nat) (s : State) : feedersRemappedTo old 0 s = s := by
  have hfeeders : feedersDone old 0 s = s.hamlet.feeders := by
    simp [feedersDone, List.mapIdx_eq_zipIdx_map]
  have hslots : feederSlotsDone old 0 s = s.loop.slots := by
    simp [feederSlotsDone, List.mapIdx_eq_zipIdx_map]
  rw [feedersRemappedTo, hfeeders, hslots]
  rfl

theorem foldl_feeders (old : List Nat) (n : Nat) (s : State) :
    (List.range n).foldl (fun t k => roleStep old t (3 + k)) s = feedersRemappedTo old n s := by
  induction n with
  | zero => exact (feedersRemappedTo_zero old s).symm
  | succ n ih =>
    rw [List.range_succ, List.foldl_append, ih]
    exact feedersRemappedTo_succ old n s

theorem rolesRemapped_eq (old : List Nat) (s : State) : rolesRemapped old s =
    feedersRemappedTo old 6 (roleStep old (roleStep old (roleStep old s 0) 1) 2) := by
  have hroles : List.range 9 = [0, 1, 2] ++ (List.range 6).map (3 + ·) := rfl
  rw [← foldl_feeders, rolesRemapped, hroles, List.foldl_append, List.foldl_map]
  rfl

/-! ## The roles of water and saw -/

/-- The role holds the address that it held before. -/
def sameAddress (old : List Nat) (s : State) (r : Nat) : Bool := old.getD r 0 == s.address r

theorem roleStep_of_same {old : List Nat} {s : State} {r : Nat} (h : sameAddress old s r = true) :
    roleStep old s r = s := if_pos (by simpa [sameAddress] using h)

theorem roleStep_of_changed {old : List Nat} {s : State} {r : Nat} (h : sameAddress old s r = false) :
    roleStep old s r = roleRemapped r s := if_neg (by simpa [sameAddress] using h)

/-- The conditions after the end of a cause, where it ends. -/
def endedWhere (ends : Bool) (c : Condition) (cs : List CondCell) : List CondCell :=
  if ends then cs.modify c.num fun x => { x with cause := false } else cs

/-- What POND leaves. -/
theorem pondStep (old : List Nat) (s : State) : roleStep old s 0 = { s with
    water := { s.water with
      pondSilence := if sameAddress old s 0 then s.water.pondSilence else roleTimer 0 s
      pondSilent := sameAddress old s 0 && s.water.pondSilent }
    conds := endedWhere (!sameAddress old s 0) .pondSilent s.conds } := by
  cases h : sameAddress old s 0 with
  | true => rw [roleStep_of_same h]; rfl
  | false => rw [roleStep_of_changed h, roleRemapped_pond]; rfl

/-- What GATE leaves. -/
theorem gateStep (old : List Nat) (s : State) : roleStep old s 1 = { s with
    water := { s.water with
      gateSilence := if sameAddress old s 1 then s.water.gateSilence else roleTimer 1 s
      gateSilent := sameAddress old s 1 && s.water.gateSilent }
    conds := endedWhere (!sameAddress old s 1) .gateSilent s.conds
    loop := { s.loop with
      slots := if sameAddress old s 1 then s.loop.slots else remappedSlots 0 none s } } := by
  cases h : sameAddress old s 1 with
  | true => rw [roleStep_of_same h]; rfl
  | false => rw [roleStep_of_changed h, roleRemapped_gate]; rfl

/-- What SAW leaves. -/
theorem sawStep (old : List Nat) (s : State) : roleStep old s 2 = { s with
    saw := if sameAddress old s 2 then s.saw else { s.saw with
      lastNumber := none, silence := roleTimer 2 s, silent := false
      clutchReport := .unknown, carriageReport := .unknown }
    conds := endedWhere (!sameAddress old s 2) .sawSilent s.conds
    loop := { s.loop with
      slots := if sameAddress old s 2 then s.loop.slots
        else remappedSlots 1 (some (.saw s.saw.order)) s } } := by
  cases h : sameAddress old s 2 with
  | true => rw [roleStep_of_same h]; rfl
  | false => rw [roleStep_of_changed h, roleRemapped_saw]; rfl

end Sys2Proof.Proofs
end

section
namespace Sys2Proof.Proofs
open Sys2Proof.Machine Sys2Proof.Safety

/-! ## The node map as a whole (R178) -/

/-- The role's address is not the one it had. -/
def addressChanged (old : List Nat) (s : State) (r : Nat) : Bool := decide (r < 9) && s.address r != old.getD r 0

/-- The silence timer that a role takes with its address. -/
def addressTimer (r : Nat) (s : State) : Option Nat := if s.address r = 0 then none else some 0

/-- The feeders after a write of the node map. -/
def mappedFeeders (old : List Nat) (s : State) : List Feeder :=
  s.hamlet.feeders.mapIdx fun k x =>
    if addressChanged old s (3 + k) then ⟨addressTimer (3 + k) s, false, none⟩ else x

/-- FEEDER_SILENT's cause ends with a write of the node map. -/
def mappedHeard (old : List Nat) (s : State) : Bool :=
  (List.range 6).any (fun k => addressChanged old s (3 + k)) && (mappedFeeders old s).all fun x => !x.silent

/-- The causes that end with a write of the node map. -/
def mappedEnds (old : List Nat) (s : State) : List Condition :=
  (if addressChanged old s 0 then [Condition.pondSilent] else []) ++
    (if addressChanged old s 1 then [.gateSilent] else []) ++
    (if addressChanged old s 2 then [.sawSilent] else []) ++
    if mappedHeard old s then [.feederSilent] else []

/-- The command slots after a write of the node map. -/
def mappedSlots (old : List Nat) (s : State) : List Slot :=
  s.loop.slots.mapIdx fun k x =>
    if addressChanged old s (k + 1) = false then x
    else if s.address (k + 1) = 0 then ⟨none, false⟩
    else if k = 0 then x
    else if k = 1 then ⟨some (.saw s.saw.order), true⟩
    else ⟨some (.feeder (positions s (k - 2))), true⟩

/-- The state after a write of the node map that has been stored in `s`. -/
def nodesMapped (old : List Nat) (s : State) : State :=
  { (mappedEnds old s).foldl (fun x c => causeEnd c x) s with
    water := { s.water with
      pondSilence := if addressChanged old s 0 then addressTimer 0 s else s.water.pondSilence
      pondSilent := !addressChanged old s 0 && s.water.pondSilent
      gateSilence := if addressChanged old s 1 then addressTimer 1 s else s.water.gateSilence
      gateSilent := !addressChanged old s 1 && s.water.gateSilent }
    saw := if addressChanged old s 2 then { s.saw with
      lastNumber := none, silence := addressTimer 2 s, silent := false
      clutchReport := .unknown, carriageReport := .unknown } else s.saw
    hamlet := { s.hamlet with feeders := mappedFeeders old s }
    loop := { s.loop with slots := mappedSlots old s } }

theorem addressChanged_eq {old : List Nat} {s : State} {r : Nat} (hr : r < 9) :
    addressChanged old s r = !sameAddress old s r := by
  rw [addressChanged, sameAddress, decide_eq_true hr, Bool.true_and, bne]
  exact congrArg Bool.not (Bool.beq_comm ..)

/-- A choice by the negation of a flag. -/
theorem ite_flag_not {α : Type} (b : Bool) (x y : α) : (if (!b) = true then x else y) = if b = true then y else x := by
  cases b <;> rfl

/-- POND, GATE and SAW taken in turn. -/
theorem threeRoles_eq (old : List Nat) (s : State) : roleStep old (roleStep old (roleStep old s 0) 1) 2 = { s with
    water := { s.water with
      pondSilence := if addressChanged old s 0 then addressTimer 0 s else s.water.pondSilence
      pondSilent := !addressChanged old s 0 && s.water.pondSilent
      gateSilence := if addressChanged old s 1 then addressTimer 1 s else s.water.gateSilence
      gateSilent := !addressChanged old s 1 && s.water.gateSilent }
    saw := if addressChanged old s 2 then { s.saw with
      lastNumber := none, silence := addressTimer 2 s, silent := false
      clutchReport := .unknown, carriageReport := .unknown } else s.saw
    conds := endedWhere (addressChanged old s 2) .sawSilent (endedWhere (addressChanged old s 1) .gateSilent
      (endedWhere (addressChanged old s 0) .pondSilent s.conds))
    loop := { s.loop with
      slots := if addressChanged old s 2 then
          remappedSlots 1 (some (.saw s.saw.order)) (roleStep old (roleStep old s 0) 1)
        else (roleStep old (roleStep old s 0) 1).loop.slots } } := by
  rw [addressChanged_eq (by decide), addressChanged_eq (by decide), addressChanged_eq (by decide)]
  have hpond := roleTimer_eq 0 s
  have hgate := roleTimer_eq 1 s
  have hsaw := roleTimer_eq 2 s
  rw [sawStep, gateStep, pondStep]
  simp only [addressTimer, ← hpond, ← hgate, ← hsaw, ite_flag_not, Bool.not_not]
  rfl

theorem mapIdx_eq_self {α : Type} {l : List α} {f : Nat → α → α} (h : ∀ k x, f k x = x) : l.mapIdx f = l := by
  have hf : f = fun _ x => x := funext fun k => funext fun x => h k x
  rw [hf]
  simp [List.mapIdx_eq_zipIdx_map]

theorem remappedSlots_where (b : Bool) (k : Nat) (o : Option Order) (s : State) :
    (if b then remappedSlots k o s else s.loop.slots) = s.loop.slots.mapIdx fun j x =>
      if b = true ∧ j = k then
        (if s.address (k + 1) = 0 then ⟨none, false⟩ else match o with
          | some o => ⟨some o, true⟩
          | none => x) else x := by
  cases b with
  | false => exact (mapIdx_eq_self fun j x => if_neg fun h => Bool.false_ne_true h.1).symm
  | true => simp only [true_and, if_true]; cases o <;> rfl

/-- The slots of GATE and of SAW, when these roles have been taken. -/
theorem threeRoles_slots (old : List Nat) (s : State) :
    (roleStep old (roleStep old (roleStep old s 0) 1) 2).loop.slots = s.loop.slots.mapIdx fun k x =>
      if addressChanged old s (k + 1) = false then x
      else if k = 0 then (if s.address (k + 1) = 0 then ⟨none, false⟩ else x)
      else if k = 1 then (if s.address (k + 1) = 0 then ⟨none, false⟩ else ⟨some (.saw s.saw.order), true⟩)
      else x := by
  have hgate : (roleStep old (roleStep old s 0) 1).loop.slots = s.loop.slots.mapIdx fun k x =>
      if addressChanged old s 1 = true ∧ k = 0 then (if s.address 1 = 0 then ⟨none, false⟩ else x) else x := by
    refine Eq.trans ?_ (remappedSlots_where (addressChanged old s 1) 0 none s)
    rw [addressChanged_eq (by decide), ite_flag_not, gateStep, pondStep]
    rfl
  have haddress : (roleStep old (roleStep old s 0) 1).address 2 = s.address 2 := by
    rw [gateStep, pondStep]; rfl
  rw [threeRoles_eq]
  refine (remappedSlots_where _ _ _ _).trans ?_
  rw [hgate, haddress, List.mapIdx_mapIdx]
  refine congrArg (fun f => List.mapIdx f s.loop.slots) (funext fun k => funext fun x => ?_)
  match k with
  | 0 => cases addressChanged old s 1 <;> simp
  | 1 => cases addressChanged old s 2 <;> simp
  | k + 2 => simp

theorem endCause_where (b : Bool) (c : Condition) (s : State) :
    (if b then [c] else []).foldl (fun x c => causeEnd c x) s = { s with conds := endedWhere b c s.conds } := by
  cases b <;> rfl

/-- The roles taken one after the other, as one change of the state. -/
theorem rolesRemapped_eq_nodesMapped (old : List Nat) (s : State) : rolesRemapped old s = nodesMapped old s := by
  have hstate := threeRoles_eq old s
  have hslots := threeRoles_slots old s
  rw [rolesRemapped_eq]
  generalize roleStep old (roleStep old (roleStep old s 0) 1) 2 = t at hstate hslots ⊢
  have haddress : ∀ r, t.address r = s.address r := fun r => by rw [hstate]; rfl
  have hpositions : ∀ k, positions t k = positions s k := fun k => by rw [hstate]; rfl
  have hchanged : ∀ k < 6, feederChanged old t k = addressChanged old s (3 + k) := fun k hk => by
    rw [feederChanged, haddress, addressChanged_eq (by omega)]; rfl
  have hfeeders : feedersDone old 6 t = mappedFeeders old s := by
    have hsame : t.hamlet.feeders = s.hamlet.feeders := by rw [hstate]
    rw [feedersDone, mappedFeeders, hsame]
    refine congrArg (fun f => List.mapIdx f s.hamlet.feeders) (funext fun k => funext fun x => ?_)
    by_cases hk : k < 6
    · simp only [hk, true_and, hchanged k hk, roleTimer_eq, haddress]; rfl
    · have hout : addressChanged old s (3 + k) = false := by simp [addressChanged]; omega
      simp [hk, hout]
  have hheard : feedersHeard old 6 t = mappedHeard old s := by
    rw [feedersHeard, mappedHeard, hfeeders]
    have hany : ∀ l : List Nat, (∀ k ∈ l, k < 6) →
        l.any (feederChanged old t) = l.any fun k => addressChanged old s (3 + k) := by
      intro l hl
      induction l with
      | nil => rfl
      | cons k l ih =>
        rw [List.any_cons, List.any_cons, hchanged k (hl k List.mem_cons_self),
          ih fun i hi => hl i (List.mem_cons_of_mem k hi)]
    rw [hany _ fun k hk => List.mem_range.mp hk]
  have hall : feederSlotsDone old 6 t = mappedSlots old s := by
    rw [feederSlotsDone, mappedSlots, hslots, List.mapIdx_mapIdx]
    refine congrArg (fun f => List.mapIdx f s.loop.slots) (funext fun k => funext fun x => ?_)
    match k with
    | 0 => simp
    | 1 => simp
    | k + 2 =>
      by_cases hk : k < 6
      · have hc := hchanged k hk
        have h3 : 3 + k = k + 2 + 1 := by omega
        rw [h3] at hc
        cases h : addressChanged old s (k + 2 + 1) <;> simp [hk, hc, h, haddress, hpositions]
      · have hout : addressChanged old s (k + 2 + 1) = false := by simp [addressChanged]; omega
        simp [hk, hout]
  rw [feedersRemappedTo, hfeeders, hheard, hall, hstate, nodesMapped, mappedEnds]
  generalize mappedHeard old s = heard
  simp only [List.foldl_append, endCause_where]
  cases heard <;> rfl

end Sys2Proof.Proofs
end

section
namespace Sys2Proof.Proofs
open Sys2Proof.Machine Sys2Proof.Safety

/-! ## A write of the node map (R178) -/

theorem addressesDistinct_iff (map : List Nat) : addressesDistinct map = true ↔
    ∀ r < map.length, ∀ q < r, ¬(map.getD r 0 = map.getD q 0 ∧ map.getD r 0 ≠ 0) := by
  rw [addressesDistinct, decide_eq_true_iff, List.Nodup, List.pairwise_filter, List.pairwise_iff_getElem]
  simp only [bne_iff_ne]
  constructor
  · rintro h r hr q hq ⟨heq, hne⟩
    have hq' : q < map.length := hq.trans hr
    rw [List.getD_eq_getElem _ _ hr] at heq hne
    rw [List.getD_eq_getElem _ _ hq'] at heq
    exact h q r hq' hr hq (heq ▸ hne) hne heq.symm
  · intro h q r hq hr hlt hneq hner heq
    have := h r hr q hlt
    rw [List.getD_eq_getElem _ _ hr, List.getD_eq_getElem _ _ hq] at this
    exact this ⟨heq.symm, hner⟩

theorem nodeMapAllowed_iff (own : Nat) (map : List Nat) : nodeMapAllowed own map = true ↔
    ¬((∃ r < map.length, 62 < map.getD r 0 ∨ map.getD r 0 = own) ∨
      ∃ r < map.length, ∃ q < r, map.getD r 0 = map.getD q 0 ∧ map.getD r 0 ≠ 0) := by
  have hall : (map.all fun a => decide (a ≤ 62) && a != own) = true ↔
      ¬∃ r < map.length, 62 < map.getD r 0 ∨ map.getD r 0 = own := by
    rw [List.all_eq_true]
    constructor
    · rintro h ⟨r, hr, hbad⟩
      rw [List.getD_eq_getElem _ _ hr] at hbad
      have := h _ (List.getElem_mem hr)
      simp only [Bool.and_eq_true, decide_eq_true_iff, bne_iff_ne] at this
      rcases hbad with hbad | hbad
      · omega
      · exact this.2 hbad
    · intro h a ha
      obtain ⟨r, hr, rfl⟩ := List.getElem_of_mem ha
      simp only [Bool.and_eq_true, decide_eq_true_iff, bne_iff_ne]
      by_contra hbad
      refine h ⟨r, hr, ?_⟩
      rw [List.getD_eq_getElem _ _ hr]
      by_cases hown : map[r] = own
      · exact .inr hown
      · exact .inl (by omega)
  rw [nodeMapAllowed, Bool.and_eq_true, hall, addressesDistinct_iff, not_or]
  refine and_congr_right' ⟨?_, ?_⟩
  · rintro h ⟨r, hr, q, hq, hbad⟩
    exact h r hr q hq hbad
  · intro h r hr q hq hbad
    exact h ⟨r, hr, q, hq, hbad⟩

theorem nodesMapped_holding (old : List Nat) (w : State) : nodesMapped old (holding w) = holding (nodesMapped old w) := by
  have hfold : ∀ (cs : List Condition) (x : State),
      cs.foldl (fun x c => causeEnd c x) (holding x) = holding (cs.foldl (fun x c => causeEnd c x) x) := by
    intro cs
    induction cs with
    | nil => exact fun _ => rfl
    | cons c cs ih => exact fun x => ih (causeEnd c x)
  have hends : mappedEnds old (holding w) = mappedEnds old w := rfl
  rw [nodesMapped, hends, hfold, nodesMapped]
  generalize (mappedEnds old w).foldl (fun x c => causeEnd c x) w = u
  rfl

/-- A write of the node map, by the checks of the plant state and of the values. -/
theorem nodeMap_write {src : Byte} {tag : Word16} {first : Byte} {addresses extra : List Byte} {s : State}
    (hroom : s.answerRoom = true) (hlow : 1 ≤ addresses.length) (hfit : first.toNat + addresses.length ≤ 9)
    (hvals : s.tables.nodeMap.vals.length = 9) (hmarks : s.tables.nodeMap.marks.length = 9) :
    let write : Instr := .writeEntries src tag 1 first (byteOf addresses.length) (addresses ++ extra)
    let map' := overTable s.tables.nodeMap first.toNat (addresses.map fun a => a.toNat)
    let w := journalAppend .tableWrite none 1 { s with tables := { s.tables with nodeMap := map' } }
    (s.plant.state ≠ .stopped → exec write s = .next (answered src tag 2 .wrongState [] s)) ∧
    (s.plant.state = .stopped → nodeMapAllowed s.loop.ownAddress map'.vals = false →
      exec write s = .next (answered src tag 2 .badValue [] s)) ∧
    (s.plant.state = .stopped → nodeMapAllowed s.loop.ownAddress map'.vals = true →
      exec write s = .next (answered src tag 2 .done [] (nodesMapped s.tables.nodeMap.vals w))) := by
  intro write map' w
  have hcount : (byteOf addresses.length).toNat = addresses.length := toNat_byteOf (by omega)
  have hnew : (addresses.map fun a => a.toNat).length = addresses.length := List.length_map _
  have hright : SpanRight 1 first.toNat addresses.length (addresses ++ extra) addresses s :=
    spanRight_of_body (size := 9) rfl hlow hfit (by simp [writtenSize]; omega) (by simp [writtenSize]) (by decide)
  rw [← hcount] at hright
  obtain ⟨hwrong, hfault, hdone⟩ := writeOutcome (src := src) (tag := tag) (table := 1) hroom hright
  rw [hcount] at hwrong hfault hdone
  have hstate : s.writeStateFault 1 first.toNat addresses.length = !s.inPlant .stopped := by
    simp [State.writeStateFault]
  have hcheck : valuesCheck 1 first.toNat addresses s =
      if nodeMapAllowed s.loop.ownAddress map'.vals then .done else .badValue := by
    have hsplice : splice s.tables.nodeMap.vals first.toNat (addresses.map fun b => b.toNat) = map'.vals :=
      splice_eq_overwritten (by omega)
    rw [← hsplice]
    rfl
  have hfree : s.plant.state = .stopped → s.writeStateFault 1 first.toNat addresses.length = false := fun h => by
    rw [hstate, (inPlant_iff _ _).mpr h]; rfl
  refine ⟨fun h => hwrong ?_, fun h hbad => ?_, fun h hgood => ?_⟩
  · refine hstate.trans ?_
    rw [Bool.not_eq_true', ← Bool.not_eq_true, inPlant_iff]
    exact h
  · exact hfault (hfree h) .badValue (by decide) (hcheck.trans (by rw [hbad]; rfl))
  · refine (hdone (hfree h) (hcheck.trans (by rw [hgood]; rfl)) (holding (nodesMapped s.tables.nodeMap.vals w)) ?_).trans
      (by rw [answered_holding])
    have hwrite : s.tables.nodeMap.write first.toNat (addresses.map fun a => a.toNat) = map' :=
      write_eq_overTable (by omega) (by omega)
    rw [← nodesMapped_holding, ← rolesRemapped_eq_nodesMapped]
    simp only [w, ← hwrite]
    rfl

end Sys2Proof.Proofs
end

section
namespace Sys2Proof.Proofs
open Sys2Proof.Machine Sys2Proof.Safety

/-! ## A write of windows (R15) -/

theorem u16_bytes {v : Nat} (h : v ≤ 65535) : u16 (byteOf (v / 256)) (byteOf v) = v := by
  simp only [u16, byteOf, BitVec.toNat_ofNat]
  omega

/-- The bytes of windows read back. -/
theorem parseWindows_bytes {ws : List (Nat × Nat)} (h : ∀ x ∈ ws, x.1 ≤ 65535 ∧ x.2 ≤ 65535) :
    parseWindows (words16 (ws.flatMap fun x => be16 x.1 ++ be16 x.2)) = ws := by
  induction ws with
  | nil => rfl
  | cons x ws ih =>
    obtain ⟨hstart, hend⟩ := h x List.mem_cons_self
    have hbytes : (x :: ws).flatMap (fun x => be16 x.1 ++ be16 x.2) =
        byteOf (x.1 / 256) :: byteOf x.1 :: byteOf (x.2 / 256) :: byteOf x.2 ::
          ws.flatMap fun x => be16 x.1 ++ be16 x.2 := rfl
    rw [hbytes, words16, words16, parseWindows, u16_bytes hstart, u16_bytes hend,
      ih fun y hy => h y (List.mem_cons_of_mem x hy)]

theorem windowsInRange_iff (ws : List (Nat × Nat)) :
    windowsInRange ws = true ↔ ¬∃ x ∈ ws, 1439 < x.1 ∨ 1440 < x.2 := by
  simp only [windowsInRange, List.all_eq_true, Bool.and_eq_true, decide_eq_true_iff, not_exists, not_and, not_or,
    Nat.not_lt]

/-- An evaluation of the windows queues no notice. -/
theorem windowRecord_sameQueue (closes : Prop) [Decidable closes] (w : SawState) (s : State) :
    SameQueue s (windowRecord closes w s) := by
  unfold windowRecord
  repeat' split
  all_goals exact ⟨rfl, rfl⟩

/-- A write of windows, by the check of its values, with the evaluation that follows. -/
theorem windows_write {src : Byte} {tag : Word16} {first : Byte} {new : List (Nat × Nat)} {extra : List Byte} {s : State}
    (hroom : s.answerRoom = true) (hlow : 1 ≤ new.length) (hfit : first.toNat + new.length ≤ 3)
    (hvals : s.tables.windows.length = 3) (hmarks : s.tables.windowMarks.length = 3)
    (hwords : ∀ x ∈ new, x.1 ≤ 65535 ∧ x.2 ≤ 65535) :
    let write : Instr := .writeEntries src tag 7 first (byteOf new.length)
      (new.flatMap (fun x => be16 x.1 ++ be16 x.2) ++ extra)
    let w := journalAppend .tableWrite none 7 { s with tables := { s.tables with
      windows := overwritten s.tables.windows first.toNat new
      windowMarks := overwritten s.tables.windowMarks first.toNat (List.replicate new.length true) } }
    (windowsInRange new = false → exec write s = .next (answered src tag 2 .badValue [] s)) ∧
    (windowsInRange new = true → exec write s = .next (answered src tag 2 .done [] (evaluateWindows (holding w)))) := by
  intro write w
  have hcount : (byteOf new.length).toNat = new.length := toNat_byteOf (by omega)
  have hright : SpanRight 7 first.toNat new.length (new.flatMap (fun x => be16 x.1 ++ be16 x.2) ++ extra)
      (new.flatMap fun x => be16 x.1 ++ be16 x.2) s :=
    spanRight_of_body (size := 3) rfl hlow hfit (by simp [writtenSize]; omega) (by simp [writtenSize, length_be16])
      (by decide)
  rw [← hcount] at hright
  obtain ⟨-, hfault, hdone⟩ := writeOutcome (src := src) (tag := tag) (table := 7) hroom hright
  rw [hcount] at hfault hdone
  have hstate : s.writeStateFault 7 first.toNat new.length = false := by simp [State.writeStateFault]
  have hcheck : valuesCheck 7 first.toNat (new.flatMap fun x => be16 x.1 ++ be16 x.2) s =
      if windowsInRange new then .done else .badValue :=
    congrArg (fun ws => if windowsInRange ws then ReqOutcome.done else .badValue) (parseWindows_bytes hwords)
  refine ⟨fun hbad => ?_, fun hgood => ?_⟩
  · exact hfault hstate .badValue (by decide) (hcheck.trans (by rw [hbad]; rfl))
  · refine hdone hstate (hcheck.trans (by rw [hgood]; rfl)) _ ?_
    have hstored : storeWrite 7 first.toNat new.length (new.flatMap fun x => be16 x.1 ++ be16 x.2) (holding s) =
        holding { s with tables := { s.tables with
          windows := overwritten s.tables.windows first.toNat new
          windowMarks := overwritten s.tables.windowMarks first.toNat (List.replicate new.length true) } } := by
      have hsplice : splice s.tables.windows first.toNat new = overwritten s.tables.windows first.toNat new :=
        splice_eq_overwritten (by omega)
      have hmarked : splice s.tables.windowMarks first.toNat (List.replicate new.length true) =
          overwritten s.tables.windowMarks first.toNat (List.replicate new.length true) :=
        splice_eq_overwritten (by rw [List.length_replicate]; omega)
      rw [storeWrite, parseWindows_bytes hwords, ← hsplice, ← hmarked]
      rfl
    exact congrArg (fun x => evaluateWindows (journalAppend .tableWrite none 7 x)) hstored

/-- What the evaluation after a write of windows leaves. -/
theorem windows_evaluated {s : State} {ws : List (Nat × Nat)} {marks : List Bool} :
    let w := journalAppend .tableWrite none 7
      { s with tables := { s.tables with windows := ws, windowMarks := marks } }
    let s1 : State := { w with
      time := { s.time with eveningOpen := w.windowNow 0, nightOpen := w.windowNow 1, sawOpen := w.windowNow 2 } }
    let m := evaluateWindows (holding w)
    m.tables = s1.tables ∧ m.time = s1.time ∧ WindowFollows s s1 m m.journal ∧ SameQueue (holding s) m ∧
      SlotsFollow [] s m ∧ KeptBut [.tables, .time, .saw, .gov, .shed, .journal, .loop] s m := by
  intro w s1 m
  have hwindow : m = if s.time.sawOpen = true ∧ (holding s1).time.sawOpen = false then
      sawWindowCloses (holding s1) else holding s1 := evaluateWindows_eq (holding w)
  obtain ⟨hfollows, hrecord, hfollow, hkept⟩ := windowFollows (s := s) (s1 := holding s1) rfl rfl rfl hwindow
  obtain ⟨hanswers, hheld⟩ := windowRecord_sameQueue
    (s.time.sawOpen = true ∧ (holding s1).time.sawOpen = false) s.saw.state (holding s1)
  refine ⟨hkept .tables (by simp), hkept .time (by simp), hfollows,
    ⟨hrecord.answers.trans hanswers, hrecord.held.trans hheld⟩, hfollow.slots, fun b hb => ?_⟩
  have h := hkept b fun hmem => hb (by simp at hmem ⊢; tauto)
  cases b <;> first | exact h | simp at hb

end Sys2Proof.Proofs
end

section
namespace Sys2Proof.Proofs
open Sys2Proof.Machine Sys2Proof.Safety

/-! ## The values of a write of circuits (R89) -/

/-- The bytes of a circuit entry as they are written. -/
def fieldBytes (x : CircuitFields) : List Byte :=
  [byteOf x.present] ++ be16 x.label ++ [byteOf x.tier] ++ be16 x.dayAllow ++ be16 x.eveningAllow ++ be16 x.nightAllow

/-- Fields that the layout holds. -/
def FieldsFit (x : CircuitFields) : Prop := x.present ≤ 255 ∧ x.label ≤ 65535 ∧ x.tier ≤ 255 ∧ x.dayAllow ≤ 65535 ∧
  x.eveningAllow ≤ 65535 ∧ x.nightAllow ≤ 65535

/-- The bytes of circuit entries read back. -/
theorem parseCircuits_bytes {fields : List CircuitFields} (h : ∀ x ∈ fields, FieldsFit x) :
    parseCircuits (fields.flatMap fieldBytes) = fields := by
  induction fields with
  | nil => rfl
  | cons x fields ih =>
    obtain ⟨hpresent, hlabel, htier, hday, hevening, hnight⟩ := h x List.mem_cons_self
    have hbytes : (x :: fields).flatMap fieldBytes =
        byteOf x.present :: byteOf (x.label / 256) :: byteOf x.label :: byteOf x.tier ::
          byteOf (x.dayAllow / 256) :: byteOf x.dayAllow :: byteOf (x.eveningAllow / 256) :: byteOf x.eveningAllow ::
          byteOf (x.nightAllow / 256) :: byteOf x.nightAllow :: fields.flatMap fieldBytes := rfl
    rw [hbytes, parseCircuits, u16_bytes hlabel, u16_bytes hday, u16_bytes hevening, u16_bytes hnight,
      toNat_byteOf (by omega), toNat_byteOf (by omega), ih fun y hy => h y (List.mem_cons_of_mem x hy)]

theorem inRange_iff (x : CircuitFields) : x.inRange = true ↔
    ¬(1 < x.present ∨ 999 < x.label ∨ 3 < x.tier ∨ (x.present = 1 ∧ x.label = 0)) := by
  simp only [CircuitFields.inRange, Bool.and_eq_true, Bool.not_eq_true', Bool.and_eq_false_iff, decide_eq_true_iff,
    beq_eq_false_iff_ne]
  omega

theorem inService_iff (c : Circuit) : c.inService = true ↔
    c.state = .closed ∨ c.state = .limitOpen ∨ c.state = .shed ∨ c.state = .locked := by
  unfold Circuit.inService
  cases c.state <;> simp

theorem changesUse_iff (x : CircuitFields) (c : Circuit) : x.changesUse c = true ↔
    (c.state = .closed ∨ c.state = .limitOpen ∨ c.state = .shed ∨ c.state = .locked) ∧
      (decide (x.present = 1) ≠ c.present ∨ x.label ≠ c.label ∨ x.tier ≠ c.tier) := by
  have hpresent : (x.present == 1) = decide (x.present = 1) := rfl
  rw [CircuitFields.changesUse, hpresent, Bool.and_eq_true, inService_iff, Bool.or_eq_true, Bool.or_eq_true, bne_iff_ne,
    bne_iff_ne, bne_iff_ne, or_assoc]

/-- An entry that passes its checks. -/
def EntryPasses (s : State) (i : Nat) (x : CircuitFields) : Prop :=
  x.inRange = true ∧ x.changesUse (s.circuit i) = false

theorem circuitsCheck_done {s : State} {fields : List CircuitFields} {n : Nat}
    (h : ∀ k (hk : k < fields.length), EntryPasses s (n + k) fields[k]) : circuitsCheck s n fields = .done := by
  induction fields generalizing n with
  | nil => rfl
  | cons x fields ih =>
    obtain ⟨hrange, huse⟩ := h 0 (by simp)
    have hrange' : x.inRange = true := hrange
    have huse' : x.changesUse (s.circuit n) = false := huse
    rw [circuitsCheck, if_pos hrange', huse']
    refine ih fun k hk => ?_
    have := h (k + 1) (by simpa using hk)
    rwa [show n + (k + 1) = n + 1 + k by omega] at this

/-- The first failing entry decides. -/
theorem circuitsCheck_fault {s : State} {fields : List CircuitFields} {n k : Nat} (hk : k < fields.length)
    (hbefore : ∀ j (hj : j < k), EntryPasses s (n + j) (fields[j]'(hj.trans hk))) :
    (fields[k].inRange = false → circuitsCheck s n fields = .badValue) ∧
      (fields[k].inRange = true → fields[k].changesUse (s.circuit (n + k)) = true →
        circuitsCheck s n fields = .inUse) := by
  induction fields generalizing n k with
  | nil => exact absurd hk (by simp)
  | cons x fields ih =>
    cases k with
    | zero =>
      refine ⟨fun hbad => ?_, fun hrange huse => ?_⟩
      · have hbad' : x.inRange = false := hbad
        rw [circuitsCheck, hbad']; rfl
      · have hrange' : x.inRange = true := hrange
        have huse' : x.changesUse (s.circuit n) = true := huse
        rw [circuitsCheck, hrange', huse']; rfl
    | succ k =>
      obtain ⟨hrange, huse⟩ := hbefore 0 (by omega)
      have hrange' : x.inRange = true := hrange
      have huse' : x.changesUse (s.circuit n) = false := huse
      have hindex : ∀ j, n + (j + 1) = n + 1 + j := fun j => by omega
      have hrest : circuitsCheck s n (x :: fields) = circuitsCheck s (n + 1) fields := by
        rw [circuitsCheck, if_pos hrange', huse']; rfl
      rw [hrest, hindex k]
      refine ih (n := n + 1) (k := k) (by simpa using hk) fun j hj => ?_
      have := hbefore (j + 1) (by omega)
      rwa [hindex j] at this

/-! ## The circuits are stored (R90) -/

/-- The entries from `n` on hold the new fields, and nothing else of the state has changed. -/
structure CircuitsStored (n : Nat) (fields : List CircuitFields) (s t : State) : Prop where
  hamlet : t = { s with hamlet := { s.hamlet with entries := t.hamlet.entries } }
  length : t.hamlet.entries.length = s.hamlet.entries.length
  inside : ∀ k (hk : k < fields.length), t.circuit (n + k) = (s.circuit (n + k)).store fields[k]
  outside : ∀ j, j < n ∨ n + fields.length ≤ j → t.circuit j = s.circuit j

theorem storeCircuits_stored {n : Nat} {fields : List CircuitFields} {s : State}
    (hfit : n + fields.length ≤ s.hamlet.entries.length) : CircuitsStored n fields s (storeCircuits n fields s) := by
  induction fields generalizing n s with
  | nil => exact ⟨rfl, rfl, fun k hk => absurd hk (by simp), fun _ _ => rfl⟩
  | cons x fields ih =>
    rw [List.length_cons] at hfit
    have hlength : (modifyCircuit n (Circuit.store x) s).hamlet.entries.length = s.hamlet.entries.length := by
      simp [modifyCircuit]
    obtain ⟨hhamlet, hlen, hinside, houtside⟩ := ih (n := n + 1) (s := modifyCircuit n (Circuit.store x) s) (by omega)
    have hother : ∀ j, j ≠ n → (modifyCircuit n (Circuit.store x) s).circuit j = s.circuit j := fun j hj => by
      rw [circuit_modifyCircuit, if_neg (by omega)]
    rw [storeCircuits]
    refine ⟨by rw [hhamlet]; rfl, hlen.trans hlength, fun k hk => ?_, fun j hj => ?_⟩
    · cases k with
      | zero =>
        exact (houtside n (.inl (by omega))).trans (circuit_modifyCircuit_self (by omega) _)
      | succ k =>
        have hrest := hinside k (by simpa using hk)
        rw [hother _ (by omega)] at hrest
        rwa [show n + (k + 1) = n + 1 + k by omega]
    · rw [List.length_cons] at hj
      rw [houtside j (by omega), hother j (by omega)]

end Sys2Proof.Proofs
end

section
namespace Sys2Proof.Proofs
open Sys2Proof.Machine Sys2Proof.Safety

/-! ## The written circuits are acted on (R90) -/

/-- What a stored entry becomes, by its present field before and after, in RUN or outside it. -/
def placedCircuit (run before : Bool) (c : Circuit) : Circuit :=
  match before, c.present with
  | true, false => c.remove
  | false, true => c.move (if run then (if c.tier = 0 then .closed else .shed) else .dark)
  | true, true => c
  | false, false => c

/-- The entry comes into service by way of the shed list. -/
def comesShed (before : Bool) (i : Nat) (s : State) : Bool :=
  s.inPlant .run && !before && (s.circuit i).present && (s.circuit i).tier != 0

/-- Entry `i` has been acted on, and record `r` has become `r'`. -/
structure Placed (i : Nat) (before : Bool) (r' s t : State) : Prop where
  one : OneCircuit i s t
  self : t.circuit i = placedCircuit (s.inPlant .run) before (s.circuit i)
  supplied : (s.circuit i).wanted = true → (t.circuit i).wanted = true
  record : ListAgree r' t
  listed : ∀ j, j ≠ i → t.listed j = s.listed j
  kept : KeptBut [.hamlet, .shed, .conds, .journal, .loop] s t

theorem ListAgree.of_move {r s t : State} (h : ListAgree r s) (hagree : RecordAgree s t) (hshed : t.shed = s.shed)
    (hreading : ∀ j, (t.circuit j).reading = (s.circuit j).reading) : ListAgree r t :=
  ⟨h.agree.trans hagree, hshed.trans h.shed, fun j => (hreading j).trans (h.reading j)⟩

theorem placed_move {i : Nat} {before : Bool} {r s : State} {st : CircuitState} (hi : i < 48)
    (hlen : s.hamlet.entries.length = 48) (hopen : (s.circuit i).wanted = false) (hrecord : ListAgree r s)
    (hplaced : placedCircuit (s.inPlant .run) before (s.circuit i) = (s.circuit i).move st) :
    Placed i before r s (moveCircuit i st s) := by
  refine ⟨.moveCircuit hi (by omega) st, ?_, fun h => ?_, ?_, fun j _ => listed_congr (by simp) j, fun b hb => ?_⟩
  · rw [circuit_moveCircuit_self (by omega), hplaced]
  · rw [hopen] at h; cases h
  · refine hrecord.of_move (moveCircuit_agree i st s) (by simp) fun j => ?_
    rw [circuit_moveCircuit]
    split <;> rfl
  · cases b <;> simp_all [Block.same]

theorem placed_append {i : Nat} {before : Bool} {r s : State} (hi : i < 48) (hlen : s.hamlet.entries.length = 48)
    (hopen : (s.circuit i).wanted = false) (hrecord : ListAgree r s)
    (hplaced : placedCircuit (s.inPlant .run) before (s.circuit i) = (s.circuit i).move .shed) :
    Placed i before (appended i .frequency r) s (appendTaken i .frequency s) := by
  refine ⟨appendTaken_oneCircuit hi (by omega) .frequency, ?_, fun h => ?_, hrecord.appendTaken i .frequency,
    fun j hj => ?_, fun b hb => ?_⟩
  · rw [circuit_appendTaken_self (by omega), hplaced]
  · rw [hopen] at h; cases h
  · rw [State.listed, State.listed, appendTaken_shed]
    simp [hj.symm]
  · cases b <;> simp_all [Block.same]

theorem placed_remove {i : Nat} {before : Bool} {r s : State} (hlen : s.hamlet.entries.length = 48) (hi : i < 48)
    (hopen : (s.circuit i).wanted = false) (hrecord : ListAgree r s)
    (hplaced : placedCircuit (s.inPlant .run) before (s.circuit i) = (s.circuit i).remove) :
    Placed i before r s (modifyCircuit i Circuit.remove s) := by
  refine ⟨.modifyCircuit (by rw [hopen]; rfl), ?_, fun h => ?_, ?_, fun j _ => listed_congr rfl j, fun b hb => ?_⟩
  · rw [circuit_modifyCircuit_self (by omega), hplaced]
  · rw [hopen] at h; cases h
  · refine hrecord.of_move (modifyCircuit_agree i _ s) rfl fun j => ?_
    rw [circuit_modifyCircuit]
    split <;> rfl
  · cases b <;> first | rfl | simp at hb

theorem placed_same {i : Nat} {before : Bool} {r s : State} (hrecord : ListAgree r s)
    (hplaced : placedCircuit (s.inPlant .run) before (s.circuit i) = s.circuit i) : Placed i before r s s :=
  ⟨.refl i s, hplaced.symm, id, hrecord, fun _ _ => rfl, fun b _ => by cases b <;> rfl⟩

/-- A change of the present field is acted on, and nothing else is. -/
theorem presentWritten_placed {i : Nat} {before : Bool} {r s : State} (hi : i < 48)
    (hlen : s.hamlet.entries.length = 48) (huse : before ≠ (s.circuit i).present → (s.circuit i).wanted = false)
    (hfree : comesShed before i s = true → s.listed i = false) (hrecord : ListAgree r s) :
    Placed i before (if comesShed before i s then appended i .frequency r else r) s (presentWritten i before s) := by
  cases hafter : (s.circuit i).present <;> cases before
  case false.false =>
    have hcomes : comesShed false i s = false := by simp [comesShed, hafter]
    rw [hcomes]
    simp only [presentWritten, hafter]
    exact placed_same hrecord (by simp only [placedCircuit, hafter])
  case true.true =>
    have hcomes : comesShed true i s = false := by simp [comesShed]
    rw [hcomes]
    simp only [presentWritten, hafter]
    exact placed_same hrecord (by simp only [placedCircuit, hafter])
  case false.true =>
    have hcomes : comesShed true i s = false := by simp [comesShed]
    rw [hcomes]
    simp only [presentWritten, hafter]
    exact placed_remove hlen hi (huse (by simp [hafter])) hrecord (by simp only [placedCircuit, hafter])
  case true.false =>
    have hopen := huse (by simp [hafter])
    have hplace : presentWritten i false s = placeOn i s := by simp only [presentWritten, hafter]
    obtain ⟨houtside, hcloses, hsheds⟩ := placeOn_cases (i := i) (x := s)
    rw [hplace]
    by_cases hrun : s.plant.state = .run
    · have hin := (inPlant_iff s _).mpr hrun
      by_cases htier : (s.circuit i).tier = 0
      · have hcomes : comesShed false i s = false := by simp [comesShed, htier]
        rw [hcomes, hcloses hrun htier]
        exact placed_move hi hlen hopen hrecord (by simp only [placedCircuit, hafter, hin, htier]; rfl)
      · have hcomes : comesShed false i s = true := by simp [comesShed, hin, hafter, htier]
        rw [hcomes, hsheds hrun (Nat.pos_of_ne_zero htier) (hfree hcomes)]
        exact placed_append hi hlen hopen hrecord (by simp only [placedCircuit, hafter, hin, htier]; rfl)
    · have hout : s.inPlant .run = false := Bool.eq_false_iff.mpr (mt (inPlant_iff s _).mp hrun)
      have hcomes : comesShed false i s = false := by simp [comesShed, hout]
      rw [hcomes, houtside hrun]
      exact placed_move hi hlen hopen hrecord (by simp only [placedCircuit, hafter, hout]; rfl)

end Sys2Proof.Proofs
end

section
namespace Sys2Proof.Proofs
open Sys2Proof.Machine Sys2Proof.Safety

/-- The entry of a span as it stood before the write was present. -/
def wasPresent (before : List Circuit) (i : Nat) : Bool := (before.getD i Circuit.blank).present

/-- The entries from `n` on that come into service by way of the shed list, as offsets. -/
def comingShed (before : List Circuit) (n count : Nat) (s : State) : List Nat :=
  (List.range count).filter fun k => comesShed (wasPresent before (n + k)) (n + k) s

/-- The first `count` entries from `n` on have been acted on. -/
structure SpanPlaced (before : List Circuit) (n count : Nat) (r s t : State) : Prop where
  length : t.hamlet.entries.length = s.hamlet.entries.length
  supplied : Supplied s t
  inside : ∀ k < count, t.circuit (n + k) =
    placedCircuit (s.inPlant .run) (wasPresent before (n + k)) (s.circuit (n + k))
  outside : ∀ j, j < n ∨ n + count ≤ j → t.circuit j = s.circuit j
  record : ListAgree ((comingShed before n count s).foldl (fun r k => appended (n + k) .frequency r) r) t
  listed : ∀ j, j < n ∨ n + count ≤ j → t.listed j = s.listed j
  kept : KeptBut [.hamlet, .shed, .conds, .journal, .loop] s t

theorem comingShed_succ (before : List Circuit) (n count : Nat) (s : State) :
    comingShed before n (count + 1) s = comingShed before n count s ++
      if comesShed (wasPresent before (n + count)) (n + count) s then [count] else [] := by
  rw [comingShed, List.range_succ, List.filter_append, comingShed, List.filter_cons, List.filter_nil]

theorem circuitsWritten_succ (before : List Circuit) (n count : Nat) (s : State) :
    circuitsWritten before n (count + 1) s =
      presentWritten (n + count) (wasPresent before (n + count)) (circuitsWritten before n count s) := by
  rw [circuitsWritten, List.range_succ, List.foldl_append]
  rfl

/-- One more entry is acted on. -/
theorem SpanPlaced.succ {before : List Circuit} {n count : Nat} {r r' s t u : State}
    (h : SpanPlaced before n count r s t)
    (hr : r' = (comingShed before n (count + 1) s).foldl (fun r k => appended (n + k) .frequency r) r)
    (hone : Placed (n + count) (wasPresent before (n + count)) r' t u) :
    SpanPlaced before n (count + 1) r s u := by
  obtain ⟨hlength, hsupplied, hinside, houtside, -, hlisted, hkept⟩ := h
  obtain ⟨hone, hself, hwanted, hrecord, hlisted', hkept'⟩ := hone
  have hplant : t.inPlant .run = s.inPlant .run := by rw [State.inPlant, State.inPlant, hkept .plant (by simp)]
  refine ⟨hone.length.trans hlength, hsupplied.trans (.of_oneCircuit hone hwanted), fun k hk => ?_, fun j hj => ?_,
    hr ▸ hrecord, fun j hj => ?_, fun b hb => ?_⟩
  · by_cases hlast : k = count
    · rw [hlast, hself, hplant, houtside (n + count) (.inr (by omega))]
    · rw [hone.others (n + k) (by omega), hinside k (by omega)]
  · rw [hone.others j (by omega), houtside j (by omega)]
  · rw [hlisted' j (by omega), hlisted j (by omega)]
  · have hb1 := hkept b hb
    have hb2 := hkept' b hb
    cases b <;> simp_all [Block.same]

theorem circuitsWritten_placed {before : List Circuit} {n count : Nat} {r s : State} (hfit : n + count ≤ 48)
    (hlen : s.hamlet.entries.length = 48)
    (huse : ∀ k < count, wasPresent before (n + k) ≠ (s.circuit (n + k)).present →
      (s.circuit (n + k)).wanted = false)
    (hfree : ∀ k < count, comesShed (wasPresent before (n + k)) (n + k) s = true → s.listed (n + k) = false)
    (hrecord : ListAgree r s) : SpanPlaced before n count r s (circuitsWritten before n count s) := by
  induction count with
  | zero => exact ⟨rfl, .refl s, fun k hk => absurd hk (by simp), fun _ _ => rfl, hrecord, fun _ _ => rfl,
      fun b _ => by cases b <;> rfl⟩
  | succ count ih =>
    have h := ih (by omega) (fun k hk => huse k (by omega)) (fun k hk => hfree k (by omega))
    rw [circuitsWritten_succ]
    generalize circuitsWritten before n count s = t at h ⊢
    have hcircuit := h.outside (n + count) (.inr le_rfl)
    have hcomes : comesShed (wasPresent before (n + count)) (n + count) t =
        comesShed (wasPresent before (n + count)) (n + count) s := by
      rw [comesShed, comesShed, hcircuit, State.inPlant, State.inPlant, h.kept .plant (by simp)]
    refine h.succ ?_ (presentWritten_placed (by omega) (h.length.trans hlen)
      (by rw [hcircuit]; exact huse count (by omega))
      (by rw [hcomes, h.listed _ (.inr le_rfl)]; exact hfree count (by omega)) h.record)
    rw [hcomes, comingShed_succ, List.foldl_append]
    cases comesShed (wasPresent before (n + count)) (n + count) s <;> rfl

end Sys2Proof.Proofs
end

section
namespace Sys2Proof.Proofs
open Sys2Proof.Machine Sys2Proof.Safety

/-! ## A write of circuits (R89, R90) -/

/-- The state of a write of circuits with the new marks and the TABLE_WRITE entry. -/
def circuitsNoted (n count : Nat) (s : State) : State := journalAppend .tableWrite none 8 { s with tables := { s.tables with
  circuitMarks := overwritten s.tables.circuitMarks n (List.replicate count true) } }

/-- That state with the new fields in its entries, before they are acted on. -/
def circuitsStored (n : Nat) (fields : List CircuitFields) (s : State) : State :=
  storeCircuits n fields (holding (circuitsNoted n fields.length s))

theorem length_fieldBytes (fields : List CircuitFields) : (fields.flatMap fieldBytes).length = fields.length * 10 := by
  rw [List.length_flatMap]
  simp [fieldBytes, length_be16]

/-- The journal is appended to before or after the circuits are stored. -/
theorem journalAppend_storeCircuits (kind : JournalKind) (subject : Option Nat) (v : Int) (n : Nat)
    (fields : List CircuitFields) (s : State) : journalAppend kind subject v (storeCircuits n fields s) =
      storeCircuits n fields (journalAppend kind subject v s) := by
  induction fields generalizing n s with
  | nil => rfl
  | cons x fields ih => exact ih (n + 1) (modifyCircuit n (Circuit.store x) s)

/-- A write of circuits, by the check of its values. -/
theorem circuits_write {src : Byte} {tag : Word16} {first : Byte} {fields : List CircuitFields} {extra : List Byte}
    {s : State} (hroom : s.answerRoom = true) (hlow : 1 ≤ fields.length) (hhigh : fields.length ≤ 5)
    (hfit : first.toNat + fields.length ≤ 48) (hmarks : s.tables.circuitMarks.length = 48)
    (hfields : ∀ x ∈ fields, FieldsFit x) :
    let write : Instr := .writeEntries src tag 8 first (byteOf fields.length) (fields.flatMap fieldBytes ++ extra)
    (∀ o, o ≠ .done → circuitsCheck s first.toNat fields = o → exec write s = .next (answered src tag 2 o [] s)) ∧
    (circuitsCheck s first.toNat fields = .done → exec write s = .next (answered src tag 2 .done []
      (circuitsWritten s.hamlet.entries first.toNat fields.length (circuitsStored first.toNat fields s)))) := by
  intro write
  have hcount : (byteOf fields.length).toNat = fields.length := toNat_byteOf (by omega)
  have hright : SpanRight 8 first.toNat fields.length (fields.flatMap fieldBytes ++ extra) (fields.flatMap fieldBytes) s :=
    spanRight_of_body (size := 48) rfl hlow hfit (by simp [writtenSize]; omega)
      (by rw [length_fieldBytes]; rfl) (by decide)
  rw [← hcount] at hright
  obtain ⟨-, hfault, hdone⟩ := writeOutcome (src := src) (tag := tag) (table := 8) hroom hright
  rw [hcount] at hfault hdone
  have hstate : s.writeStateFault 8 first.toNat fields.length = false := by simp [State.writeStateFault]
  have hcheck : valuesCheck 8 first.toNat (fields.flatMap fieldBytes) s = circuitsCheck s first.toNat fields :=
    congrArg (circuitsCheck s first.toNat) (parseCircuits_bytes hfields)
  refine ⟨fun o ho h => hfault hstate o ho (hcheck.trans h), fun h => hdone hstate (hcheck.trans h) _ ?_⟩
  have hmarked : splice s.tables.circuitMarks first.toNat (List.replicate fields.length true) =
      overwritten s.tables.circuitMarks first.toNat (List.replicate fields.length true) :=
    splice_eq_overwritten (by rw [List.length_replicate]; omega)
  have hstored : journalAppend .tableWrite none 8
      (storeWrite 8 first.toNat fields.length (fields.flatMap fieldBytes) (holding s)) =
      circuitsStored first.toNat fields s := by
    rw [storeWrite, parseCircuits_bytes hfields, journalAppend_storeCircuits,
      circuitsStored, circuitsNoted, ← hmarked]
    rfl
  exact congrArg (circuitsWritten s.hamlet.entries first.toNat fields.length) hstored

/-- The stored state, with the record that its entries are acted on with. -/
structure StoredFor (n : Nat) (fields : List CircuitFields) (s x : State) : Prop where
  length : x.hamlet.entries.length = 48
  plant : x.plant = s.plant
  shed : x.shed = s.shed
  tables : x.tables = (circuitsNoted n fields.length s).tables
  inside : ∀ k (hk : k < fields.length), x.circuit (n + k) = (s.circuit (n + k)).store fields[k]
  outside : ∀ j, j < n ∨ n + fields.length ≤ j → x.circuit j = s.circuit j
  record : ListAgree (holding (circuitsNoted n fields.length s)) x
  supplied : Supplied { s with tables := (circuitsNoted n fields.length s).tables } x
  kept : KeptBut [.tables, .hamlet, .journal, .loop] s x

theorem circuitsStored_for {n : Nat} {fields : List CircuitFields} {s : State} (hfit : n + fields.length ≤ 48)
    (hentries : s.hamlet.entries.length = 48) : StoredFor n fields s (circuitsStored n fields s) := by
  obtain ⟨hstate, hlength, hinside, houtside⟩ := storeCircuits_stored (n := n) (fields := fields)
    (s := holding (circuitsNoted n fields.length s)) (by exact hentries ▸ hfit)
  change circuitsStored n fields s = _ at hstate
  have hin : ∀ k (hk : k < fields.length), (circuitsStored n fields s).circuit (n + k) =
      (s.circuit (n + k)).store fields[k] := hinside
  have hout : ∀ j, j < n ∨ n + fields.length ≤ j → (circuitsStored n fields s).circuit j = s.circuit j := houtside
  have hlen : (circuitsStored n fields s).hamlet.entries.length = 48 := hlength.trans hentries
  generalize circuitsStored n fields s = x at *
  have hcircuit : ∀ j, (x.circuit j).reading = (s.circuit j).reading ∧ (x.circuit j).wanted = (s.circuit j).wanted := by
    intro j
    by_cases hj : j < n ∨ n + fields.length ≤ j
    · rw [hout j hj]; exact ⟨rfl, rfl⟩
    · have hk := hin (j - n) (by omega)
      rw [Nat.add_sub_cancel' (by omega)] at hk
      rw [hk]; exact ⟨rfl, rfl⟩
  have hshed : x.shed = s.shed := by rw [hstate]; rfl
  have hgate : x.water = s.water := by rw [hstate]; rfl
  have hsaw : x.saw = s.saw := by rw [hstate]; rfl
  have htables : x.tables = (circuitsNoted n fields.length s).tables := by rw [hstate]; rfl
  have horder : slotOrder x = slotOrder { s with tables := (circuitsNoted n fields.length s).tables } := by
    funext k
    match k with
    | 0 => simp [slotOrder, hgate]
    | 1 => simp [slotOrder, hsaw]
    | k + 2 =>
      by_cases hk : k < 6
      · rw [slotOrder_feeder _ hk, slotOrder_feeder _ hk, positions_eq_iff.mpr fun m _ => (hcircuit _).2]; rfl
      · simp [slotOrder, hk]
  refine ⟨hlen, by rw [hstate]; rfl, hshed, htables, hin, hout,
    ⟨.of_loop (by rw [hstate]) (by rw [hstate]) (by rw [hstate]) htables (by rw [hstate]), hshed, fun j => (hcircuit j).1⟩,
    ⟨.of_same htables horder ⟨s.loop.answers, true, by rw [hstate]; rfl⟩, congrArg Water.gate hgate,
      congrArg Saw.order hsaw, fun j hj => (hcircuit j).2.trans hj⟩, fun b hb => ?_⟩
  rw [hstate]
  cases b <;> first | rfl | simp at hb

end Sys2Proof.Proofs
end

section
namespace Sys2Proof.Proofs
open Sys2Proof.Machine Sys2Proof.Safety

/-- What a taken write of circuits leaves, entry by entry. -/
structure CircuitsTaken (n : Nat) (fields : List CircuitFields) (s m : State) : Prop where
  tables : m.tables = (circuitsNoted n fields.length s).tables
  outside : ∀ j, j < n ∨ n + fields.length ≤ j → m.circuit j = s.circuit j
  inside : ∀ k (hk : k < fields.length), m.circuit (n + k) =
    placedCircuit (s.inPlant .run) (s.circuit (n + k)).present ((s.circuit (n + k)).store fields[k])
  record : ListAgree ((comingShed s.hamlet.entries n fields.length (circuitsStored n fields s)).foldl
    (fun r k => appended (n + k) .frequency r) (holding (circuitsNoted n fields.length s))) m
  slots : SlotsFollow [] s m
  kept : KeptBut [.tables, .hamlet, .shed, .conds, .journal, .loop] s m

/-- A stored entry comes into service by way of the shed list. -/
theorem comesShed_stored {n : Nat} {fields : List CircuitFields} {s x : State} (h : StoredFor n fields s x) {k : Nat}
    (hk : k < fields.length) : comesShed (wasPresent s.hamlet.entries (n + k)) (n + k) x =
      (s.inPlant .run && !(s.circuit (n + k)).present && fields[k].present == 1 && fields[k].tier != 0) := by
  rw [comesShed, h.inside k hk, State.inPlant, h.plant]
  rfl

/-- A circuit whose present field a passing entry changes is not CLOSED. -/
theorem not_wanted_of_passes {s : State} {i : Nat} {x : CircuitFields} (h : EntryPasses s i x)
    (hpresent : (s.circuit i).present ≠ (x.present == 1)) : (s.circuit i).wanted = false := by
  obtain ⟨-, huse⟩ := h
  rw [Circuit.wanted, beq_eq_false_iff_ne]
  intro hclosed
  have := (changesUse_iff x (s.circuit i)).mpr ⟨.inl hclosed, .inl hpresent.symm⟩
  rw [huse] at this
  cases this

theorem circuitsTaken {n : Nat} {fields : List CircuitFields} {s : State} (hfit : n + fields.length ≤ 48)
    (hentries : s.hamlet.entries.length = 48)
    (hpasses : ∀ k (hk : k < fields.length), EntryPasses s (n + k) fields[k])
    (hfree : ∀ k (hk : k < fields.length), (s.inPlant .run && !(s.circuit (n + k)).present && fields[k].present == 1 &&
      fields[k].tier != 0) = true → s.listed (n + k) = false) :
    CircuitsTaken n fields s
      (circuitsWritten s.hamlet.entries n fields.length (circuitsStored n fields s)) := by
  have h := circuitsStored_for hfit hentries
  obtain ⟨-, hsupplied, hinside, houtside, hrecord, -, hkept⟩ := circuitsWritten_placed (before := s.hamlet.entries)
    hfit h.length
    (fun k hk hne => by
      rw [h.inside k hk] at hne ⊢
      exact not_wanted_of_passes (hpasses k hk) hne)
    (fun k hk hcomes => (listed_congr h.shed _).trans (hfree k hk ((comesShed_stored h hk).symm.trans hcomes)))
    h.record
  refine ⟨(hkept .tables (by simp)).trans h.tables, fun j hj => (houtside j hj).trans (h.outside j hj), fun k hk => ?_,
    hrecord, (h.supplied.trans hsupplied).follow.slots, fun b hb => ?_⟩
  · rw [hinside k hk, h.inside k hk, State.inPlant, h.plant]
    rfl
  · have hstored := h.kept b fun hmem => hb (by simp at hmem ⊢; tauto)
    have hacted := hkept b fun hmem => hb (by simp at hmem ⊢; tauto)
    cases b <;> simp_all [Block.same]

end Sys2Proof.Proofs
end

section
namespace Sys2Proof.Proofs
open Sys2Proof.Machine Sys2Proof.Safety

/-! ## O55: WRITE ENTRIES -/

/-- The tables that a request names, in their entries and the bytes of each. -/
theorem table_of_write {s : State} {id : Nat} (hlow : 1 ≤ id) (hhigh : id ≤ 10) : ∃ size, s.tableEntries id = some size ∧
    (id ≤ 8 → size = [0, 9, 57, 65, 33, 17, 17, 3, 48].getD id 0 ∧
      writtenSize id = [0, 1, 2, 2, 2, 2, 2, 4, 10].getD id 0) := by
  by_cases hread : 9 ≤ id
  · obtain ⟨size, hsize⟩ : ∃ size, s.tableEntries id = some size := by
      obtain rfl | rfl : id = 9 ∨ id = 10 := by omega
      · exact ⟨_, rfl⟩
      · exact ⟨_, rfl⟩
    exact ⟨size, hsize, fun h => absurd h (by omega)⟩
  · have hid : id ≤ 8 := by omega
    interval_cases id <;> exact ⟨_, rfl, fun _ => ⟨rfl, rfl⟩⟩

/-- A span that a write does not take, of whatever table. -/
theorem exec_writeEntries_badSpan {s : State} (src : Byte) (tag : Word16) {table first count : Byte} {bytes : List Byte}
    (hroom : s.answerRoom = true) (hlow : 1 ≤ table.toNat) (hhigh : table.toNat ≤ 10)
    (hbad : 9 ≤ table.toNat ∨ count = 0 ∨
      [0, 9, 57, 65, 33, 17, 17, 3, 48].getD table.toNat 0 < first.toNat + count.toNat ∨
      56 < count.toNat * [0, 1, 2, 2, 2, 2, 2, 4, 10].getD table.toNat 0 ∨
      bytes.length < count.toNat * [0, 1, 2, 2, 2, 2, 2, 4, 10].getD table.toNat 0) :
    exec (.writeEntries src tag table first count bytes) s = .next (answered src tag 2 .badSpan [] s) := by
  obtain ⟨size, hsize, hknown⟩ := table_of_write (s := holding s) hlow hhigh
  refine congrArg Host.Outcome.next (serve_eq_answered_of_holding src tag 2 hroom (writeEntries_badSpan hsize ?_))
  simp only [writeSpanFault, Bool.or_eq_true, decide_eq_true_iff, beq_iff_eq]
  by_cases hread : 9 ≤ table.toNat
  · omega
  · obtain ⟨rfl, hwidth⟩ := hknown (by omega)
    rw [hwidth]
    rcases hbad with h | rfl | h | h | h
    · exact absurd h hread
    · exact .inl (.inl (.inl (.inl (.inl rfl))))
    · exact .inl (.inl (.inl (.inl (.inr h))))
    · exact .inl (.inl (.inl (.inr h)))
    · exact .inl (.inl (.inr h))

/-- An entry that comes into service, or leaves it, and one that does neither. -/
theorem placedCircuit_cases {run before : Bool} {c : Circuit} :
    (c.present = before → placedCircuit run before c = c) ∧
    (before = true → c.present = false → placedCircuit run before c =
      { c with state := .absent, overCount := 0, disagree := 0, report := .unknown }) ∧
    (before = false → c.present = true → c.state ≠ .closed →
      (run = false → placedCircuit run before c = { c with state := .dark, reclose := none }) ∧
      (run = true → c.tier = 0 →
        placedCircuit run before c = { c with state := .closed, disagree := 0, reclose := none }) ∧
      (run = true → c.tier ≠ 0 → placedCircuit run before c = { c with state := .shed, reclose := none })) := by
  refine ⟨fun h => ?_, fun hbefore hafter => ?_, fun hbefore hafter hopen => ?_⟩
  · cases before <;> simp only [placedCircuit, h]
  · have hplaced : placedCircuit run before c = c.remove := by simp only [placedCircuit, hbefore, hafter]
    exact hplaced
  · have hplaced : placedCircuit run before c =
        c.move (if run then (if c.tier = 0 then .closed else .shed) else .dark) := by
      simp only [placedCircuit, hbefore, hafter]
    refine ⟨fun hrun => ?_, fun hrun htier => ?_, fun hrun htier => ?_⟩
    · rw [hplaced, hrun]
      exact move_of_open hopen (st := .dark) (by decide) (by decide)
    · rw [hplaced, hrun, if_pos rfl, if_pos htier]
      exact move_closed hopen
    · rw [hplaced, hrun, if_pos rfl, if_neg htier]
      exact move_of_open hopen (by decide) (by decide)

/-- Settles O55. -/
theorem writeEntries : Obligations.WriteEntries := by
  intro src tag first extra s hroom n refused done stored written marked
  refine ⟨fun table count bytes => ⟨fun h => ?badTable, fun hlow hhigh hbad => ?badSpan⟩,
    fun words hlow hhigh => ⟨fun hvals hmarks hfit => ?settings, ?firing, ?weir, ?pond, ?feed⟩,
    fun addresses hlow hfit hvals hmarks => ?nodes, fun spans hlow hfit hvals hmarks => ?windows,
    fun fields hlow hhigh hfit hentries hmarks hfields => ?circuits⟩
  case badTable =>
    have hid : table.toNat = 0 ∨ 10 < table.toNat := h.imp_left fun h => by rw [h]; rfl
    exact congrArg Host.Outcome.next (serve_eq_answered_of_holding src tag 2 hroom (writeEntries_badTable hid))
  case badSpan => exact exec_writeEntries_badSpan src tag hroom hlow hhigh hbad
  case settings =>
    obtain ⟨hwrong, hbad, hgood⟩ := settings_write (src := src) (tag := tag) (extra := extra) hroom hlow hhigh hvals
      hmarks hfit
    refine ⟨hwrong, fun hfixed h => hbad hfixed fun hall => ?_, fun hfixed hrange hpaired => ?_⟩
    · exact h.elim (· hall.1) (· hall.2)
    · refine (hgood hfixed ⟨hrange, hpaired⟩).trans ?_
      rw [gateSettingsWritten_eq]
      rfl
  case firing =>
    refine fun hvals hmarks hfit => ordered_write (table := 3) hroom hlow hhigh rfl rfl (by simp [State.writeStateFault])
      hvals hmarks hfit (fun _ => rfl) fun _ h => ?_
    exact congrArg (fun u => holding (journalAppend .tableWrite none 3
      { s with tables := { s.tables with firingMap := u } })) h
  case weir =>
    refine fun hvals hmarks hfit => ordered_write (table := 4) hroom hlow hhigh rfl rfl (by simp [State.writeStateFault])
      hvals hmarks hfit (fun _ => rfl) fun _ h => ?_
    exact congrArg (fun u => holding { journalAppend .tableWrite none 4
      { s with tables := { s.tables with weir := u } } with
        water := { s.water with flow := s.water.head.map (interpUp u.vals 25 32) } }) h
  case pond =>
    refine fun hvals hmarks hfit => ordered_write (table := 5) hroom hlow hhigh rfl rfl (by simp [State.writeStateFault])
      hvals hmarks hfit (fun _ => rfl) fun _ h => ?_
    exact congrArg (fun u => holding (journalAppend .tableWrite none 5
      { s with tables := { s.tables with pondCurve := u } })) h
  case feed =>
    refine fun hvals hmarks hfit => ordered_write (table := 6) hroom hlow hhigh rfl rfl (by simp [State.writeStateFault])
      hvals hmarks hfit (fun _ => rfl) fun _ h => ?_
    exact congrArg (fun u => holding (journalAppend .tableWrite none 6
      { s with tables := { s.tables with feedCurve := u } })) h
  case nodes =>
    intro write map' addressOf bad changed timer feeders heard ends slots w after
    obtain ⟨hwrong, hbad, hgood⟩ := nodeMap_write (src := src) (tag := tag) (extra := extra) hroom hlow hfit hvals hmarks
    have hlength : map'.vals.length = 9 := (length_overwritten _ _ _).trans hvals
    have hallowed := nodeMapAllowed_iff s.loop.ownAddress map'.vals
    rw [hlength] at hallowed
    refine ⟨hwrong, fun hstate h => hbad hstate (Bool.eq_false_iff.mpr fun hyes => hallowed.mp hyes h),
      fun hstate h => (hgood hstate (hallowed.mpr h)).trans ?_⟩
    rfl
  case windows =>
    intro new write bad windows' w opens s1
    have hcount : new.length = spans.length := List.length_map _
    have hwords : ∀ x ∈ new, x.1 ≤ 65535 ∧ x.2 ≤ 65535 := by
      intro x hx
      obtain ⟨y, -, rfl⟩ := List.mem_map.mp hx
      have := y.1.isLt
      have := y.2.isLt
      exact ⟨by omega, by omega⟩
    obtain ⟨hbad, hgood⟩ := windows_write (src := src) (tag := tag) (first := first) (extra := extra) (s := s) (new := new) hroom
      (by omega) (by omega) hvals hmarks hwords
    rw [hcount] at hbad hgood
    have hrange := windowsInRange_iff new
    refine ⟨fun h => hbad (Bool.eq_false_iff.mpr fun hyes => hrange.mp hyes h), fun h =>
      ⟨_, hgood (hrange.mpr h), windows_evaluated⟩⟩
  case circuits =>
    intro write old new bad inUse after comes w record
    obtain ⟨hfault, hdone⟩ := circuits_write (src := src) (tag := tag) (extra := extra) hroom hlow hhigh hfit hmarks
      hfields
    have hnew : ∀ k (hk : k < fields.length), new k = fields[k] := fun k hk => List.getD_eq_getElem _ _ hk
    have hrange : ∀ k (hk : k < fields.length), fields[k].inRange = true ↔ ¬bad k := fun k hk =>
      hnew k hk ▸ inRange_iff (new k)
    have huse : ∀ k (hk : k < fields.length), fields[k].changesUse (old k) = true ↔ inUse k :=
      fun k hk => hnew k hk ▸ changesUse_iff (new k) (old k)
    have hpasses : ∀ k (hk : k < fields.length), ¬bad k ∧ ¬inUse k → EntryPasses s (n + k) fields[k] :=
      fun k hk h => ⟨(hrange k hk).mpr h.1, Bool.eq_false_iff.mpr (mt (huse k hk).mp h.2)⟩
    refine ⟨fun k hk hbefore => ?fault, fun hall hfree => ?done⟩
    case fault =>
      obtain ⟨hbadValue, hinUse⟩ := circuitsCheck_fault (s := s) (n := n) hk fun j hj => hpasses j _ (hbefore j hj)
      exact ⟨fun h => hfault _ (by decide) (hbadValue (Bool.eq_false_iff.mpr fun hyes => (hrange k hk).mp hyes h)),
        fun h hin => hfault _ (by decide) (hinUse ((hrange k hk).mpr h) ((huse k hk).mpr hin))⟩
    case done =>
      have hcomes : ∀ k (hk : k < fields.length), (s.inPlant .run && !(s.circuit (n + k)).present &&
          fields[k].present == 1 && fields[k].tier != 0) = comes k := fun k hk => by rw [← hnew k hk]
      obtain ⟨htables, houtside, hinside, hrecord, hslots, hkept⟩ := circuitsTaken hfit hentries
        (fun k hk => hpasses k hk (hall k hk)) fun k hk h => hfree k hk ((hcomes k hk).symm.trans h)
      have hcoming : comingShed s.hamlet.entries n fields.length (circuitsStored n fields s) =
          (List.range fields.length).filter comes :=
        List.filter_congr fun k hk => (comesShed_stored (circuitsStored_for hfit hentries) (List.mem_range.mp hk)).trans
          (hcomes k (List.mem_range.mp hk))
      rw [hcoming] at hrecord
      refine ⟨_, hdone (circuitsCheck_done fun k hk => hpasses k hk (hall k hk)), htables,
        fun j _ hj => houtside j hj, fun k hk => ?_, hrecord.shed, hrecord.agree.sameRecord, hslots, hkept⟩
      have hafter : (s.circuit (n + k)).store fields[k] = after k := by
        rw [← hnew k hk]; rfl
      have hplaced := hinside k hk
      rw [hafter] at hplaced
      obtain ⟨hsame, hleaves, hjoins⟩ := placedCircuit_cases (run := s.inPlant .run) (before := (old k).present)
        (c := after k)
      refine ⟨fun h => hplaced.trans (hsame h), fun hbefore hpresent => hplaced.trans (hleaves hbefore hpresent),
        fun hbefore hpresent => ?_⟩
      have hopen : (after k).state ≠ .closed := by
        have hchanges : (old k).present ≠ (fields[k].present == 1) := by
          rw [hbefore, ← hnew k hk]
          exact fun h => absurd (h.trans hpresent) (by decide)
        exact beq_eq_false_iff_ne.mp (not_wanted_of_passes (hpasses k hk (hall k hk)) hchanges)
      obtain ⟨hdark, hcloses, hshed⟩ := hjoins hbefore hpresent hopen
      refine ⟨fun h => hplaced.trans (hdark (Bool.eq_false_iff.mpr (mt (inPlant_iff s _).mp h))),
        fun h htier => hplaced.trans (hcloses ((inPlant_iff s _).mpr h) htier), fun h => ?_⟩
      simp only [comes, Bool.and_eq_true, bne_iff_ne] at h
      obtain ⟨⟨⟨hrun, -⟩, -⟩, htier⟩ := h
      exact hplaced.trans (hshed hrun htier)

end Sys2Proof.Proofs
end
